-- ==== Sys2Proof/Word.lean ====
section
/-! DEFINITION. The byte, half-word and word of the request link and of the hinge sensor line (chapter Frame and Record
Formats: every field wider than a byte is sent most significant byte first). -/

namespace Sys2Proof

/-- One byte of a frame. -/
abbrev Byte := BitVec 8

/-- A two-byte field: a code, a tag, a length. -/
abbrev Half := BitVec 16

/-- A four-byte field: a fill colour, a buffer address. -/
abbrev Word := BitVec 32

end Sys2Proof
end

