-- ==== Sys2Proof/Config.lean ====
section
/-! DEFINITION. The constants the spec fixes for the part: levels of the health counter, timer lengths, table sizes and the
defaults of the settings. The spec leaves no constant to an implementation, so there is no free value here. -/

namespace Sys2Proof.Config

/-- One millisecond of the microsecond timebase. -/
def msUs : Nat := 1000

/-- R1: a cell must begin within 12 µs of the start of the one before. -/
def cellLimitUs : Nat := 12
/-- R1: a cell is a 1 when the line is low for 2 µs (2000 ns) or more. -/
def cellOneNs : Nat := 2000
/-- R2: the sync byte of a sensor frame. -/
def syncByte : Byte := 0xB4#8
/-- R5: good frames in a row that begin TRACKING. -/
def goodRun : Nat := 4
/-- R4, R5: where the streaks stop. -/
def streakMax : Nat := 255
/-- R7: the smallest rolling-count gap that re-seeds. -/
def gapLimit : Nat := 4

/-- R33: the debounce time of the fold switch. -/
def debounceMs : Nat := 8

/-- R94: the most jobs the handover queue holds. -/
def queueMax : Nat := 16
/-- R58: the entries of the variant pool. -/
def variantPool : Nat := 64
/-- R58: the most variants one record holds. -/
def variantsPerRecord : Nat := 4

/-- Chapter Panel Link Health: warning level. -/
def warningLevel : Nat := 48
/-- Chapter Panel Link Health: restore level. -/
def restoreLevel : Nat := 64
/-- Chapter Panel Link Health: degrade level. -/
def degradeLevel : Nat := 96
/-- Chapter Panel Link Health: offline level. -/
def offlineLevel : Nat := 192
/-- R150, R151: what an error adds to the health counter. -/
def errorStep : Nat := 6
/-- R150, R151: where the health counter stops. -/
def healthMax : Nat := 255
/-- R157, R158: automatic recovery attempts. -/
def attemptsMax : Nat := 3
/-- R159: the stability time. -/
def stableMs : Nat := 2000

/-- R173: opener of a write transaction. -/
def openWrite : Byte := 0xA1#8
/-- R173: opener of a read transaction. -/
def openRead : Byte := 0xA2#8
/-- R174: the longest payload. -/
def payloadMax : Nat := 250

/-- R186: TRAIN_OK. -/
def ackTrainOk : Byte := 0x5A#8
/-- R186: FRAME_OK. -/
def ackFrameOk : Byte := 0x3C#8
/-- R186: FRAME_BAD. -/
def ackFrameBad : Byte := 0xC3#8

/-- R170: the most records one READ_NOTICES reports. -/
def noticesPerRead : Nat := 8
/-- R64: the most handles one FIND_SURFACES lists. -/
def handlesPerFind : Nat := 16

end Sys2Proof.Config
end

