-- ==== Sys2Proof/Syntax.lean ====
section
/-! DEFINITION. The commands the part takes: one constructor per row of spec/opcode_table.json, with the row's operands. A
request's operands are the fields of its payload (chapter Frame and Record Formats), as raw bytes, because the owner's own
checks refuse values out of range. -/

namespace Sys2Proof

/-- Panel 0 or panel 1, each on its own leaf. -/
inductive PanelId where
  | p0
  | p1
  deriving DecidableEq, Repr, Inhabited

/-- What reception on HSNS ended with (R1): 32 frame bits, or a framing error. -/
inductive Reception where
  | frame (bits : BitVec 32)
  | framingError
  deriving DecidableEq, Repr

/-- The two bytes of a handle field: generation, then index (chapter Frame and Record Formats). -/
structure HandleField where
  gen : Byte
  idx : Byte
  deriving DecidableEq, Repr

/-- The 12 bytes of a buffer descriptor field (R52). -/
structure Descriptor where
  address : Word
  stride : Half
  width : Half
  height : Half
  tag : Half
  deriving DecidableEq, Repr

/-- The 8 bytes of a rectangle field; x and y are two's complement. -/
structure RectField where
  x : Half
  y : Half
  w : Half
  h : Half
  deriving DecidableEq, Repr

/-- The 18 bytes of a rule entry field (R72), as WRITE_RULE carries them. -/
structure RuleField where
  valid : Byte
  base : Half
  mask : Half
  targets : Vector Byte 5
  fits : Vector Byte 5
  fallback : Byte
  mode : Byte
  deadline : Byte
  deriving DecidableEq, Repr

/-- One command of the part: one row of spec/opcode_table.json. -/
inductive Instr where
  /-- WRITE_TRANSACTION: the whole bytes after the opener 0xA1, and the bits of a partial byte (R173, R175). -/
  | writeTransaction (bytes : List Byte) (partialBits : Nat)
  /-- READ_TRANSACTION: whether the opener met EXECUTING or RESETTING, and the whole bytes clocked after it (R177). -/
  | readTransaction (openedBusy : Bool) (clocked : Nat)
  /-- IGNORED_TRANSACTION: the opener, absent when fewer than eight bits were clocked (R173). -/
  | ignoredTransaction (opener : Option Byte)
  /-- POWER_ON_RESET: power-up or RST_N going low, and, given while it is low, its rise with the supplies in range (R180, log 6). -/
  | powerOnReset
  | powerOnResetEnd
  | softResetEnd
  | reset
  | hingeEnable (value : Byte)
  | readHinge
  | setCalibration (points : Vector Half 9)
  | setFilter (shift interval threshold silent limit : Byte)
  | lineIdle
  | frameArrival (r : Reception)
  | cellTimeout
  | silentExpiry
  | dwellExpiry
  /-- FOLD_EDGE: the raw level after the edge, true for asserted (R33). -/
  | foldEdge (level : Bool)
  | debounceExpiry
  | readPosture
  | setBands (b1 b2 b3 b4 margin dwell : Half)
  | setSwitch (use : Byte) (limit : Half)
  | forcePosture (code : Byte)
  | setFront (value : Byte)
  | setSpan (value : Byte)
  | createSurface (cls owner : Half) (home z flags : Byte) (fill : Word) (buffer : Option Descriptor)
  | offerBuffer (h : HandleField) (d : Descriptor)
  | amendSurface (h : HandleField) (presence z home : Byte) (cls owner : Half) (flags : Byte) (fill : Word)
  | setVariant (h : HandleField) (postures target fallback : Byte) (rect : Option RectField)
  | clearVariants (h : HandleField)
  | setFocus (h : HandleField)
  | lookupSurface (h : HandleField)
  | findSurfaces (kind : Byte) (value : Word) (cursor : Byte)
  | retireSurface (h : HandleField)
  | retireOwner (owner : Half)
  | writeRule (index : Byte) (e : RuleField)
  | readRule (index : Byte)
  | moveSurface (h : HandleField) (target : Byte) (rect : Option RectField)
  /-- DEADLINE_EXPIRY: the table index of the record whose job's timer expires (R105). -/
  | deadlineExpiry (record : Fin 40)
  | readQueue
  | offTimeExpiry (p : PanelId)
  | railStageEnd (p : PanelId)
  | resetStageEnd (p : PanelId)
  | trainingExpiry (p : PanelId)
  | powerDownEnd (p : PanelId)
  | trainOk (p : PanelId)
  | frameOk (p : PanelId)
  | frameBad (p : PanelId)
  /-- UNKNOWN_ACK_CODE: the byte and its stop bit, true for high (R186). -/
  | unknownAckCode (p : PanelId) (code : Byte) (stop : Bool)
  | frameStart (p : PanelId)
  | stagingCutoff (p : PanelId)
  | quietExpiry (p : PanelId)
  | stabilityExpiry (p : PanelId)
  | setPanelGeometry (w h g : Half)
  | setRefresh (panel : Byte) (period lead : Half)
  | setPowerTiming (rail rst train down off quiet : Half)
  | panelEnable (panel value : Byte)
  | setLending (lender count : Byte)
  | readPanel (panel : Byte)
  | panelRecover (panel : Byte)
  | setRecoveryMode (panel recovery capture : Byte)
  | readStatus
  | ackAttention (flags : Byte)
  | attnEnable (flags : Byte)
  | attnDisable (flags : Byte)
  | setNoticeThreshold (value : Byte)
  | readNotices
  /-- HSNS_CELL: how long the line was low, in nanoseconds (R1). -/
  | hsnsCell (lowNs : Nat)
  | ackPathIdle (p : PanelId)
  deriving DecidableEq, Repr

end Sys2Proof
end

