-- ==== Sys2Proof/WellFormed.lean ====
section
/-! DEFINITION. Which commands can reach the part as the row they are written as. A request with a value out of range is well
formed: its owner refuses it, and the refusal is modelled. -/

namespace Sys2Proof

/-- R186: a byte that is none of the three kinds, or a byte whose stop bit is low. -/
def unknownAck (code : Byte) (stop : Bool) : Bool :=
  !stop || !(code == Config.ackTrainOk || code == Config.ackFrameOk || code == Config.ackFrameBad)

/-- R173: an opener that makes a transaction an ignored one. -/
def ignoredOpener (opener : Option Byte) : Bool :=
  !(opener == some Config.openWrite || opener == some Config.openRead)

/-- A command is well formed when its operands are those of its row: a partial byte has fewer than eight bits (R173), an
ignored transaction has neither known opener (R173), an unknown acknowledgement code is one (R186). -/
def Instr.wf : Instr → Bool
  | .writeTransaction _ partialBits => partialBits < 8
  | .ignoredTransaction opener => ignoredOpener opener
  | .unknownAckCode _ code stop => unknownAck code stop
  | _ => true

end Sys2Proof
end

