-- ==== Sys2Proof/Decode.lean ====
section
/-! DEFINITION. Decoding: the bits of spec/opcode_table.json (the table gives none), and request frames (R174, R175, R184 and
the table of request payloads in chapter Frame and Record Formats), total on any bytes and refusing by name. -/

namespace Sys2Proof

/-- The command a word spells by the bits of spec/opcode_table.json. No row of the table gives bits, so no word spells one. -/
def decodeTableWord (_nbits _w : Nat) : Option Instr := none

/-- A two-byte field, most significant byte first. -/
def half (a b : Byte) : Half := a ++ b

/-- A four-byte field, most significant byte first. -/
def word (a b c d : Byte) : Word := (a ++ b) ++ (c ++ d)

/-- Why the link refuses a frame's code and length: checks 3 and 4 of R175. -/
inductive RequestError where
  /-- Check 3: the code is none of the request codes. -/
  | unknownRequest
  /-- Check 4: the payload has no length listed for the code. -/
  | badLength
  deriving DecidableEq, Repr

/-- The request codes, for check 3 of R175. -/
def requestCodes : List Byte :=
  [0x10#8, 0x11#8, 0x12#8, 0x13#8, 0x20#8, 0x21#8, 0x22#8, 0x23#8, 0x24#8, 0x25#8] ++
  [0x30#8, 0x31#8, 0x32#8, 0x33#8, 0x34#8, 0x35#8, 0x36#8, 0x37#8, 0x38#8, 0x39#8] ++
  [0x40#8, 0x41#8, 0x42#8, 0x43#8, 0x50#8, 0x51#8, 0x52#8, 0x53#8, 0x54#8, 0x55#8, 0x56#8, 0x57#8] ++
  [0x60#8, 0x61#8, 0x62#8, 0x63#8, 0x64#8, 0x65#8, 0x70#8]

/-- The hinge and posture requests by code and payload. -/
def decodeHingePosture (code : Byte) (payload : List Byte) : Option Instr :=
  match code.toNat, payload with
  | 0x10, [v] => some (.hingeEnable v)
  | 0x11, [] => some .readHinge
  | 0x12, [a0, b0, a1, b1, a2, b2, a3, b3, a4, b4, a5, b5, a6, b6, a7, b7, a8, b8] =>
    some (.setCalibration #v[half a0 b0, half a1 b1, half a2 b2, half a3 b3, half a4 b4, half a5 b5, half a6 b6,
      half a7 b7, half a8 b8])
  | 0x13, [k, d, m, t, l] => some (.setFilter k d m t l)
  | 0x20, [] => some .readPosture
  | 0x21, [a0, b0, a1, b1, a2, b2, a3, b3, a4, b4, a5, b5] =>
    some (.setBands (half a0 b0) (half a1 b1) (half a2 b2) (half a3 b3) (half a4 b4) (half a5 b5))
  | 0x22, [u, a, b] => some (.setSwitch u (half a b))
  | 0x23, [p] => some (.forcePosture p)
  | 0x24, [v] => some (.setFront v)
  | 0x25, [v] => some (.setSpan v)
  | _, _ => none

/-- A buffer descriptor field. -/
def descriptorField (a0 a1 a2 a3 s0 s1 w0 w1 h0 h1 t0 t1 : Byte) : Descriptor :=
  ⟨word a0 a1 a2 a3, half s0 s1, half w0 w1, half h0 h1, half t0 t1⟩

/-- A rectangle field. -/
def rectField (x0 x1 y0 y1 w0 w1 h0 h1 : Byte) : RectField := ⟨half x0 x1, half y0 y1, half w0 w1, half h0 h1⟩

/-- The surface requests by code and payload; the longer form of a request carries its optional part (R184). -/
def decodeSurface (code : Byte) (payload : List Byte) : Option Instr :=
  match code.toNat, payload with
  | 0x30, [c0, c1, o0, o1, hm, z, fl, f0, f1, f2, f3] =>
    some (.createSurface (half c0 c1) (half o0 o1) hm z fl (word f0 f1 f2 f3) none)
  | 0x30, [c0, c1, o0, o1, hm, z, fl, f0, f1, f2, f3, a0, a1, a2, a3, s0, s1, w0, w1, h0, h1, t0, t1] =>
    some (.createSurface (half c0 c1) (half o0 o1) hm z fl (word f0 f1 f2 f3)
      (some (descriptorField a0 a1 a2 a3 s0 s1 w0 w1 h0 h1 t0 t1)))
  | 0x31, [g, i, a0, a1, a2, a3, s0, s1, w0, w1, h0, h1, t0, t1] =>
    some (.offerBuffer ⟨g, i⟩ (descriptorField a0 a1 a2 a3 s0 s1 w0 w1 h0 h1 t0 t1))
  | 0x32, [g, i, pr, z, hm, c0, c1, o0, o1, fl, f0, f1, f2, f3] =>
    some (.amendSurface ⟨g, i⟩ pr z hm (half c0 c1) (half o0 o1) fl (word f0 f1 f2 f3))
  | 0x33, [g, i, ps, t, fb] => some (.setVariant ⟨g, i⟩ ps t fb none)
  | 0x33, [g, i, ps, t, fb, x0, x1, y0, y1, w0, w1, h0, h1] =>
    some (.setVariant ⟨g, i⟩ ps t fb (some (rectField x0 x1 y0 y1 w0 w1 h0 h1)))
  | 0x34, [g, i] => some (.clearVariants ⟨g, i⟩)
  | 0x35, [g, i] => some (.lookupSurface ⟨g, i⟩)
  | 0x36, [k, v0, v1, v2, v3, c] => some (.findSurfaces k (word v0 v1 v2 v3) c)
  | 0x37, [g, i] => some (.retireSurface ⟨g, i⟩)
  | 0x38, [o0, o1] => some (.retireOwner (half o0 o1))
  | 0x39, [g, i] => some (.setFocus ⟨g, i⟩)
  | _, _ => none

/-- A rule entry field. -/
def ruleField (v b0 b1 m0 m1 t1 t2 t3 t4 t5 f1 f2 f3 f4 f5 fb md dl : Byte) : RuleField :=
  ⟨v, half b0 b1, half m0 m1, #v[t1, t2, t3, t4, t5], #v[f1, f2, f3, f4, f5], fb, md, dl⟩

/-- The rule, move, queue, panel, attention and reset requests by code and payload. -/
def decodeOther (code : Byte) (payload : List Byte) : Option Instr :=
  match code.toNat, payload with
  | 0x40, [n, v, b0, b1, m0, m1, t1, t2, t3, t4, t5, f1, f2, f3, f4, f5, fb, md, dl] =>
    some (.writeRule n (ruleField v b0 b1 m0 m1 t1 t2 t3 t4 t5 f1 f2 f3 f4 f5 fb md dl))
  | 0x41, [n] => some (.readRule n)
  | 0x42, [g, i, t] => some (.moveSurface ⟨g, i⟩ t none)
  | 0x42, [g, i, t, x0, x1, y0, y1, w0, w1, h0, h1] =>
    some (.moveSurface ⟨g, i⟩ t (some (rectField x0 x1 y0 y1 w0 w1 h0 h1)))
  | 0x43, [] => some .readQueue
  | 0x50, [w0, w1, h0, h1, g0, g1] => some (.setPanelGeometry (half w0 w1) (half h0 h1) (half g0 g1))
  | 0x51, [p, a0, a1, l0, l1] => some (.setRefresh p (half a0 a1) (half l0 l1))
  | 0x52, [a0, a1, b0, b1, c0, c1, d0, d1, e0, e1, f0, f1] =>
    some (.setPowerTiming (half a0 a1) (half b0 b1) (half c0 c1) (half d0 d1) (half e0 e1) (half f0 f1))
  | 0x53, [p, v] => some (.panelEnable p v)
  | 0x54, [l, n] => some (.setLending l n)
  | 0x55, [p] => some (.readPanel p)
  | 0x56, [p] => some (.panelRecover p)
  | 0x57, [p, r, c] => some (.setRecoveryMode p r c)
  | 0x60, [] => some .readStatus
  | 0x61, [f] => some (.ackAttention f)
  | 0x62, [f] => some (.attnEnable f)
  | 0x63, [f] => some (.attnDisable f)
  | 0x64, [v] => some (.setNoticeThreshold v)
  | 0x65, [] => some .readNotices
  | 0x70, [] => some .reset
  | _, _ => none

/-- Checks 3 and 4 of R175: the request a code and payload spell. -/
def decodeRequest (code : Byte) (payload : List Byte) : Except RequestError Instr :=
  if requestCodes.contains code then
    match (decodeHingePosture code payload <|> decodeSurface code payload) <|> decodeOther code payload with
    | some i => .ok i
    | none => .error .badLength
  else .error .unknownRequest

end Sys2Proof
end

