-- ==== Sys2Proof/Machine/State.lean ====
section
/-! DEFINITION. The state of the part as plain data: every piece of state the spec names (INVENTORY.md lists each with its
rule), the queue of waiting commands, and the state right after a power-on reset. -/

namespace Sys2Proof.Machine

/-- A timer: the microsecond at which it expires, or stopped. -/
abbrev Timer := Option Nat

/-! ### Hinge Input Unit (chapter Hinge Angle Measurement) -/

/-- R1: the receive state, with the bits of a frame in progress in the order received. -/
inductive RecvState where
  | idleWait
  | ready
  | inFrame (bits : List Bool)
  deriving DecidableEq, Repr

/-- R8 to R11: the hinge input state. -/
inductive HingeState where
  | disabled
  | acquiring
  | tracking
  | lost
  deriving DecidableEq, Repr

/-- R2, R3: the cause of a bad event. -/
inductive BadCause where
  | none
  | framing
  | sync
  | check
  | field
  | silent
  deriving DecidableEq, Repr

/-- The Hinge Input Unit's state. -/
structure Hinge where
  enabled : Bool
  recv : RecvState
  cellTimer : Timer
  input : HingeState
  good : Nat
  bad : Nat
  lastCause : BadCause
  marginal : Bool
  expected : Option (Fin 16)
  lastGap : Fin 16
  lastRaw : Nat
  /-- corrected angle A -/
  angle : Nat
  /-- calibration table C0..C8 -/
  cal : Vector Nat 9
  /-- filter accumulator S -/
  acc : Nat
  /-- filtered angle F -/
  filtered : Nat
  /-- motion window, oldest first -/
  window : Vector Nat 8
  divider : Nat
  /-- motion measure M -/
  motion : Nat
  swinging : Bool
  reseedPending : Bool
  refillPending : Bool
  silentTimer : Timer
  /-- filter shift k -/
  shift : Nat
  /-- sample interval D -/
  interval : Nat
  threshold : Nat
  silentMs : Nat
  badLimit : Nat
  deriving DecidableEq, Repr

/-! ### Posture Classifier (chapter Posture) -/

inductive Posture where
  | unknown
  | closed
  | book
  | flat
  | tent
  | folded
  deriving DecidableEq, Repr

/-- R27, R28: the dwell state. -/
inductive Dwell where
  | idle
  | running (expiry : Nat)
  | deferred
  deriving DecidableEq, Repr

/-- The Posture Classifier's state. -/
structure Classifier where
  committed : Posture
  candidate : Posture
  dwell : Dwell
  disagreement : Bool
  b1 : Nat
  b2 : Nat
  b3 : Nat
  b4 : Nat
  /-- hysteresis margin H -/
  margin : Nat
  dwellMs : Nat
  switchUse : Bool
  agreeLimit : Nat
  /-- the FOLD pin, true for asserted -/
  rawLevel : Bool
  debounced : Bool
  debounceTimer : Timer
  front : PanelId
  span : Bool
  deriving DecidableEq, Repr

/-! ### Surface Table (chapter The Surface Table) -/

/-- R44: a record's name: generation and index. -/
structure Handle where
  gen : Fin 16
  index : Fin 40
  deriving DecidableEq, Repr

structure Rect where
  x : Int
  y : Int
  w : Nat
  h : Nat
  deriving DecidableEq, Repr

structure Size where
  w : Nat
  h : Nat
  deriving DecidableEq, Repr

/-- A buffer given by an offer. `serial` tells two offers with equal descriptors apart (R138). -/
structure Buffer where
  serial : Nat
  desc : Descriptor
  deriving DecidableEq, Repr

inductive Target where
  | home
  | other
  | front
  | span
  | park
  deriving DecidableEq, Repr

inductive Fallback where
  | move
  | park
  deriving DecidableEq, Repr

inductive Fit where
  | full
  | keep
  deriving DecidableEq, Repr

inductive HandoverMode where
  | make
  | brk
  deriving DecidableEq, Repr

/-- A subset of the five postures that have bands (R58). -/
structure PostureSet where
  closed : Bool
  book : Bool
  flat : Bool
  tent : Bool
  folded : Bool
  deriving DecidableEq, Repr

/-- One value for each of the five postures that have bands (R72). -/
structure PerPosture (α : Type) where
  closed : α
  book : α
  flat : α
  tent : α
  folded : α
  deriving DecidableEq, Repr

/-- R58: a variant pool entry in use. -/
structure Variant where
  postures : PostureSet
  target : Target
  rect : Option Rect
  fallback : Fallback
  deriving DecidableEq, Repr

/-- R81: a move override. -/
structure MoveOverride where
  target : Target
  rect : Option Rect
  deriving DecidableEq, Repr

/-- R69: the six notice marks. -/
structure Marks where
  placement : Bool
  wanted : Bool
  stale : Bool
  evicted : Bool
  released : Bool
  retired : Bool
  deriving DecidableEq, Repr

/-- No mark. -/
def Marks.empty : Marks := ⟨false, false, false, false, false, false⟩

/-- R45: a piece of a placement. -/
structure Piece where
  panel : PanelId
  slot : Fin 16
  dest : Rect
  srcX : Nat
  srcY : Nat
  rotated : Bool
  deriving DecidableEq, Repr

/-- R46: the state of a record that is neither FREE nor RETIRED. -/
inductive RecordState where
  | new
  | placed
  | parked
  | moving
  | retiring
  deriving DecidableEq, Repr

/-- R45: a record that is neither FREE nor RETIRED. -/
structure Record where
  state : RecordState
  cls : Half
  owner : Half
  home : PanelId
  z : Byte
  redraw : Bool
  placeholder : Bool
  fill : Word
  current : Option Buffer
  pending : Option Buffer
  wanted : Option Size
  released : Option Half
  pieces : List Piece
  rect : Option Rect
  variants : List Variant
  moveTo : Option MoveOverride
  marks : Marks
  staleContent : Bool
  resPending : Bool
  deriving DecidableEq, Repr

/-- R45, R46: what a record slot holds. A RETIRED record keeps its released tag and its marks, no other field. -/
inductive TableSlot where
  | free
  | used (r : Record)
  | retired (released : Option Half) (marks : Marks)
  deriving DecidableEq, Repr

/-- The Surface Table's state. -/
structure Table where
  slots : Vector TableSlot 40
  gens : Vector (Fin 16) 40
  focus : Option Handle
  cursor : Fin 40
  deriving DecidableEq, Repr

/-! ### Placement Resolver and Handover Engine -/

/-- R72: a placement rule entry. -/
structure Rule where
  valid : Bool
  base : Half
  mask : Half
  targets : PerPosture Target
  fits : PerPosture Fit
  fallback : Fallback
  mode : HandoverMode
  /-- buffer deadline in steps of 10 ms -/
  deadline : Nat
  deriving DecidableEq, Repr

/-- R82: where a target rectangle lies. -/
inductive Area where
  | panel (p : PanelId)
  | canvas
  deriving DecidableEq, Repr

/-- R89, R95: a target piece, with its layer slot once one is assigned. -/
structure TargetPiece where
  panel : PanelId
  dest : Rect
  srcX : Nat
  srcY : Nat
  rotated : Bool
  slot : Option (Fin 16)
  deriving DecidableEq, Repr

/-- R89: a target that is shown. -/
structure ShownTarget where
  area : Area
  rect : Rect
  pieces : List TargetPiece
  deriving DecidableEq, Repr

/-- R89: a resolution; `shown` is absent for PARK. -/
structure Resolution where
  shown : Option ShownTarget
  wanted : Option Size
  mode : HandoverMode
  deadlineMs : Nat
  deriving DecidableEq, Repr

/-- R95: the phase of a job. -/
inductive Phase where
  | preparing
  | slotWait
  | stepOne
  | stepTwo
  deriving DecidableEq, Repr

/-- R111: what a slot action does. -/
inductive ActionKind where
  | attach
  | restage
  | removal
  deriving DecidableEq, Repr

/-- R111: an action of a step on a layer slot. -/
structure SlotAction where
  kind : ActionKind
  slot : Fin 16
  deriving DecidableEq, Repr

/-- R95: a handover job. -/
structure Job where
  handle : Handle
  target : Resolution
  /-- the buffer condition: true for WAITING, false for SETTLED -/
  waiting : Bool
  expiry : Timer
  phase : Phase
  stepOne : List SlotAction
  stepTwo : List SlotAction
  /-- the actions of the step under way that no event has settled yet -/
  outstanding : List SlotAction
  next : Option Resolution
  deriving DecidableEq, Repr

/-! ### Panel Controllers and Layer Slot Bank -/

/-- R125: the stage of a power-up. -/
inductive PowerStage where
  | rail
  | reset
  | training
  deriving DecidableEq, Repr

/-- R123: the panel state. -/
inductive PanelMode where
  | off
  | poweringUp (stage : PowerStage)
  | on
  | degraded
  | poweringDown
  | offline
  deriving DecidableEq, Repr

/-- The last link error of a panel (R150, R151). -/
inductive LinkError where
  | none
  | ackError
  | ackTimeout
  deriving DecidableEq, Repr

/-- R157, R158: the recovery mode. -/
inductive RecoveryMode where
  | auto
  | hold
  deriving DecidableEq, Repr

/-- R156: the capture mode. -/
inductive CaptureMode where
  | first
  | all
  deriving DecidableEq, Repr

/-- R154: the cause of an entry to OFFLINE. -/
inductive FaultCause where
  | trainFail
  | ackError
  | ackTimeout
  deriving DecidableEq, Repr

/-- R156: the fault cause of a panel, a set. -/
structure FaultSet where
  trainFail : Bool
  ackError : Bool
  ackTimeout : Bool
  deriving DecidableEq, Repr

/-- The empty fault cause. -/
def FaultSet.empty : FaultSet := ⟨false, false, false⟩

/-- One Panel Controller's state. -/
structure Panel where
  mode : PanelMode
  planLit : Bool
  enabled : Bool
  seqTimer : Timer
  offTimer : Timer
  quietTimer : Timer
  stableTimer : Timer
  counter : Nat
  period : Nat
  lead : Nat
  pendPeriod : Option Nat
  pendLead : Option Nat
  effective : Nat
  cutoffDone : Bool
  ackOwed : Bool
  pathHeld : Bool
  /-- the live stack since the last frame start, bottom first -/
  stack : List (Fin 16)
  health : Nat
  warning : Bool
  linkError : LinkError
  attempts : Nat
  recovery : RecoveryMode
  capture : CaptureMode
  fault : FaultSet
  deriving DecidableEq, Repr

/-- The two Panel Controllers. -/
structure Panels where
  p0 : Panel
  p1 : Panel
  deriving DecidableEq, Repr

/-- R135: the joined mode state. -/
inductive JoinedMode where
  | notJoined
  | lockPending
  | joined
  deriving DecidableEq, Repr

/-- What the two controllers and the slot bank share: geometry, power timings, joined mode and lending. -/
structure Shared where
  width : Nat
  height : Nat
  seam : Nat
  tRail : Nat
  tRst : Nat
  tTrain : Nat
  tDown : Nat
  tOff : Nat
  tQuiet : Nat
  joined : JoinedMode
  lender : PanelId
  lent : Nat
  deriving DecidableEq, Repr

/-- R138: the fetch mode of a configuration. -/
inductive FetchMode where
  | increment
  | decrement
  | fill
  deriving DecidableEq, Repr

/-- R138: a full configuration of a layer slot, with the rotated mark that R113 stages with it. -/
structure SlotConfig where
  owner : Handle
  dest : Rect
  srcX : Nat
  srcY : Nat
  rotated : Bool
  buffer : Option Buffer
  fetch : FetchMode
  fill : Word
  z : Byte
  focus : Bool
  deriving DecidableEq, Repr

/-- R133, R138: a staged configuration, full or a removal, with its due mark. -/
inductive Staged where
  | full (cfg : SlotConfig) (due : Bool)
  | removal (due : Bool)
  deriving DecidableEq, Repr

/-- R138: a layer slot. -/
inductive LayerSlot where
  | free
  | claimed (owner : Handle) (staged : Option Staged)
  | live (owner : Handle) (cfg : SlotConfig) (staged : Option Staged)
  deriving DecidableEq, Repr

/-! ### Attention Unit and Request Link -/

/-- A set of the seven attention flags. -/
structure FlagSet where
  posture : Bool
  notice : Bool
  hinge : Bool
  panel : Bool
  backlog : Bool
  link : Bool
  resetDone : Bool
  deriving DecidableEq, Repr

/-- No flag. -/
def FlagSet.empty : FlagSet := ⟨false, false, false, false, false, false, false⟩

/-- All seven flags. -/
def FlagSet.all : FlagSet := ⟨true, true, true, true, true, true, true⟩

/-- The Attention Unit's state. -/
structure Attention where
  flags : FlagSet
  mask : FlagSet
  threshold : Nat
  marked : Nat
  wantedInd : Bool
  deriving DecidableEq, Repr

/-- The link state (chapter The Request Link). -/
inductive LinkState where
  | idle
  | executing
  | responseReady
  | resetting
  deriving DecidableEq, Repr

/-- Which reset RESETTING belongs to (R180, R181). `held` is the part before a power-on reset begins: RST_N is low or the supplies are
coming up, and the link takes no transaction. -/
inductive ResetKind where
  | held
  | powerOn
  | soft
  deriving DecidableEq, Repr

/-- The Request Link's state. -/
structure Link where
  state : LinkState
  buffer : Option (List Byte)
  readPos : Nat
  /-- the request handed to its owner and not yet executed (R176) -/
  executing : Option Instr
  reset : Option ResetKind
  /-- the response bytes shifted out in the last read transaction: the model's record of SDO -/
  sdo : List Byte
  deriving DecidableEq, Repr

/-! ### The whole part -/

/-- The state of the part, and the queue of the commands that wait. -/
structure State where
  hinge : Hinge
  posture : Classifier
  table : Table
  rules : Vector Rule 16
  queue : List Job
  panels : Panels
  shared : Shared
  slots : Vector LayerSlot 16
  attn : Attention
  link : Link
  /-- the microsecond timebase -/
  now : Nat
  /-- how many buffers have been given: the serial of the next -/
  offers : Nat
  /-- the commands that wait, first in, first out -/
  pending : List Instr
  deriving DecidableEq, Repr

/-- Why the machine stops. The spec names no condition that stops the part: every error it describes is a response status
(R178), an attention flag (R163), a bad event (R4) or a panel that goes OFFLINE (R154). So there is no fault. -/
inductive Fault where
  deriving DecidableEq, Repr

/-- Why a command has no meaning here. -/
inductive Refusal where
  /-- A row whose meaning is not written. Raised by an arm of `exec` alone; no arm raises it. Safe: the machine stops. -/
  | notModelled (mnemonic : String)
  deriving DecidableEq, Repr

/-! ### The state right after a power-on reset -/

/-- R21: the Hinge Input Unit after a power-on reset that ends at time `now`. -/
def Hinge.powerOn (now : Nat) : Hinge where
  enabled := true
  recv := .idleWait
  cellTimer := none
  input := .acquiring
  good := 0
  bad := 0
  lastCause := .none
  marginal := false
  expected := none
  lastGap := 0
  lastRaw := 0
  angle := 0
  cal := #v[0, 450, 900, 1350, 1800, 2250, 2700, 3150, 3600]
  acc := 0
  filtered := 0
  window := #v[0, 0, 0, 0, 0, 0, 0, 0]
  divider := 0
  motion := 0
  swinging := false
  reseedPending := false
  refillPending := false
  silentTimer := some (now + 5 * Config.msUs)
  shift := 2
  interval := 8
  threshold := 40
  silentMs := 5
  badLimit := 8

/-- R43: the Posture Classifier after a power-on reset that ends at time `now` with the FOLD pin at `raw`. -/
def Classifier.powerOn (now : Nat) (raw : Bool) : Classifier where
  committed := .unknown
  candidate := .unknown
  dwell := .idle
  disagreement := false
  b1 := 150
  b2 := 1550
  b3 := 2050
  b4 := 3300
  margin := 40
  dwellMs := 120
  switchUse := true
  agreeLimit := 250
  rawLevel := raw
  debounced := false
  debounceTimer := some (now + Config.debounceMs * Config.msUs)
  front := .p0
  span := false

/-- R70: the Surface Table after a power-on reset. -/
def Table.powerOn : Table where
  slots := Vector.replicate 40 .free
  gens := Vector.replicate 40 0
  focus := none
  cursor := 0

/-- R72: a rule entry after a power-on reset. -/
def Rule.powerOn : Rule where
  valid := false
  base := 0
  mask := 0
  targets := ⟨.park, .park, .park, .park, .park⟩
  fits := ⟨.full, .full, .full, .full, .full⟩
  fallback := .move
  mode := .brk
  deadline := 0

/-- R148, R162: a Panel Controller after a power-on reset. -/
def Panel.powerOn : Panel where
  mode := .off
  planLit := false
  enabled := true
  seqTimer := none
  offTimer := none
  quietTimer := none
  stableTimer := none
  counter := 0
  period := 16667
  lead := 1500
  pendPeriod := none
  pendLead := none
  effective := 0
  cutoffDone := false
  ackOwed := false
  pathHeld := false
  stack := []
  health := 0
  warning := false
  linkError := .none
  attempts := 0
  recovery := .auto
  capture := .first
  fault := .empty

/-- R145, R148: what the controllers share after a power-on reset. -/
def Shared.powerOn : Shared where
  width := 1440
  height := 1920
  seam := 32
  tRail := 10
  tRst := 5
  tTrain := 50
  tDown := 20
  tOff := 100
  tQuiet := 500
  joined := .notJoined
  lender := .p0
  lent := 0

/-- R172: the Attention Unit when a power-on reset has ended. -/
def Attention.powerOn : Attention where
  flags := { FlagSet.empty with resetDone := true }
  mask := .all
  threshold := 1
  marked := 0
  wantedInd := false

/-- R182: the Request Link when a reset has ended. -/
def Link.powerOn : Link where
  state := .idle
  buffer := none
  readPos := 0
  executing := none
  reset := none
  sdo := []

/-- The part when a power-on reset has ended at time `now` with the FOLD pin at `raw` and the commands `pending` waiting. -/
def State.powerOn (now : Nat) (raw : Bool) (pending : List Instr) : State where
  hinge := .powerOn now
  posture := .powerOn now raw
  table := .powerOn
  rules := Vector.replicate 16 .powerOn
  queue := []
  panels := ⟨.powerOn, .powerOn⟩
  shared := .powerOn
  slots := Vector.replicate 16 .free
  attn := .powerOn
  link := .powerOn
  now := now
  offers := 0
  pending := pending

/-- The part right after power-on reset (R21, R43, R70, R72, R122, R148, R162, R172, R182). DESIGN CHOICE (log 10, log 18):
the FOLD pin is released and the timebase stands at 0. -/
def State.reset : State := .powerOn 0 false []

end Sys2Proof.Machine
end

