-- ==== Sys2Proof/Machine/Ops.lean ====
section
/-! DEFINITION. The named operations over the part's state: time, panels, records, layer slots, jobs, and the event under way
that carries what is still to be done before the event ends. -/

namespace Sys2Proof.Machine

/-! ### Panels -/

/-- "The other panel" (00_scope, Conventions). -/
def otherPanel : PanelId → PanelId
  | .p0 => .p1
  | .p1 => .p0

def Panels.get (ps : Panels) : PanelId → Panel
  | .p0 => ps.p0
  | .p1 => ps.p1

def Panels.put (ps : Panels) (p : PanelId) (x : Panel) : Panels :=
  match p with
  | .p0 => { ps with p0 := x }
  | .p1 => { ps with p1 := x }

def State.panel (s : State) (p : PanelId) : Panel := s.panels.get p

def State.setPanel (s : State) (p : PanelId) (x : Panel) : State := { s with panels := s.panels.put p x }

def State.modPanel (s : State) (p : PanelId) (f : Panel → Panel) : State := s.setPanel p (f (s.panel p))

/-- R123: the lit demand. -/
def Panel.litDemand (x : Panel) : Bool := x.planLit && x.enabled

/-- R123: in service is ON or DEGRADED. -/
def Panel.inService (x : Panel) : Bool :=
  match x.mode with
  | .on => true
  | .degraded => true
  | _ => false

def Panel.isOffline (x : Panel) : Bool :=
  match x.mode with
  | .offline => true
  | _ => false

/-- R79: dark is lit demand off, or OFFLINE. -/
def Panel.dark (x : Panel) : Bool := !x.litDemand || x.isOffline

/-! ### Time -/

/-- The frame counter runs in service, up to compare A (R131). -/
def Panel.elapse (x : Panel) (us : Nat) : Panel :=
  if x.inService then { x with counter := min (x.counter + us) x.effective } else x

/-- `us` microseconds pass on the timebase. -/
def State.elapse (s : State) (us : Nat) : State :=
  { s with now := s.now + us, panels := ⟨s.panels.p0.elapse us, s.panels.p1.elapse us⟩ }

/-- The timebase stands at `t` at least: what a timer's expiry at `t` says of the time (log 3). -/
def State.reach (s : State) (t : Nat) : State := s.elapse (t - s.now)

/-- The time `ms` milliseconds from now. -/
def State.after (s : State) (ms : Nat) : Nat := s.now + ms * Config.msUs

/-- A timer started for `ms` milliseconds; one started for 0 has expired at once (R124). -/
def State.timerFor (s : State) (ms : Nat) : Timer := if ms = 0 then none else some (s.after ms)

/-- Milliseconds to an expiry time, rounded up (R38, R121). -/
def State.remainingMs (s : State) (t : Nat) : Nat := (t - s.now + (Config.msUs - 1)) / Config.msUs

/-! ### Records -/

/-- The indexes of the record slots, ascending. -/
def allRecords : List (Fin 40) := List.finRange 40

def State.entry (s : State) (i : Fin 40) : TableSlot := s.table.slots[i]

def State.setEntry (s : State) (i : Fin 40) (e : TableSlot) : State :=
  { s with table := { s.table with slots := s.table.slots.set i e } }

def TableSlot.record? : TableSlot → Option Record
  | .used r => some r
  | _ => none

def TableSlot.isFree : TableSlot → Bool
  | .free => true
  | _ => false

def TableSlot.isRetired : TableSlot → Bool
  | .retired _ _ => true
  | _ => false

/-- The record in slot `i`, when it is neither FREE nor RETIRED. -/
def State.record? (s : State) (i : Fin 40) : Option Record := (s.entry i).record?

def State.modRecord (s : State) (i : Fin 40) (f : Record → Record) : State :=
  match s.record? i with
  | some r => s.setEntry i (.used (f r))
  | none => s

/-- Every record that is neither FREE nor RETIRED is changed by `f`. -/
def State.mapRecords (s : State) (f : Record → Record) : State :=
  { s with table := { s.table with slots := Vector.ofFn fun i : Fin 40 =>
      match s.table.slots[i] with
      | .used r => .used (f r)
      | e => e } }

def State.gen (s : State) (i : Fin 40) : Fin 16 := s.table.gens[i]

def State.handle (s : State) (i : Fin 40) : Handle := ⟨s.gen i, i⟩

/-- R44, R68: the slot's generation advances by one, modulo 16. -/
def State.advanceGen (s : State) (i : Fin 40) : State :=
  { s with table := { s.table with gens := s.table.gens.set i (s.gen i + 1) } }

/-- The record is named by the focus register. -/
def State.isFocus (s : State) (i : Fin 40) : Bool :=
  match s.table.focus with
  | some h => h.index == i
  | none => false

/-- R69: the marks a record slot holds. -/
def TableSlot.marks : TableSlot → Marks
  | .free => .empty
  | .used r => r.marks
  | .retired _ m => m

def Marks.any (m : Marks) : Bool := m.placement || m.wanted || m.stale || m.evicted || m.released || m.retired

def State.setMarks (s : State) (i : Fin 40) (f : Marks → Marks) : State :=
  s.modRecord i fun r => { r with marks := f r.marks }

/-- R46: a record for which the Placement Resolver computes targets. -/
def Record.resolvable (r : Record) : Bool :=
  match r.state with
  | .placed => true
  | .parked => true
  | .moving => true
  | .new => r.placeholder
  | .retiring => false

/-- R58: the free entries of the variant pool. -/
def State.freeVariants (s : State) : Nat :=
  Config.variantPool - (allRecords.map fun i => ((s.record? i).elim 0 fun r => r.variants.length)).sum

/-! ### Layer slots -/

/-- The numbers of the layer slots, ascending. -/
def allSlots : List (Fin 16) := List.finRange 16

def State.slot (s : State) (k : Fin 16) : LayerSlot := s.slots[k]

def State.setSlot (s : State) (k : Fin 16) (x : LayerSlot) : State := { s with slots := s.slots.set k x }

/-- R142: the panel that uses a slot under a lending setting. -/
def usingPanel (lender : PanelId) (lent : Nat) (k : Fin 16) : PanelId :=
  if k.val < 8 then (if lender = .p0 ∧ 8 - lent ≤ k.val then .p1 else .p0)
  else (if lender = .p1 ∧ 16 - lent ≤ k.val then .p0 else .p1)

/-- R138: the using panel of a slot. -/
def State.user (s : State) (k : Fin 16) : PanelId := usingPanel s.shared.lender s.shared.lent k

def State.uses (s : State) (p : PanelId) (k : Fin 16) : Bool := s.user k == p

/-- R142: how many slots a panel uses. -/
def usableCount (lender : PanelId) (lent : Nat) (p : PanelId) : Nat :=
  if lender = p then 8 - lent else 8 + lent

def LayerSlot.owner? : LayerSlot → Option Handle
  | .free => none
  | .claimed o _ => some o
  | .live o _ _ => some o

def LayerSlot.staged? : LayerSlot → Option Staged
  | .free => none
  | .claimed _ st => st
  | .live _ _ st => st

def LayerSlot.cfg? : LayerSlot → Option SlotConfig
  | .live _ c _ => some c
  | _ => none

def LayerSlot.isFree : LayerSlot → Bool
  | .free => true
  | _ => false

def LayerSlot.isLive : LayerSlot → Bool
  | .live _ _ _ => true
  | _ => false

/-- The slot is owned by the record with index `i`. -/
def LayerSlot.ownedBy (x : LayerSlot) (i : Fin 40) : Bool :=
  match x.owner? with
  | some h => h.index == i
  | none => false

/-- The slots a record owns, ascending. -/
def State.ownedSlots (s : State) (i : Fin 40) : List (Fin 16) := allSlots.filter fun k => (s.slot k).ownedBy i

/-- The slot a record owns on a panel, if any (at most one, R108). -/
def State.ownedOn (s : State) (i : Fin 40) (p : PanelId) : Option (Fin 16) :=
  allSlots.find? fun k => (s.slot k).ownedBy i && s.uses p k

/-- R110, R142: the lowest-numbered slot that is free and usable by a panel in service. -/
def State.freeOn (s : State) (p : PanelId) : Option (Fin 16) :=
  if (s.panel p).inService then allSlots.find? fun k => (s.slot k).isFree && s.uses p k else none

/-- R139: staging replaces the slot's staged configuration. Nothing is staged on a FREE slot. -/
def LayerSlot.stage (st : Staged) : LayerSlot → LayerSlot
  | .free => .free
  | .claimed o _ => .claimed o (some st)
  | .live o c _ => .live o c (some st)

/-- R133: at the staging cutoff a staged configuration becomes due. -/
def Staged.makeDue : Staged → Staged
  | .full c _ => .full c true
  | .removal _ => .removal true

def LayerSlot.makeDue : LayerSlot → LayerSlot
  | .free => .free
  | .claimed o st => .claimed o (st.map Staged.makeDue)
  | .live o c st => .live o c (st.map Staged.makeDue)

/-- R139: what a slot becomes at a frame start of its using panel, when a due configuration applies there. -/
def LayerSlot.applied? : LayerSlot → Option LayerSlot
  | .claimed o (some (.full c true)) => some (.live o c none)
  | .live o _ (some (.full c true)) => some (.live o c none)
  | .live _ _ (some (.removal true)) => some .free
  | _ => none

def State.stageAt (s : State) (k : Fin 16) (st : Staged) : State := s.setSlot k ((s.slot k).stage st)

/-- The slot, in its live or its staged configuration, satisfies `f`. -/
def LayerSlot.anyConfig (f : SlotConfig → Bool) (x : LayerSlot) : Bool :=
  x.cfg?.any f || (match x.staged? with
    | some (.full c _) => f c
    | _ => false)

/-! ### Jobs -/

def State.job? (s : State) (i : Fin 40) : Option Job := s.queue.find? fun j => j.handle.index == i

def State.modJob (s : State) (i : Fin 40) (f : Job → Job) : State :=
  { s with queue := s.queue.map fun j => if j.handle.index = i then f j else j }

def State.dropJob (s : State) (i : Fin 40) : State :=
  { s with queue := s.queue.filter fun j => !(j.handle.index == i) }

/-- The panels that carry the pieces of a target. -/
def Resolution.pieces (r : Resolution) : List TargetPiece := r.shown.elim [] ShownTarget.pieces

/-! ### The event under way -/

/-- An event under way: the state, and what the rest of the event has still to do. -/
structure Ev where
  s : State
  /-- a grant walk is due at the end of the event (R109) -/
  walk : Bool
  /-- a configuration was staged or the engine changed something (R50, R96) -/
  changed : Bool
  /-- queue entries that became free and are still to be offered to the backlog (R117) -/
  left : Nat
  /-- every resolvable record is to be re-resolved, once, within the event (R92, R93) -/
  resolveAll : Bool

/-- An event begins. -/
def Ev.start (s : State) : Ev := ⟨s, false, false, 0, false⟩

def Ev.mod (e : Ev) (f : State → State) : Ev := { e with s := f e.s }

end Sys2Proof.Machine
end

