-- ==== Sys2Proof/Machine/Flags.lean ====
section
/-! DEFINITION. The attention flags (R163, R164), the NOTICE level (R166) and the flag sets of payloads. -/

namespace Sys2Proof.Machine

/-- The seven attention flags, by name. -/
inductive AttnFlag where
  | posture
  | notice
  | hinge
  | panel
  | backlog
  | link
  | resetDone
  deriving DecidableEq, Repr

def FlagSet.has (f : FlagSet) : AttnFlag → Bool
  | .posture => f.posture
  | .notice => f.notice
  | .hinge => f.hinge
  | .panel => f.panel
  | .backlog => f.backlog
  | .link => f.link
  | .resetDone => f.resetDone

def FlagSet.put (f : FlagSet) (b : Bool) : AttnFlag → FlagSet
  | .posture => { f with posture := b }
  | .notice => { f with notice := b }
  | .hinge => { f with hinge := b }
  | .panel => { f with panel := b }
  | .backlog => { f with backlog := b }
  | .link => { f with link := b }
  | .resetDone => { f with resetDone := b }

/-- R165: the flags of either set. -/
def FlagSet.union (a b : FlagSet) : FlagSet :=
  ⟨a.posture || b.posture, a.notice || b.notice, a.hinge || b.hinge, a.panel || b.panel, a.backlog || b.backlog,
    a.link || b.link, a.resetDone || b.resetDone⟩

/-- R165: the flags of the first set that are not in the second. -/
def FlagSet.without (a b : FlagSet) : FlagSet :=
  ⟨a.posture && !b.posture, a.notice && !b.notice, a.hinge && !b.hinge, a.panel && !b.panel, a.backlog && !b.backlog,
    a.link && !b.link, a.resetDone && !b.resetDone⟩

/-- R164: some flag is set whose mask bit is on. -/
def FlagSet.meets (a b : FlagSet) : Bool :=
  (a.posture && b.posture) || (a.notice && b.notice) || (a.hinge && b.hinge) || (a.panel && b.panel) ||
    (a.backlog && b.backlog) || (a.link && b.link) || (a.resetDone && b.resetDone)

/-- R163: a flag is set within the event that sets it. -/
def State.raise (s : State) (f : AttnFlag) : State :=
  { s with attn := { s.attn with flags := s.attn.flags.put true f } }

def Ev.raise (e : Ev) (f : AttnFlag) : Ev := e.mod fun s => s.raise f

/-- R169: the records holding at least one mark. -/
def State.markedCount (s : State) : Nat := allRecords.countP fun i => (s.entry i).marks.any

/-- R166: some record holds WANTED. -/
def State.anyWanted (s : State) : Bool := allRecords.any fun i => (s.entry i).marks.wanted

/-- R166: the condition of NOTICE. -/
def noticeCondition (marked : Nat) (wanted : Bool) (threshold : Nat) : Bool :=
  decide (threshold ≤ marked) || wanted

/-- R69, R166: the table gives the Attention Unit the count and the WANTED indication, and NOTICE follows. -/
def State.refreshNotice (s : State) : State :=
  { s with attn := { s.attn with
      marked := s.markedCount
      wantedInd := s.anyWanted
      flags := { s.attn.flags with notice := noticeCondition s.markedCount s.anyWanted s.attn.threshold } } }

/-- A byte as a flag set: POSTURE bit 0 … RESET_DONE bit 6. -/
def FlagSet.ofByte (b : Byte) : FlagSet :=
  ⟨b.getLsbD 0, b.getLsbD 1, b.getLsbD 2, b.getLsbD 3, b.getLsbD 4, b.getLsbD 5, b.getLsbD 6⟩

/-- R165, R168, R183: a set that names anything but the seven flags has bit 7 set. -/
def flagByteBad (b : Byte) : Bool := b.getLsbD 7

/-- Bits, least significant first, as a byte. -/
def byteOfBits : List Bool → Byte
  | [] => 0
  | b :: bs => (byteOfBits bs <<< 1) ||| (if b then 1 else 0)

def FlagSet.toByte (f : FlagSet) : Byte :=
  byteOfBits [f.posture, f.notice, f.hinge, f.panel, f.backlog, f.link, f.resetDone]

end Sys2Proof.Machine
end

