-- ==== Sys2Proof/Machine/Operands.lean ====
section
/-! DEFINITION. The operand forms of requests: the value codes of chapter Frame and Record Formats, handle fields (R44, R183),
buffer descriptors (R52) and rectangles (R59, R81). -/

namespace Sys2Proof.Machine

/-! ### Value codes -/

def panelOfByte (b : Byte) : Option PanelId :=
  match b.toNat with
  | 0 => some .p0
  | 1 => some .p1
  | _ => none

def boolOfByte (b : Byte) : Option Bool :=
  match b.toNat with
  | 0 => some false
  | 1 => some true
  | _ => none

def postureOfByte (b : Byte) : Option Posture :=
  match b.toNat with
  | 0 => some .unknown
  | 1 => some .closed
  | 2 => some .book
  | 3 => some .flat
  | 4 => some .tent
  | 5 => some .folded
  | _ => none

def targetOfByte (b : Byte) : Option Target :=
  match b.toNat with
  | 0 => some .home
  | 1 => some .other
  | 2 => some .front
  | 3 => some .span
  | 4 => some .park
  | _ => none

def fallbackOfByte (b : Byte) : Option Fallback :=
  match b.toNat with
  | 0 => some .move
  | 1 => some .park
  | _ => none

def fitOfByte (b : Byte) : Option Fit :=
  match b.toNat with
  | 0 => some .full
  | 1 => some .keep
  | _ => none

def modeOfByte (b : Byte) : Option HandoverMode :=
  match b.toNat with
  | 0 => some .make
  | 1 => some .brk
  | _ => none

def recoveryOfByte (b : Byte) : Option RecoveryMode :=
  match b.toNat with
  | 0 => some .auto
  | 1 => some .hold
  | _ => none

def captureOfByte (b : Byte) : Option CaptureMode :=
  match b.toNat with
  | 0 => some .first
  | 1 => some .all
  | _ => none

/-- A value clamped to a range: the nearer end. -/
def clamp (lo hi n : Nat) : Nat := max lo (min hi n)

/-! ### Handles -/

/-- R44: the record a handle field names: index at most 39, slot not FREE, generation equal. -/
def State.checkHandle (s : State) (h : HandleField) : Option (Fin 40) :=
  if hi : h.idx.toNat < 40 then
    let i : Fin 40 := ⟨h.idx.toNat, hi⟩
    if !(s.entry i).isFree && h.gen.toNat == (s.gen i).val then some i else none
  else none

/-- R184: the handle field of SET_FOCUS that means none. -/
def handleNone (h : HandleField) : Bool := h.gen == 0xFF#8 && h.idx == 0xFF#8

/-! ### Buffer descriptors and rectangles -/

def Buffer.size (b : Buffer) : Size := ⟨b.desc.width.toNat, b.desc.height.toNat⟩

/-- A width or height a buffer, variant or override may have. -/
def extentOk (n : Nat) : Bool := decide (16 ≤ n) && decide (n ≤ 8191)

/-- R52: a malformed descriptor. -/
def descriptorBad (d : Descriptor) : Bool :=
  d.address.toNat % 64 != 0 || d.stride.toNat % 64 != 0 || decide (d.stride.toNat < 4 * d.width.toNat) ||
    decide (65472 < d.stride.toNat) || !extentOk d.width.toNat || !extentOk d.height.toNat

/-- A rectangle field as a rectangle: x and y are two's complement. -/
def rectOf (f : RectField) : Rect := ⟨f.x.toInt, f.y.toInt, f.w.toNat, f.h.toNat⟩

def coordOk (x : Int) : Bool := decide (-8192 ≤ x) && decide (x ≤ 8191)

/-- R59, R81: a rectangle out of range. -/
def rectBad (r : Rect) : Bool := !(coordOk r.x && coordOk r.y && extentOk r.w && extentOk r.h)

/-! ### Posture sets -/

def PostureSet.has (s : PostureSet) : Posture → Bool
  | .unknown => false
  | .closed => s.closed
  | .book => s.book
  | .flat => s.flat
  | .tent => s.tent
  | .folded => s.folded

def PostureSet.isEmpty (s : PostureSet) : Bool := !(s.closed || s.book || s.flat || s.tent || s.folded)

/-- The postures of the first set that are not in the second. -/
def PostureSet.without (a b : PostureSet) : PostureSet :=
  ⟨a.closed && !b.closed, a.book && !b.book, a.flat && !b.flat, a.tent && !b.tent, a.folded && !b.folded⟩

/-- One bit per posture, at the bit numbered by its code. -/
def PostureSet.ofByte (b : Byte) : PostureSet :=
  ⟨b.getLsbD 1, b.getLsbD 2, b.getLsbD 3, b.getLsbD 4, b.getLsbD 5⟩

/-- R59, R183: a posture set that is empty, names UNKNOWN or has a reserved bit set. -/
def postureByteBad (b : Byte) : Bool :=
  b.getLsbD 0 || b.getLsbD 6 || b.getLsbD 7 || (PostureSet.ofByte b).isEmpty

def PerPosture.at {α : Type} (t : PerPosture α) (dflt : α) : Posture → α
  | .unknown => dflt
  | .closed => t.closed
  | .book => t.book
  | .flat => t.flat
  | .tent => t.tent
  | .folded => t.folded

end Sys2Proof.Machine
end

