-- ==== Sys2Proof/Machine/Resolver.lean ====
section
/-! DEFINITION. The posture plan (R31) and the Placement Resolver (chapter Placement Rules and Geometry): governing rule,
source, target area with fallback, target rectangle, pieces, wanted size, and the comparison of R91. -/

namespace Sys2Proof.Machine

/-! ### The posture plan -/

/-- R31: the plan-lit indication of a panel. -/
def Classifier.planLit (c : Classifier) (p : PanelId) : Bool :=
  match c.committed with
  | .unknown => false
  | .closed => false
  | .book => true
  | .flat => true
  | .tent => true
  | .folded => p == c.front

/-- R31: the panel shown rotated. -/
def Classifier.rotated? (c : Classifier) : Option PanelId :=
  match c.committed with
  | .tent => some (otherPanel c.front)
  | _ => none

/-- R31: the join entry. -/
def Classifier.join (c : Classifier) : Bool :=
  match c.committed with
  | .flat => c.span
  | _ => false

/-! ### Governing rule and source -/

/-- R73: the built-in default rule. -/
def Rule.builtin : Rule where
  valid := true
  base := 0
  mask := 0
  targets := ⟨.park, .home, .home, .home, .front⟩
  fits := ⟨.full, .full, .full, .full, .full⟩
  fallback := .move
  mode := .brk
  deadline := 20

def Rule.deadlineMs (r : Rule) : Nat := 10 * r.deadline

/-- R73: an entry matches when its class base is the class code AND its class mask. -/
def Rule.matchesClass (r : Rule) (cls : Half) : Bool := r.valid && r.base == (cls &&& r.mask)

/-- R73: the lowest-index valid entry that matches, or the built-in default. -/
def State.governing (s : State) (cls : Half) : Rule :=
  match (List.finRange 16).find? fun n => (s.rules[n]).matchesClass cls with
  | some n => s.rules[n]
  | none => .builtin

/-- R80: how the target rectangle is chosen. -/
inductive RectSpec where
  | full
  | keep
  | given (r : Rect)
  deriving DecidableEq, Repr

/-- R76: what a source of placement states. -/
structure Source where
  target : Target
  rect : RectSpec
  fallback : Fallback
  deriving DecidableEq, Repr

def RectSpec.ofOption : Option Rect → RectSpec
  | some r => .given r
  | none => .full

def RectSpec.ofFit : Fit → RectSpec
  | .full => .full
  | .keep => .keep

/-- R76: the first source that applies, for a committed posture other than UNKNOWN. -/
def State.source (s : State) (i : Fin 40) (r : Record) (g : Rule) : Source :=
  if s.posture.committed = .folded ∧ s.isFocus i then ⟨.front, .full, .move⟩
  else
    match r.moveTo with
    | some m => ⟨m.target, .ofOption m.rect, g.fallback⟩
    | none =>
      match r.variants.find? fun v => v.postures.has s.posture.committed with
      | some v => ⟨v.target, .ofOption v.rect, v.fallback⟩
      | none =>
        ⟨g.targets.at .park s.posture.committed, .ofFit (g.fits.at .full s.posture.committed), g.fallback⟩

/-! ### Target area -/

def State.dark (s : State) (p : PanelId) : Bool := (s.panel p).dark

def State.bothInService (s : State) : Bool := (s.panel .p0).inService && (s.panel .p1).inService

/-- R78: the canvas is joined only in JOINED, and only while neither panel is dark. -/
def State.canvasJoined (s : State) : Bool :=
  s.shared.joined == .joined && !s.dark .p0 && !s.dark .p1

/-- R79: a single-panel area after the dark fallback. -/
def State.withFallback (s : State) (p : PanelId) (f : Fallback) : Option Area :=
  if !s.dark p then some (.panel p)
  else
    match f with
    | .move => if !s.dark (otherPanel p) then some (.panel (otherPanel p)) else none
    | .park => none

/-- R78, R79: the target area of a source; none is PARK. -/
def State.area (s : State) (r : Record) (src : Source) : Option Area :=
  match src.target with
  | .home => s.withFallback r.home src.fallback
  | .other => s.withFallback (otherPanel r.home) src.fallback
  | .front => s.withFallback s.posture.front src.fallback
  | .span => if s.canvasJoined then some .canvas else s.withFallback r.home src.fallback
  | .park => none

/-! ### Rectangle and pieces -/

/-- R80: the whole area. -/
def Shared.fullRect (g : Shared) : Area → Rect
  | .panel _ => ⟨0, 0, g.width, g.height⟩
  | .canvas => ⟨0, 0, 2 * g.width + g.seam, g.height⟩

/-- R80: the target rectangle. -/
def fitRect (g : Shared) (a : Area) (current : Option Rect) : RectSpec → Rect
  | .full => g.fullRect a
  | .keep => current.getD (g.fullRect a)
  | .given r => r

/-- A piece from the edges of its logical rectangle on the panel, its source offset and its rotated mark; none when it is
empty (R83, R85), turned about the panel's centre when rotated (R86). -/
def makePiece (g : Shared) (p : PanelId) (rotated : Bool) (left right top bottom srcX srcY : Int) : Option TargetPiece :=
  if left < right ∧ top < bottom then
    let w := right - left
    let h := bottom - top
    let x := if rotated then g.width - left - w else left
    let y := if rotated then g.height - top - h else top
    some ⟨p, ⟨x, y, w.toNat, h.toNat⟩, srcX.toNat, srcY.toNat, rotated, none⟩
  else none

/-- R83: the piece of a rectangle on a single panel. -/
def panelPiece (g : Shared) (p : PanelId) (rotated : Bool) (r : Rect) : Option TargetPiece :=
  makePiece g p rotated (max r.x 0) (min (r.x + r.w) g.width) (max r.y 0) (min (r.y + r.h) g.height)
    (max 0 (-r.x)) (max 0 (-r.y))

/-- R84: the piece of a canvas rectangle on panel 0. -/
def canvasPiece0 (g : Shared) (r : Rect) : Option TargetPiece :=
  makePiece g .p0 false (max r.x 0) (min (r.x + r.w) g.width) (max r.y 0) (min (r.y + r.h) g.height)
    (max 0 (-r.x)) (max 0 (-r.y))

/-- R84: the piece of a canvas rectangle on panel 1, moved left by W + G. -/
def canvasPiece1 (g : Shared) (r : Rect) : Option TargetPiece :=
  let edge : Int := g.width + g.seam
  makePiece g .p1 false (max r.x edge - edge) (min (r.x + r.w) (edge + g.width) - edge) (max r.y 0)
    (min (r.y + r.h) g.height) (max 0 (edge - r.x)) (max 0 (-r.y))

/-- R83, R84, R85: the pieces of a target rectangle, panel 0 first, empty ones dropped. -/
def piecesOf (g : Shared) (rotated? : Option PanelId) (a : Area) (r : Rect) : List TargetPiece :=
  match a with
  | .panel p => (panelPiece g p (rotated? == some p) r).toList
  | .canvas => (canvasPiece0 g r).toList ++ (canvasPiece1 g r).toList

/-! ### The resolution -/

def Rect.size (r : Rect) : Size := ⟨r.w, r.h⟩

/-- R88: the latest buffer of a record. -/
def Record.latest (r : Record) : Option Buffer := r.pending <|> r.current

/-- R88: the buffer wanted for a target rectangle, if one is. -/
def Record.wants (r : Record) (t : Rect) : Option Size :=
  match r.latest with
  | some b => if r.redraw ∧ t.size ≠ b.size then some t.size else none
  | none => none

/-- A resolution to PARK with a rule's mode and deadline. -/
def Resolution.park (g : Rule) : Resolution := ⟨none, none, g.mode, g.deadlineMs⟩

/-- R89: the resolution of a record from the inputs as they stand. -/
def State.resolve (s : State) (i : Fin 40) (r : Record) : Resolution :=
  let g := s.governing r.cls
  if s.posture.committed = .unknown then .park g
  else
    let src := s.source i r g
    match s.area r src with
    | none => .park g
    | some a =>
      let rect := fitRect s.shared a r.rect src.rect
      let pieces := piecesOf s.shared s.posture.rotated? a rect
      if pieces = [] then .park g
      else ⟨some ⟨a, rect, pieces⟩, r.wants rect, g.mode, g.deadlineMs⟩

/-! ### Comparison -/

/-- R91: the parts of a piece that are compared. -/
structure PieceKey where
  panel : PanelId
  dest : Rect
  srcX : Nat
  srcY : Nat
  rotated : Bool
  deriving DecidableEq, Repr

def TargetPiece.key (t : TargetPiece) : PieceKey := ⟨t.panel, t.dest, t.srcX, t.srcY, t.rotated⟩

def Piece.key (t : Piece) : PieceKey := ⟨t.panel, t.dest, t.srcX, t.srcY, t.rotated⟩

/-- R91: a resolution equals a job's target. -/
def Resolution.sameTarget (a b : Resolution) : Bool :=
  match a.shown, b.shown with
  | none, none => true
  | some x, some y => x.rect == y.rect && x.pieces.map TargetPiece.key == y.pieces.map TargetPiece.key
  | _, _ => false

/-- R91: a resolution equals the placement of a record without a job. An empty placement list is PARK. -/
def Resolution.samePlacement (a : Resolution) (r : Record) : Bool :=
  match a.shown with
  | none => r.pieces.isEmpty
  | some x => !r.pieces.isEmpty && r.rect == some x.rect && x.pieces.map TargetPiece.key == r.pieces.map Piece.key

/-- R90: what a resolution is compared with: the job's next target, the job's target, or the placement. -/
def State.bound (s : State) (i : Fin 40) (r : Record) (res : Resolution) : Bool :=
  match s.job? i with
  | some j => res.sameTarget (j.next.getD j.target)
  | none => res.samePlacement r

end Sys2Proof.Machine
end

