-- ==== Sys2Proof/Machine/Slots.lean ====
section
/-! DEFINITION. Staging for records (R54, R57, R62, R113), the currency of pending buffers (R55), and the Surface Table's
bookkeeping of pieces, releases and retirement (R48, R49, R66). -/

namespace Sys2Proof.Machine

/-! ### Configurations -/

/-- R54: the fetch mode of a configuration that shows a buffer, or FILL for one that shows none. -/
def fetchFor (b : Option Buffer) (rotated : Bool) : FetchMode :=
  match b with
  | none => .fill
  | some _ => if rotated then .decrement else .increment

/-- R113: the full configuration of a target piece for a record. -/
def State.configFor (s : State) (i : Fin 40) (r : Record) (t : TargetPiece) : SlotConfig where
  owner := s.handle i
  dest := t.dest
  srcX := t.srcX
  srcY := t.srcY
  rotated := t.rotated
  buffer := r.latest
  fetch := fetchFor r.latest t.rotated
  fill := r.fill
  z := r.z
  focus := s.isFocus i

/-- R54: a configuration with its buffer fields replaced. -/
def SlotConfig.withBuffer (b : Buffer) (c : SlotConfig) : SlotConfig :=
  { c with buffer := some b, fetch := fetchFor (some b) c.rotated }

/-- R54, R57, R62: a restage by the table. A staged full configuration is changed in place, a LIVE slot with nothing staged is
staged with its live configuration changed, a staged removal is left, and so is a CLAIMED slot with nothing staged. -/
def LayerSlot.restage (f : SlotConfig → SlotConfig) : LayerSlot → Option LayerSlot
  | .free => none
  | .claimed o (some (.full c _)) => some (.claimed o (some (.full (f c) false)))
  | .claimed _ _ => none
  | .live o c none => some (.live o c (some (.full (f c) false)))
  | .live o c (some (.full d _)) => some (.live o c (some (.full (f d) false)))
  | .live _ _ (some (.removal _)) => none

/-- The table restages every slot a record owns. -/
def State.restageAll (s : State) (i : Fin 40) (f : SlotConfig → SlotConfig) : State :=
  { s with slots := Vector.ofFn fun k : Fin 16 =>
      if (s.slots[k]).ownedBy i then ((s.slots[k]).restage f).getD s.slots[k] else s.slots[k] }

/-- A restage of the record's slots stages at least one configuration. -/
def State.restages (s : State) (i : Fin 40) : Bool :=
  (s.ownedSlots i).any fun k => ((s.slot k).restage id).isSome

/-- A table restage within an event, with R50's note that something was staged. -/
def Ev.restage (e : Ev) (i : Fin 40) (f : SlotConfig → SlotConfig) : Ev :=
  { e with s := e.s.restageAll i f, changed := e.changed || e.s.restages i }

/-! ### Buffers -/

/-- R55: a slot names the buffer with this serial, live or staged. -/
def LayerSlot.names (serial : Nat) (x : LayerSlot) : Bool :=
  x.anyConfig fun c => match c.buffer with
    | some b => b.serial == serial
    | none => false

/-- R55: a slot shows FILL, live or staged. -/
def LayerSlot.showsFill (x : LayerSlot) : Bool := x.anyConfig fun c => c.fetch == .fill

/-- R55: no slot of the record refers to what the pending buffer replaces. -/
def State.mayBecomeCurrent (s : State) (i : Fin 40) (r : Record) : Bool :=
  (s.ownedSlots i).all fun k =>
    match r.current with
    | some b => !(s.slot k).names b.serial
    | none => !(s.slot k).showsFill

/-- R55: a buffer becomes the current one and the previous current buffer, if any, is released. -/
def Record.makeCurrent (r : Record) (b : Buffer) : Record :=
  match r.current with
  | some old => { r with
      current := some b, pending := none, staleContent := false
      released := some old.desc.tag, marks := { r.marks with released := true } }
  | none => { r with current := some b, pending := none, staleContent := false }

/-- R55: the check of a pending buffer for currency. It is not made while the record is RETIRING. -/
def State.checkCurrency (s : State) (i : Fin 40) : State :=
  match s.record? i with
  | none => s
  | some r =>
    match r.pending with
    | none => s
    | some b =>
      if r.state ≠ .retiring ∧ s.mayBecomeCurrent i r then s.modRecord i fun r => r.makeCurrent b else s

/-! ### Pieces -/

/-- R48: the piece shown by a live configuration. -/
def SlotConfig.piece (c : SlotConfig) (p : PanelId) (k : Fin 16) : Piece :=
  ⟨p, k, c.dest, c.srcX, c.srcY, c.rotated⟩

/-- R48: a piece joins the list, or takes its new form in it, panel 0 first. -/
def enterPiece (t : Piece) (l : List Piece) : List Piece :=
  let rest := l.filter fun q => !(q.panel == t.panel)
  match t.panel with
  | .p0 => t :: rest
  | .p1 => rest ++ [t]

/-- R48, R49: the piece of a freed slot leaves the list. -/
def leavePiece (k : Fin 16) (l : List Piece) : List Piece := l.filter fun q => !(q.slot == k)

/-! ### Retirement -/

/-- R66: the released tag of a record that enters RETIRED. -/
def Record.lastTag (r : Record) : Option Half :=
  match r.latest with
  | some b => some b.desc.tag
  | none => r.released

/-- R66: the marks of a record that enters RETIRED. -/
def Record.retiredMarks (r : Record) : Marks :=
  { Marks.empty with released := r.latest.isSome || r.marks.released, retired := true }

/-- R66: entry to RETIRED. -/
def State.enterRetired (s : State) (i : Fin 40) : State :=
  match s.record? i with
  | some r => s.setEntry i (.retired r.lastTag r.retiredMarks)
  | none => s

/-- R66: a RETIRING record becomes RETIRED when it owns no slot. -/
def State.checkRetired (s : State) (i : Fin 40) : State :=
  match s.record? i with
  | some r => if r.state = .retiring ∧ s.ownedSlots i = [] then s.enterRetired i else s
  | none => s

end Sys2Proof.Machine
end

