-- ==== Sys2Proof/Machine/Engine.lean ====
section
/-! DEFINITION. The Handover Engine (chapter The Handover Engine): resolutions passed for a record, jobs and their phases, buffer
waits, the grant walk, steps, redirect, completion, the backlog, cancellation, and the end of an event. -/

namespace Sys2Proof.Machine

/-! ### Jobs within an event -/

def Ev.modJob (e : Ev) (i : Fin 40) (f : Job → Job) : Ev := e.mod fun s => s.modJob i f

def Ev.modRecord (e : Ev) (i : Fin 40) (f : Record → Record) : Ev := e.mod fun s => s.modRecord i f

/-- R107: the panel condition: every panel that carries a target piece is ON or DEGRADED. -/
def State.panelCondition (s : State) (t : Resolution) : Bool := t.pieces.all fun q => (s.panel q.panel).inService

/-- R107: a job in PREPARING with its buffer settled and its panel condition holding enters SLOT_WAIT. -/
def Ev.examine (e : Ev) (i : Fin 40) : Ev :=
  match e.s.job? i with
  | some j =>
    if j.phase = .preparing ∧ j.waiting = false ∧ e.s.panelCondition j.target then
      { (e.modJob i fun j => { j with phase := .slotWait }) with walk := true }
    else e
  | none => e

/-- R105: a buffer wait ends without a new buffer. -/
def Ev.expireWait (e : Ev) (i : Fin 40) : Ev :=
  (e.modRecord i fun r =>
      { r with wanted := none, staleContent := true, marks := { r.marks with stale := true } }).modJob i fun j =>
    { j with waiting := false, expiry := none }

/-- R103: a buffer wait begins; a deadline of 0 expires at the same event. -/
def Ev.beginWait (e : Ev) (i : Fin 40) (size : Size) (deadlineMs : Nat) : Ev :=
  let e1 := (e.modRecord i fun r =>
      { r with wanted := some size, marks := { r.marks with wanted := true } }).modJob i fun j =>
    { j with waiting := true, expiry := some (e.s.after deadlineMs) }
  if deadlineMs = 0 then e1.expireWait i else e1

/-- R102: the buffer condition at entry to PREPARING. -/
def Ev.bufferCondition (e : Ev) (i : Fin 40) (j : Job) : Ev :=
  match j.target.wanted with
  | none =>
    (e.modRecord i fun r => { r with wanted := none }).modJob i fun j => { j with waiting := false, expiry := none }
  | some size =>
    if (e.s.record? i).bind Record.wanted = some size ∧ j.expiry.isSome then
      e.modJob i fun j => { j with waiting := true }
    else e.beginWait i size j.target.deadlineMs

/-- R102: a job enters PREPARING, holding no actions. -/
def Ev.prepare (e : Ev) (i : Fin 40) : Ev :=
  match e.s.job? i with
  | some j =>
    ((e.modJob i fun j => { j with phase := .preparing, stepOne := [], stepTwo := [], outstanding := [] }).bufferCondition
      i j).examine i
  | none => e

/-! ### Resolutions passed to the engine -/

/-- R97: a new job for the record with handle `h`. -/
def Job.fresh (h : Handle) (res : Resolution) : Job where
  handle := h
  target := res
  waiting := false
  expiry := none
  phase := .preparing
  stepOne := []
  stepTwo := []
  outstanding := []
  next := none

/-- R94, R97: a job is created; the focus record's job joins at the head, any other at the tail. -/
def Ev.createJob (e : Ev) (i : Fin 40) (res : Resolution) : Ev :=
  let j := Job.fresh (e.s.handle i) res
  let e1 := e.mod fun s => { s with queue := if s.isFocus i then j :: s.queue else s.queue ++ [j] }
  let e2 := e1.modRecord i fun r => { r with state := .moving, resPending := false }
  { e2 with changed := true }.prepare i

/-- R98: the resolution-pending mark is set on a record that did not hold it, and BACKLOG with it. -/
def Ev.setPendingMark (e : Ev) (i : Fin 40) : Ev :=
  { (e.modRecord i fun r => { r with resPending := true }).raise .backlog with changed := true }

/-- R98: a resolution passed for a record that holds the mark settles it. -/
def Ev.settleMark (e : Ev) (i : Fin 40) (r : Record) (res : Resolution) : Ev :=
  if res.samePlacement r then e.modRecord i fun r => { r with resPending := false }
  else if e.s.queue.length < Config.queueMax then e.createJob i res
  else e

/-- R99, R100: a resolution passed for a record with a job. -/
def Ev.redirectJob (e : Ev) (i : Fin 40) (j : Job) (res : Resolution) : Ev :=
  match j.phase with
  | .preparing | .slotWait => { (e.modJob i fun j => { j with target := res }) with changed := true }.prepare i
  | .stepOne | .stepTwo =>
    { (e.modJob i fun j => { j with next := if res.sameTarget j.target then none else some res }) with changed := true }

/-- R96: a resolution is passed to the engine. -/
def Ev.pass (e : Ev) (i : Fin 40) (r : Record) (res : Resolution) : Ev :=
  match e.s.job? i with
  | some j => e.redirectJob i j res
  | none =>
    if r.resPending then e.settleMark i r res
    else if e.s.queue.length < Config.queueMax then e.createJob i res
    else e.setPendingMark i

/-- R90: a record is re-resolved. -/
def Ev.reresolve (e : Ev) (i : Fin 40) : Ev :=
  match e.s.record? i with
  | none => e
  | some r =>
    if r.resolvable then
      let res := e.s.resolve i r
      if e.s.bound i r res ∧ r.resPending = false then e else e.pass i r res
    else e

/-- R92: the order of a group: the focus record first, the rest in ascending index. -/
def State.resolveOrder (s : State) : List (Fin 40) :=
  (allRecords.filter fun i => s.isFocus i) ++ allRecords.filter fun i => !s.isFocus i

/-- R93: every resolvable record is re-resolved. -/
def Ev.reresolveAll (e : Ev) : Ev := e.s.resolveOrder.foldl Ev.reresolve e

/-! ### Slot grants -/

/-- R108, R109, R110: the target pieces with the slots a grant would give them: the slot the record holds on the panel, or the
lowest free usable one. None when some panel in the need has no free slot. -/
def State.assign (s : State) (i : Fin 40) : List TargetPiece → Option (List TargetPiece)
  | [] => some []
  | t :: ts =>
    match (s.ownedOn i t.panel <|> s.freeOn t.panel), s.assign i ts with
    | some k, some rest => some ({ t with slot := some k } :: rest)
    | _, _ => none

/-- R110: the slots of a grant that the record did not hold become CLAIMED for it. -/
def State.claim (s : State) (i : Fin 40) : List TargetPiece → State
  | [] => s
  | t :: ts =>
    match t.slot with
    | some k => if (s.slot k).isFree then (s.setSlot k (.claimed (s.handle i) none)).claim i ts else s.claim i ts
    | none => s.claim i ts

/-- R111: the attach step of a grant, in the state before the claim. -/
def State.attachStep (s : State) (pieces : List TargetPiece) : List SlotAction :=
  pieces.filterMap fun t => t.slot.map fun k => ⟨if (s.slot k).isFree then .attach else .restage, k⟩

/-- R111: the detach step of a grant. -/
def State.detachStep (s : State) (i : Fin 40) (pieces : List TargetPiece) : List SlotAction :=
  ((s.ownedSlots i).filter fun k => !(pieces.any fun t => s.uses t.panel k)).map fun k => ⟨.removal, k⟩

/-- R113: a slot action of a step is staged. -/
def State.stageAction (s : State) (i : Fin 40) (pieces : List TargetPiece) (a : SlotAction) : State :=
  match a.kind with
  | .removal => s.stageAt a.slot (.removal false)
  | _ =>
    match s.record? i, pieces.find? fun t => t.slot == some a.slot with
    | some r, some t => s.stageAt a.slot (.full (s.configFor i r t) false)
    | _, _ => s

/-- R113: the engine stages the actions of a step, which are then outstanding. -/
def Ev.stageStep (e : Ev) (i : Fin 40) (pieces : List TargetPiece) (actions : List SlotAction) : Ev :=
  (e.mod fun s => actions.foldl (fun s a => s.stageAction i pieces a) s).modJob i fun j =>
    { j with outstanding := actions }

/-- R112: the order of the two steps. -/
def stepsFor (m : HandoverMode) (attach detach : List SlotAction) : List SlotAction × List SlotAction :=
  match m with
  | .make => (attach, detach)
  | .brk => (detach, attach)

/-- R109, R110: one job of the walk is granted its whole need, or nothing. -/
def Ev.grantOne (e : Ev) (i : Fin 40) : Ev :=
  match e.s.job? i with
  | some j =>
    if j.phase = .slotWait then
      match e.s.assign i j.target.pieces with
      | some pieces =>
        let steps := stepsFor j.target.mode (e.s.attachStep pieces) (e.s.detachStep i pieces)
        let e1 := (e.mod fun s => s.claim i pieces).modJob i fun j =>
          { j with
            phase := .stepOne, stepOne := steps.1, stepTwo := steps.2
            target := { j.target with shown := j.target.shown.map fun t => { t with pieces := pieces } } }
        e1.stageStep i pieces steps.1
      | none => e
    else e
  | none => e

/-- R109: a grant walk takes the SLOT_WAIT jobs in queue order. -/
def Ev.grantWalk (e : Ev) : Ev :=
  (e.s.queue.map fun j => j.handle.index).foldl Ev.grantOne { e with walk := false }

/-! ### The end of a step -/

/-- R114: every action of the step under way is settled. -/
def Job.stepDone (j : Job) : Bool :=
  match j.phase with
  | .stepOne => j.outstanding.isEmpty
  | .stepTwo => j.outstanding.isEmpty
  | _ => false

/-- R115: the claimed slots of dropped attaches become FREE. -/
def State.freeClaims (s : State) (actions : List SlotAction) : State :=
  { s with slots := Vector.ofFn fun k : Fin 16 =>
      match s.slots[k] with
      | .claimed o st => if actions.any (fun a => a.slot == k) then .free else .claimed o st
      | x => x }

/-- Some action is on a claimed slot. -/
def State.anyClaimed (s : State) (actions : List SlotAction) : Bool :=
  actions.any fun a => match s.slot a.slot with
    | .claimed _ _ => true
    | _ => false

/-- A job takes up its next target. -/
def Job.takeNext (j : Job) (n : Resolution) : Job := { j with target := n, next := none }

/-- R115: a job is redirected. -/
def Ev.redirect (e : Ev) (i : Fin 40) (j : Job) (n : Resolution) : Ev :=
  { ((e.mod fun s => s.freeClaims j.stepTwo).modJob i fun j => j.takeNext n) with
    walk := e.walk || e.s.anyClaimed j.stepTwo }.prepare i

/-- R116: the placement list at completion: the target pieces whose slots are LIVE and owned by the record. -/
def State.completed (s : State) (i : Fin 40) (pieces : List TargetPiece) : List Piece :=
  pieces.filterMap fun t =>
    match t.slot with
    | some k =>
      if (s.slot k).isLive && (s.slot k).ownedBy i then some ⟨t.panel, k, t.dest, t.srcX, t.srcY, t.rotated⟩ else none
    | none => none

/-- R48: the record at the completion of its job. A PARK target leaves the current rectangle as it was. -/
def Record.complete (r : Record) (t : Resolution) (pieces : List Piece) : Record :=
  { r with
    pieces := pieces, rect := t.shown.elim r.rect fun x => some x.rect
    marks := { r.marks with placement := true } }

/-- R116: a job completes. -/
def Ev.complete (e : Ev) (i : Fin 40) (j : Job) : Ev :=
  let pieces := e.s.completed i j.target.pieces
  let e1 := e.modRecord i fun r => r.complete j.target pieces
  match j.next with
  | some n => (e1.modJob i fun j => j.takeNext n).prepare i
  | none =>
    let e2 := e1.modRecord i fun r => { r with state := if pieces.isEmpty then .parked else .placed }
    { (e2.mod fun s => s.dropJob i) with left := e2.left + 1 }

/-- R114: a step whose every action is settled ends. -/
def Ev.endStep (e : Ev) (j : Job) : Ev :=
  let i := j.handle.index
  match j.phase, j.next with
  | .stepOne, some n =>
    if j.stepTwo.isEmpty then e.complete i j else e.redirect i j n
  | .stepOne, none =>
    if j.stepTwo.isEmpty then e.complete i j
    else (e.modJob i fun j => { j with phase := .stepTwo }).stageStep i j.target.pieces j.stepTwo
  | _, _ => e.complete i j

/-! ### The backlog and the end of an event -/

/-- R117: the lowest-index record that holds the resolution-pending mark. -/
def State.firstMarked (s : State) : Option (Fin 40) :=
  allRecords.find? fun i => (s.record? i).any Record.resPending

/-- R117: one step of the take-up for a freed queue entry. A record left with its mark ends the take-up. -/
def Ev.takeUp (e : Ev) : Ev :=
  match e.s.firstMarked with
  | none => { e with left := 0 }
  | some i =>
    let e1 := e.reresolve i
    if (e1.s.record? i).any Record.resPending then { e1 with left := 0 }
    else if e.s.queue.length < e1.s.queue.length then { e1 with left := e1.left - 1 }
    else e1

/-- What is left of an event is done: steps that ended (R114), the backlog (R117), and with `walks` the single grant walk after
all other effects (R109), again while a walk leads to more. The fuel bounds the number of these (log 24). -/
def Ev.settle (walks : Bool) : Nat → Ev → Ev
  | 0, e => e
  | n + 1, e =>
    match e.s.queue.find? Job.stepDone with
    | some j => Ev.settle walks n (e.endStep j)
    | none =>
      if e.left ≠ 0 then Ev.settle walks n e.takeUp
      else if walks ∧ e.walk then Ev.settle walks n e.grantWalk
      else e

/-- The fuel of an event: more than the steps, take-ups and walks one event can make (log 24). -/
def settleFuel : Nat := 400

/-- The steps that ended within the event so far end now, before its grant walk (R114, R139). -/
def Ev.endSteps (e : Ev) : Ev := Ev.settle false settleFuel e

/-- The re-resolution of every resolvable record, if the event calls for it (R92, R93). -/
def Ev.resolveDue (e : Ev) : Ev := if e.resolveAll then { e.reresolveAll with resolveAll := false } else e

/-- The event ends: one re-resolution of the group (R92, R93), the ends of steps (R129 step 5), one grant walk (R109), and the
NOTICE level (R166). -/
def Ev.finish (e : Ev) : Ev := (Ev.settle true settleFuel e.resolveDue).mod State.refreshNotice

/-- The state an event leaves. -/
def Ev.done (e : Ev) : State := e.finish.s

/-! ### Retirement of a record with its job -/

/-- R120: at cancellation each slot the record has claimed and that holds no live configuration becomes FREE. -/
def State.freeOwnClaims (s : State) (i : Fin 40) : State :=
  { s with slots := Vector.ofFn fun k : Fin 16 =>
      match s.slots[k] with
      | .claimed o st => if o.index == i then .free else .claimed o st
      | x => x }

/-- Some slot is claimed for the record. -/
def State.ownsClaim (s : State) (i : Fin 40) : Bool :=
  allSlots.any fun k => match s.slot k with
    | .claimed o _ => o.index == i
    | _ => false

/-- R120: a job is cancelled; its withdrawn configurations are followed by the currency check of R55. -/
def Ev.cancelJob (e : Ev) (i : Fin 40) : Ev :=
  match e.s.job? i with
  | none => e
  | some _ =>
    { (e.mod fun s => ((s.freeOwnClaims i).checkCurrency i).dropJob i) with
      left := e.left + 1, walk := e.walk || e.s.ownsClaim i }

/-- R65 step 6: removal is staged on every LIVE slot of the record; one already staged stays. -/
def State.stageRemovals (s : State) (i : Fin 40) : State :=
  { s with slots := Vector.ofFn fun k : Fin 16 =>
      match s.slots[k] with
      | .live o c st =>
        if o.index == i then
          match st with
          | some (.removal d) => .live o c (some (.removal d))
          | _ => .live o c (some (.removal false))
        else .live o c st
      | x => x }

/-- R65 steps 1 to 4. -/
def State.withdrawRecord (s : State) (i : Fin 40) : State :=
  let s1 := if s.isFocus i then { s with table := { s.table with focus := none } } else s
  s1.modRecord i fun r => { r with variants := [], moveTo := none, resPending := false, wanted := none }

/-- R65: a record is retired. -/
def Ev.retire (e : Ev) (i : Fin 40) : Ev :=
  let e1 := (e.mod fun s => s.withdrawRecord i).cancelJob i
  let e2 := e1.mod fun s => (s.stageRemovals i).modRecord i fun r => { r with state := .retiring }
  e2.mod fun s => s.checkRetired i

end Sys2Proof.Machine
end

