-- ==== Sys2Proof/Machine/Service.lean ====
section
/-! DEFINITION. What a Panel Controller does within an event: joined mode (R135, R137), leaving service (R129) with the losses it
brings to the table (R49, R155) and the engine (R118), power sequencing (R123 to R130), OFFLINE (R130, R154, R156 to R158),
thresholds of the health counter (R152 to R154), and the frame start (R132, R133, R136, R139, R140, R151). -/

namespace Sys2Proof.Machine

def Ev.modPanel (e : Ev) (p : PanelId) (f : Panel → Panel) : Ev := e.mod fun s => s.modPanel p f

def State.setJoined (s : State) (j : JoinedMode) : State := { s with shared := { s.shared with joined := j } }

/-! ### Joined mode -/

/-- R135: the joined mode conditions. -/
def State.joinConditions (s : State) : Bool := s.posture.join && s.bothInService

/-- R135, R137: the joined mode conditions are evaluated. -/
def Ev.evalJoined (e : Ev) : Ev :=
  match e.s.joinConditions, e.s.shared.joined with
  | true, .notJoined => e.mod fun s => s.setJoined .lockPending
  | false, .lockPending => e.mod fun s => s.setJoined .notJoined
  | false, .joined => { (e.mod fun s => s.setJoined .notJoined) with resolveAll := true }
  | _, _ => e

/-! ### Leaving service -/

/-- R129 step 1: the frame timer stops and the acknowledgement owed is withdrawn; R159: the stability timer stops. -/
def Panel.stopFrames (x : Panel) : Panel :=
  { x with counter := 0, effective := 0, cutoffDone := false, ackOwed := false, stableTimer := none, stack := [] }

/-- R49, R155: the table's part in the loss of slot `k` of the record with index `i`. -/
def State.loseSlot (s : State) (i : Fin 40) (k : Fin 16) (evicted : Bool) : State :=
  let s1 := s.modRecord i fun r =>
    let left := leavePiece k r.pieces
    { r with
      pieces := left
      state := if r.state = .placed ∧ left = [] then .parked else r.state
      marks := if evicted ∧ r.state ≠ .retiring then { r.marks with evicted := true } else r.marks }
  (s1.checkRetired i).checkCurrency i

/-- R118: the target piece on a lost slot is dropped. A target that has lost every piece stays a shown one, so it equals no
resolution (R91), and the resolution that the loss makes is its next target (R116, R119). -/
def Resolution.loseSlot (k : Fin 16) (t : Resolution) : Resolution :=
  { t with shown := t.shown.map fun x => { x with pieces := x.pieces.filter fun q => !(q.slot == some k) } }

/-- R118: the engine's part in the loss of a slot: actions on it count as settled or are dropped. -/
def Job.loseSlot (k : Fin 16) (j : Job) : Job :=
  { j with
    stepOne := j.stepOne.filter fun a => !(a.slot == k)
    stepTwo := j.stepTwo.filter fun a => !(a.slot == k)
    outstanding := j.outstanding.filter fun a => !(a.slot == k)
    target := j.target.loseSlot k }

/-- R129 step 3: every slot in use by the panel becomes FREE. -/
def State.freeSlotsOf (s : State) (p : PanelId) : State :=
  { s with slots := Vector.ofFn fun k : Fin 16 => if s.uses p k then .free else s.slots[k] }

/-- R129 step 4: the report of one freed slot, as it was before, to the table and the engine. -/
def Ev.reportLoss (evict : Bool) (before : State) (e : Ev) (k : Fin 16) : Ev :=
  match (before.slot k).owner? with
  | none => e
  | some h =>
    (e.mod fun s => s.loseSlot h.index k (evict && (before.slot k).isLive)).modJob h.index (Job.loseSlot k)

/-- R129 steps 1 to 4, for a panel whose state has just left service. Steps 5 and 6 are made where the event ends. -/
def Ev.leaveService (e : Ev) (p : PanelId) (evict : Bool) : Ev :=
  let e1 := (e.modPanel p Panel.stopFrames).evalJoined
  let e2 := e1.mod fun s => s.freeSlotsOf p
  let e3 := (allSlots.filter fun k => e1.s.uses p k).foldl (Ev.reportLoss evict e1.s) e2
  { e3 with walk := true, resolveAll := true }

/-! ### Power sequencing -/

/-- R125, R152: entry to POWERING_UP. -/
def State.powerUp (s : State) (p : PanelId) : State :=
  s.modPanel p fun x =>
    { x with
      mode := .poweringUp .rail, seqTimer := some (s.after s.shared.tRail)
      health := 0, warning := false, linkError := .none }

/-- R124: a panel that is OFF, wanted lit and past its off-time powers up. -/
def State.checkPowerUp (s : State) (p : PanelId) : State :=
  let x := s.panel p
  if x.mode = .off ∧ x.litDemand ∧ x.offTimer = none then s.powerUp p else s

/-- R124: entry to OFF. -/
def State.enterOff (s : State) (p : PanelId) : State :=
  (s.modPanel p fun x => { x with mode := .off }).checkPowerUp p

/-- R128: entry to POWERING_DOWN, from service with R129. -/
def Ev.powerDown (e : Ev) (p : PanelId) : Ev :=
  let was := (e.s.panel p).inService
  let e1 := e.modPanel p fun x => { x with mode := .poweringDown, seqTimer := some (e.s.after e.s.shared.tDown) }
  if was then e1.leaveService p false else e1

/-- R124, R125, R128, R130: the lit demand turned off. -/
def Ev.demandOff (e : Ev) (p : PanelId) : Ev :=
  match (e.s.panel p).mode with
  | .poweringUp _ => e.powerDown p
  | .on => e.powerDown p
  | .degraded => e.powerDown p
  | _ => e

/-- R123: a change to what makes the lit demand, acted on at once when the demand changes. -/
def Ev.changeDemand (e : Ev) (p : PanelId) (f : Panel → Panel) : Ev :=
  let was := (e.s.panel p).litDemand
  let e1 := e.modPanel p f
  match was, (e1.s.panel p).litDemand with
  | false, true => e1.mod fun s => s.checkPowerUp p
  | true, false => e1.demandOff p
  | _, _ => e1

/-- R30, R32: the plan reaches both controllers, and the joined mode conditions are evaluated (R135). -/
def Ev.applyPlan (e : Ev) : Ev :=
  let lit := e.s.posture.planLit
  ((e.changeDemand .p0 fun x => { x with planLit := lit .p0 }).changeDemand .p1 fun x =>
    { x with planLit := lit .p1 }).evalJoined

/-! ### OFFLINE and the thresholds -/

def FaultSet.add (f : FaultSet) : FaultCause → FaultSet
  | .trainFail => { f with trainFail := true }
  | .ackError => { f with ackError := true }
  | .ackTimeout => { f with ackTimeout := true }

def FaultSet.isEmpty (f : FaultSet) : Bool := !(f.trainFail || f.ackError || f.ackTimeout)

/-- R156: the cause of an entry to OFFLINE is captured. -/
def captureFault (c : CaptureMode) (f : FaultSet) (cause : FaultCause) : FaultSet :=
  match c with
  | .first => if f.isEmpty then FaultSet.empty.add cause else f
  | .all => f.add cause

/-- R157, R158: the quiet timer an entry to OFFLINE starts. -/
def State.quietFor (s : State) (x : Panel) : Timer :=
  if x.recovery = .auto ∧ x.attempts < Config.attemptsMax then some (s.after s.shared.tQuiet) else none

/-- R130, R154: entry to OFFLINE. -/
def Ev.goOffline (e : Ev) (p : PanelId) (cause : FaultCause) : Ev :=
  let was := (e.s.panel p).inService
  let e1 := (e.modPanel p fun x =>
    { x with
      mode := .offline, seqTimer := none, offTimer := e.s.timerFor e.s.shared.tOff
      fault := captureFault x.capture x.fault cause, quietTimer := e.s.quietFor x }).raise .panel
  if was then e1.leaveService p true else { e1 with resolveAll := true }

/-- R154: the cause of an entry to OFFLINE from service. -/
def LinkError.cause : LinkError → FaultCause
  | .ackTimeout => .ackTimeout
  | _ => .ackError

/-- R152: the warning after a change of the health counter. -/
def Ev.checkWarning (e : Ev) (p : PanelId) : Ev :=
  let x := e.s.panel p
  if Config.warningLevel ≤ x.health then
    if x.warning then e else (e.modPanel p fun x => { x with warning := true }).raise .panel
  else e.modPanel p fun x => { x with warning := false }

/-- R153, R154: the panel state after a change of the health counter. -/
def Ev.checkLevels (e : Ev) (p : PanelId) : Ev :=
  let x := e.s.panel p
  if x.inService ∧ Config.offlineLevel ≤ x.health then e.goOffline p x.linkError.cause
  else if x.mode = .on ∧ Config.degradeLevel ≤ x.health then
    (e.modPanel p fun x => { x with mode := .degraded }).raise .panel
  else if x.mode = .degraded ∧ x.health ≤ Config.restoreLevel then
    (e.modPanel p fun x => { x with mode := .on }).raise .panel
  else e

/-- R152 to R154: the threshold checks after a change of the health counter. -/
def Ev.checkHealth (e : Ev) (p : PanelId) : Ev := (e.checkWarning p).checkLevels p

/-- R150, R151: the health counter after an error. -/
def errorHealth (h : Nat) : Nat := min Config.healthMax (h + Config.errorStep)

/-! ### The frame start -/

/-- R132 step 1: pending period and lead are adopted. -/
def Panel.adopt (x : Panel) : Panel :=
  { x with
    period := x.pendPeriod.getD x.period, lead := x.pendLead.getD x.lead
    pendPeriod := none, pendLead := none }

/-- R132 step 2: the new frame's effective period is fixed and the counter is 0. -/
def Panel.beginFrame (eff : Nat) (x : Panel) : Panel := { x with effective := eff, counter := 0, cutoffDone := false }

/-- R131: the effective period of a frame of one panel alone. -/
def Panel.soloPeriod (x : Panel) : Nat := if x.mode = .degraded then 2 * x.period else x.period

/-- R136: the effective period of a joint frame: panel 0's P, doubled when either panel is DEGRADED. -/
def State.jointPeriod (s : State) : Nat :=
  if (s.panel .p0).mode = .degraded ∨ (s.panel .p1).mode = .degraded then 2 * (s.panel .p0).period
  else (s.panel .p0).period

/-- The slots of a panel on which a due configuration applies at its frame start (R133, R139). -/
def State.dueSlots (s : State) (p : PanelId) : List (Fin 16) :=
  allSlots.filter fun k => s.uses p k && (s.slot k).applied?.isSome

/-- R132 step 3: the due configurations on the slots a panel uses are applied. -/
def State.applyDue (s : State) (p : PanelId) : State :=
  { s with slots := Vector.ofFn fun k : Fin 16 =>
      if s.uses p k then (s.slots[k]).applied?.getD s.slots[k] else s.slots[k] }

/-- R140: the order of the stack: without the focus mark below with it, then by z rank, then by record index. -/
def stackKey (c : SlotConfig) : Nat :=
  (if c.focus then 65536 else 0) + c.z.toNat * 64 + c.owner.index.val

/-- A slot joins an ordered stack below the first slot with a greater key. -/
def insertStack (key : Fin 16 → Nat) (k : Fin 16) : List (Fin 16) → List (Fin 16)
  | [] => [k]
  | m :: ms => if key k < key m then k :: m :: ms else m :: insertStack key k ms

/-- R140: the live slots of a panel as a stack, bottom first. -/
def State.stackOf (s : State) (p : PanelId) : List (Fin 16) :=
  (allSlots.filter fun k => s.uses p k && (s.slot k).isLive).foldl
    (fun st k => insertStack (fun m => ((s.slot m).cfg?).elim 0 stackKey) k st) []

/-- R151: an acknowledgement still owed at the frame start is a timeout. -/
def Panel.countTimeout (x : Panel) : Panel :=
  if x.ackOwed then { x with health := errorHealth x.health, linkError := .ackTimeout } else x

/-- R132 steps 3 to 5 for one panel: due configurations, stack, timeout and the acknowledgement of the new frame. -/
def State.openFrame (s : State) (p : PanelId) : State :=
  let s1 := s.applyDue p
  s1.modPanel p fun x => { x.countTimeout with stack := s1.stackOf p, ackOwed := true }

/-- R139: the report of one applied slot to the table and the engine. -/
def Ev.reportApplied (p : PanelId) (before : State) (e : Ev) (k : Fin 16) : Ev :=
  match (before.slot k).owner? with
  | none => e
  | some h =>
    let i := h.index
    let settle := fun j : Job => { j with outstanding := j.outstanding.filter fun a => !(a.slot == k) }
    match (e.s.slot k).cfg? with
    | some c =>
      (e.mod fun s =>
        (s.modRecord i fun r => { r with pieces := enterPiece (c.piece p k) r.pieces }).checkCurrency i).modJob i settle
    | none =>
      { (e.mod fun s =>
          ((s.modRecord i fun r => { r with pieces := leavePiece k r.pieces }).checkRetired i).checkCurrency i).modJob i
          settle with walk := true }

/-- The reports of the slots applied on a panel, slot by slot (R139). -/
def Ev.reportFrame (p : PanelId) (before : State) (e : Ev) : Ev :=
  (before.dueSlots p).foldl (Ev.reportApplied p before) e

/-- R151, R154: the threshold checks of a timeout counted at the frame start. -/
def Ev.checkTimeout (p : PanelId) (before : State) (e : Ev) : Ev :=
  if (before.panel p).ackOwed then e.checkHealth p else e

/-- R132: a frame start of one panel. -/
def Ev.soloFrame (e : Ev) (p : PanelId) : Ev :=
  let s0 := e.s.modPanel p fun x => x.adopt.beginFrame x.adopt.soloPeriod
  let e1 := ({ e with s := s0.openFrame p }).reportFrame p s0
  e1.endSteps.checkTimeout p s0

/-- R132, R136: a frame start of both panels as one event. -/
def Ev.jointFrame (e : Ev) : Ev :=
  let s0 := (e.s.modPanel .p0 Panel.adopt).modPanel .p1 Panel.adopt
  let eff := s0.jointPeriod
  let s1 := (s0.modPanel .p0 (Panel.beginFrame eff)).modPanel .p1 (Panel.beginFrame eff)
  let e1 := (({ e with s := (s1.openFrame .p0).openFrame .p1 }).reportFrame .p0 s1).reportFrame .p1 s1
  (e1.endSteps.checkTimeout .p0 s1).checkTimeout .p1 s1

/-- R136: the lock, at panel 0's frame start in LOCK_PENDING. Panel 1's frame is cut short. DESIGN CHOICE (log 27): the state is
JOINED before the ends of steps at this frame start, so a take-up from the backlog (R117) resolves against the joined canvas. -/
def Ev.lockFrame (e : Ev) : Ev :=
  let e1 := e.mod fun s => (s.modPanel .p1 fun x => { x with ackOwed := false }).setJoined .joined
  { e1 with resolveAll := true }.jointFrame

/-- R132: compare A of panel `p` is reached. -/
def Ev.frameStart (e : Ev) (p : PanelId) : Ev :=
  match e.s.shared.joined, p with
  | .joined, _ => e.jointFrame
  | .lockPending, .p0 => e.lockFrame
  | _, _ => e.soloFrame p

end Sys2Proof.Machine
end

