-- ==== Sys2Proof/Machine/Reports.lean ====
section
/-! DEFINITION. Response payloads byte by byte (chapter Frame and Record Formats: value codes, common encodings, response
payloads, record layout, notice and queue entries, panel report; R185). -/

namespace Sys2Proof.Machine

/-! ### Common encodings -/

def byteOf (n : Nat) : Byte := BitVec.ofNat 8 n

def bitByte (b : Bool) : Byte := if b then 1 else 0

/-- A two-byte field, most significant byte first. -/
def halfBytes (h : Half) : List Byte := [h.extractLsb' 8 8, h.extractLsb' 0 8]

def natHalf (n : Nat) : List Byte := halfBytes (BitVec.ofNat 16 n)

def intHalf (i : Int) : List Byte := halfBytes (BitVec.ofInt 16 i)

/-- A four-byte field, most significant byte first. -/
def wordBytes (w : Word) : List Byte := [w.extractLsb' 24 8, w.extractLsb' 16 8, w.extractLsb' 8 8, w.extractLsb' 0 8]

/-- R185: the bytes of an absent field. -/
def zeros (n : Nat) : List Byte := List.replicate n 0

def Handle.bytes (h : Handle) : List Byte := [byteOf h.gen.val, byteOf h.index.val]

def Rect.bytes (r : Rect) : List Byte := intHalf r.x ++ intHalf r.y ++ natHalf r.w ++ natHalf r.h

def Size.bytes (z : Size) : List Byte := natHalf z.w ++ natHalf z.h

def Buffer.bytes (b : Buffer) : List Byte :=
  wordBytes b.desc.address ++ halfBytes b.desc.stride ++ halfBytes b.desc.width ++ halfBytes b.desc.height ++
    halfBytes b.desc.tag

/-- An optional field: its bytes, or zeros when it is absent (R185). -/
def optBytes {α : Type} (n : Nat) (f : α → List Byte) : Option α → List Byte
  | some x => f x
  | none => zeros n

/-! ### Value codes -/

def panelCode : PanelId → Byte
  | .p0 => 0
  | .p1 => 1

def Posture.code : Posture → Byte
  | .unknown => 0
  | .closed => 1
  | .book => 2
  | .flat => 3
  | .tent => 4
  | .folded => 5

def Target.code : Target → Byte
  | .home => 0
  | .other => 1
  | .front => 2
  | .span => 3
  | .park => 4

def Fit.code : Fit → Byte
  | .full => 0
  | .keep => 1

def Fallback.code : Fallback → Byte
  | .move => 0
  | .park => 1

def HandoverMode.code : HandoverMode → Byte
  | .make => 0
  | .brk => 1

def RecordState.code : RecordState → Byte
  | .new => 1
  | .placed => 2
  | .parked => 3
  | .moving => 4
  | .retiring => 5

/-- The code of the state RETIRED. -/
def retiredCode : Byte := 6

def HingeState.code : HingeState → Byte
  | .disabled => 0
  | .acquiring => 1
  | .tracking => 2
  | .lost => 3

def BadCause.code : BadCause → Byte
  | .none => 0
  | .framing => 1
  | .sync => 2
  | .check => 3
  | .field => 4
  | .silent => 5

def Dwell.code : Dwell → Byte
  | .idle => 0
  | .running _ => 1
  | .deferred => 2

def PanelMode.code : PanelMode → Byte
  | .off => 0
  | .poweringUp _ => 1
  | .on => 2
  | .degraded => 3
  | .poweringDown => 4
  | .offline => 5

def JoinedMode.code : JoinedMode → Byte
  | .notJoined => 0
  | .lockPending => 1
  | .joined => 2

def RecoveryMode.code : RecoveryMode → Byte
  | .auto => 0
  | .hold => 1

def CaptureMode.code : CaptureMode → Byte
  | .first => 0
  | .all => 1

def Phase.code : Phase → Byte
  | .preparing => 0
  | .slotWait => 1
  | .stepOne => 2
  | .stepTwo => 3

def FetchMode.code : FetchMode → Byte
  | .increment => 0
  | .decrement => 1
  | .fill => 2

def Marks.toByte (m : Marks) : Byte := byteOfBits [m.placement, m.wanted, m.stale, m.evicted, m.released, m.retired]

def FaultSet.toByte (f : FaultSet) : Byte := byteOfBits [f.trainFail, f.ackError, f.ackTimeout]

/-- One bit per posture, at the bit numbered by its code. -/
def PostureSet.toByte (s : PostureSet) : Byte := byteOfBits [false, s.closed, s.book, s.flat, s.tent, s.folded]

/-- Panel 0 bit 0, panel 1 bit 1. -/
def panelMask (l : List PanelId) : Byte := byteOfBits [l.contains .p0, l.contains .p1]

/-! ### Hinge and posture reports -/

/-- R19: the READ_HINGE payload. -/
def Hinge.report (h : Hinge) : List Byte :=
  [h.input.code] ++ natHalf h.lastRaw ++ natHalf h.angle ++ natHalf h.filtered ++ natHalf h.motion ++
    [byteOfBits [h.swinging, h.marginal], byteOf h.good, byteOf h.bad, h.lastCause.code, byteOf h.lastGap.val]

/-- R38: milliseconds to the dwell's expiry. -/
def State.dwellRemaining (s : State) : Nat :=
  match s.posture.dwell with
  | .running t => s.remainingMs t
  | _ => 0

/-- R38: the READ_POSTURE payload. -/
def State.postureReport (s : State) : List Byte :=
  let c := s.posture
  [c.committed.code, c.candidate.code, c.dwell.code] ++ natHalf s.dwellRemaining ++
    [byteOfBits [c.disagreement, c.switchUse, c.debounced, c.span, s.hinge.swinging], panelCode c.front] ++
    natHalf s.hinge.filtered

/-! ### Records -/

/-- A piece place of LOOKUP_SURFACE: 15 bytes. -/
def Piece.bytes (t : Piece) : List Byte :=
  [panelCode t.panel, byteOf t.slot.val, bitByte t.rotated] ++ t.dest.bytes ++ natHalf t.srcX ++ natHalf t.srcY

/-- A variant place of LOOKUP_SURFACE: 12 bytes. -/
def Variant.bytes (v : Variant) : List Byte :=
  [v.postures.toByte, v.target.code, v.fallback.code, bitByte v.rect.isSome] ++ optBytes 8 Rect.bytes v.rect

/-- `n` places of `size` bytes, those beyond the list all 0 (R185). -/
def places {α : Type} (size : Nat) (f : α → List Byte) : Nat → List α → List Byte
  | 0, _ => []
  | n + 1, [] => zeros size ++ places size f n []
  | n + 1, x :: xs => f x ++ places size f n xs

/-- R45, R63: the 143-byte record layout of a record that is not RETIRED. -/
def Record.bytes (h : Handle) (r : Record) : List Byte :=
  h.bytes ++
    [r.state.code,
      byteOfBits [r.current.isSome, r.pending.isSome, r.wanted.isSome, r.released.isSome, r.rect.isSome,
        r.moveTo.isSome, (r.moveTo.bind MoveOverride.rect).isSome]] ++
    halfBytes r.cls ++ halfBytes r.owner ++ [panelCode r.home, r.z] ++
    [byteOfBits [r.redraw, r.placeholder, r.staleContent, r.resPending], r.marks.toByte] ++ wordBytes r.fill ++
    optBytes 12 Buffer.bytes r.current ++ optBytes 12 Buffer.bytes r.pending ++ optBytes 4 Size.bytes r.wanted ++
    optBytes 2 halfBytes r.released ++ optBytes 8 Rect.bytes r.rect ++
    [r.moveTo.elim 0 fun m => m.target.code] ++ optBytes 8 Rect.bytes (r.moveTo.bind MoveOverride.rect) ++
    [byteOf r.pieces.length] ++ places 15 Piece.bytes 2 r.pieces ++
    [byteOf r.variants.length] ++ places 12 Variant.bytes 4 r.variants

/-- R63, R185: the 143-byte layout of a RETIRED record. -/
def retiredBytes (h : Handle) (released : Option Half) (m : Marks) : List Byte :=
  h.bytes ++ [retiredCode, byteOfBits [false, false, false, released.isSome]] ++ zeros 7 ++ [m.toByte] ++ zeros 32 ++
    optBytes 2 halfBytes released ++ zeros 97

/-- The LOOKUP_SURFACE payload of a slot. -/
def TableSlot.bytes (h : Handle) : TableSlot → List Byte
  | .free => []
  | .used r => r.bytes h
  | .retired released m => retiredBytes h released m

/-- R171: the notice entry of a slot: 12 bytes. -/
def TableSlot.notice (h : Handle) : TableSlot → List Byte
  | .free => []
  | .used r =>
    h.bytes ++ [r.marks.toByte, r.state.code, panelMask (r.pieces.map Piece.panel),
      byteOfBits [r.wanted.isSome, r.released.isSome]] ++ optBytes 4 Size.bytes r.wanted ++
      optBytes 2 halfBytes r.released
  | .retired released m =>
    h.bytes ++ [m.toByte, retiredCode, 0, byteOfBits [false, released.isSome]] ++ zeros 4 ++
      optBytes 2 halfBytes released

/-! ### Rules, queue, panels, status -/

def PerPosture.list {α : Type} (t : PerPosture α) : List α := [t.closed, t.book, t.flat, t.tent, t.folded]

/-- A rule entry: 18 bytes. -/
def Rule.bytes (r : Rule) : List Byte :=
  [bitByte r.valid] ++ halfBytes r.base ++ halfBytes r.mask ++ r.targets.list.map Target.code ++
    r.fits.list.map Fit.code ++ [r.fallback.code, r.mode.code, byteOf r.deadline]

/-- R121: a queue entry: 7 bytes. -/
def State.queueEntry (s : State) (j : Job) : List Byte :=
  j.handle.bytes ++ [j.phase.code, panelMask (j.target.pieces.map TargetPiece.panel), bitByte j.next.isSome] ++
    natHalf (if j.waiting then j.expiry.elim 0 s.remainingMs else 0)

/-- R121: the READ_QUEUE payload. -/
def State.queueReport (s : State) : List Byte := byteOf s.queue.length :: s.queue.flatMap s.queueEntry

/-- R147: a live stack entry: 14 bytes. -/
def State.stackEntry (s : State) (k : Fin 16) : List Byte :=
  match s.slot k with
  | .live o c _ => [byteOf k.val] ++ o.bytes ++ c.dest.bytes ++ [c.fetch.code, c.z, bitByte c.focus]
  | _ => []

/-- R124: a power-up is pending. -/
def Panel.powerUpPending (x : Panel) : Bool :=
  match x.mode with
  | .off => x.litDemand && x.offTimer.isSome
  | _ => false

/-- R147: the slots of the live stack that are live. -/
def State.liveStack (s : State) (p : PanelId) : List (Fin 16) := (s.panel p).stack.filter fun k => (s.slot k).isLive

/-- R147: the READ_PANEL payload. -/
def State.panelReport (s : State) (p : PanelId) : List Byte :=
  let x := s.panel p
  [x.mode.code,
    byteOfBits [x.powerUpPending, x.litDemand, x.enabled, x.warning, x.pendPeriod.isSome, x.pendLead.isSome]] ++
    natHalf x.period ++ natHalf x.lead ++ natHalf (x.pendPeriod.getD 0) ++ natHalf (x.pendLead.getD 0) ++
    natHalf x.effective ++
    [s.shared.joined.code, byteOf x.health, byteOf x.attempts, x.recovery.code, x.capture.code, x.fault.toByte,
      panelCode s.shared.lender, byteOf s.shared.lent, byteOf (usableCount s.shared.lender s.shared.lent p),
      byteOf (s.liveStack p).length] ++
    (s.liveStack p).flatMap s.stackEntry

/-- R169: the records in use. -/
def State.recordsInUse (s : State) : Nat := allRecords.countP fun i => !(s.entry i).isFree

/-- R169: the READ_STATUS payload. -/
def State.statusReport (s : State) : List Byte :=
  [s.attn.flags.toByte, s.attn.mask.toByte, byteOf s.attn.threshold, s.posture.committed.code, s.hinge.input.code,
    (s.panel .p0).mode.code, (s.panel .p1).mode.code, byteOf s.queue.length, byteOf s.recordsInUse,
    byteOf s.markedCount]

end Sys2Proof.Machine
end

