-- ==== Sys2Proof/Machine/Link.lean ====
section
/-! DEFINITION. The Request Link (chapter The Request Link): statuses, response frames, the judging of a request frame, and the
execution of a request with its response. -/

namespace Sys2Proof.Machine

/-- R178: the statuses. -/
inductive Status where
  | ok
  | accepted
  | notReady
  | noResponse
  | frameError
  | unknownRequest
  | badLength
  | badValue
  | badHandle
  | retiring
  | noRoom
  | busy
  | sizeMismatch
  deriving DecidableEq, Repr

/-- The status codes (chapter Frame and Record Formats). -/
def Status.code : Status → Byte
  | .ok => 0x00
  | .accepted => 0x01
  | .notReady => 0x02
  | .noResponse => 0x03
  | .frameError => 0x10
  | .unknownRequest => 0x11
  | .badLength => 0x12
  | .badValue => 0x20
  | .badHandle => 0x21
  | .retiring => 0x22
  | .noRoom => 0x23
  | .busy => 0x24
  | .sizeMismatch => 0x25

/-- R174: the sum of a frame's bytes, modulo 256. -/
def byteSum : List Byte → Byte
  | [] => 0
  | b :: bs => b + byteSum bs

/-- R174, R177: a frame: first byte, payload length, payload, and the check byte that brings the sum to 0 modulo 256. -/
def frameOf (first : Byte) (payload : List Byte) : List Byte :=
  let body := first :: byteOf payload.length :: payload
  body ++ [0 - byteSum body]

/-- R177: a response frame. -/
def responseFrame (st : Status) (payload : List Byte) : List Byte := frameOf st.code payload

/-- R175: the judging of the bytes that followed the opener 0xA1. A partial byte fails check 1 (log 8). -/
def judge (bytes : List Byte) (partialBits : Nat) : Except Status Instr :=
  match bytes with
  | code :: len :: rest =>
    if partialBits = 0 ∧ len.toNat ≤ Config.payloadMax ∧ rest.length = len.toNat + 1 then
      if byteSum bytes = 0 then
        match decodeRequest code (rest.take len.toNat) with
        | .ok i => .ok i
        | .error .unknownRequest => .error .unknownRequest
        | .error .badLength => .error .badLength
      else .error .frameError
    else .error .badLength
  | _ => .error .badLength

/-- What an owner answers: a status and a payload. -/
structure Reply where
  status : Status
  payload : List Byte
  deriving DecidableEq, Repr

/-- R178: a refusal carries no payload. -/
def refusal (st : Status) : Reply := ⟨st, []⟩

/-- R50, R176: ACCEPTED when work goes on after the response, OK otherwise. -/
def doneReply (more : Bool) (payload : List Byte) : Reply := ⟨if more then .accepted else .ok, payload⟩

/-- R176: the owner's response is placed in the response buffer, and the link becomes RESPONSE_READY. -/
def State.respond (s : State) (r : Reply) : State :=
  { s with link := { s.link with
      state := .responseReady, buffer := some (responseFrame r.status r.payload), readPos := 0, executing := none } }

/-- R175, R176: a frame is taken: the held response is discarded and the request is handed to its owner. -/
def State.take (s : State) (req : Instr) : State :=
  { s with link := { s.link with state := .executing, buffer := none, readPos := 0, executing := some req } }

/-- R180: RST_N is low or the supplies are coming up: the link takes no transaction. -/
def State.rstLow (s : State) : Bool := s.link.state == .resetting && s.link.reset == some .held

/-- R179, R180: a frame that comes in EXECUTING or RESETTING is discarded and LINK set; while RST_N is low none is taken at all. -/
def State.discard (s : State) : State := if s.rstLow then s else s.raise .link

/-- R176, R179: a request as one command (log 1). While the link is EXECUTING this very request, the command is its execution by
the owner. In IDLE or RESPONSE_READY it is the whole exchange: its frame is taken and its owner executes it. In RESETTING, or while
another request executes, its frame is discarded and LINK is set. -/
def State.runRequest (s : State) (req : Instr) (owner : State → State × Reply) : State :=
  let run := fun t : State => (owner t).1.respond (owner t).2
  match s.link.state with
  | .idle => run (s.take req)
  | .responseReady => run (s.take req)
  | .executing => if s.link.executing = some req then run s else s.discard
  | .resetting => s.discard

/-- A refusal changes nothing (R176). -/
def refuse (s : State) (st : Status) : State × Reply := (s, refusal st)

/-- A request that only reports. -/
def report (s : State) (payload : List Byte) : State × Reply := (s, ⟨.ok, payload⟩)

/-- The end of a request that re-resolved or staged (R50): the event ends, and the status says whether work goes on. -/
def Ev.reply (e : Ev) (payload : State → List Byte) : State × Reply :=
  let f := e.finish
  (f.s, doneReply f.changed (payload f.s))

end Sys2Proof.Machine
end

