-- ==== Sys2Proof/Machine/Classify.lean ====
section
/-! DEFINITION. What the Posture Classifier does within an event (chapter Posture): bands, candidate and dwell, commit and plan
change, the fold switch check, and what the Hinge Input Unit tells it. -/

namespace Sys2Proof.Machine

def Ev.modPosture (e : Ev) (f : Classifier → Classifier) : Ev := e.mod fun s => { s with posture := f s.posture }

/-- R23: the plain band of an angle. -/
def Classifier.plainBand (c : Classifier) (f : Nat) : Posture :=
  if f < c.b1 then .closed
  else if f < c.b2 then .book
  else if f < c.b3 then .flat
  else if f < c.b4 then .tent
  else .folded

/-- R24: the angle lies in the widened band of a posture. UNKNOWN has no band. -/
def Classifier.inWidened (c : Classifier) (f : Nat) : Posture → Bool
  | .unknown => false
  | .closed => decide (f < c.b1 + c.margin)
  | .book => decide (c.b1 ≤ f + c.margin) && decide (f < c.b2 + c.margin)
  | .flat => decide (c.b2 ≤ f + c.margin) && decide (f < c.b3 + c.margin)
  | .tent => decide (c.b3 ≤ f + c.margin) && decide (f < c.b4 + c.margin)
  | .folded => decide (c.b4 ≤ f + c.margin) && decide (f ≤ 3600)

/-- R24: the candidate for an angle. -/
def Classifier.candidateFor (c : Classifier) (f : Nat) : Posture :=
  if c.inWidened f c.committed then c.committed else c.plainBand f

/-- R30: a commit of a posture; none when it is already in force. The group of R30 is re-resolved where the event ends. -/
def Ev.commit (e : Ev) (p : Posture) : Ev :=
  if e.s.posture.committed = p then e
  else
    let e1 := (e.modPosture fun c => { c with committed := p, candidate := p, dwell := .idle }).raise .posture
    { (e1.mod fun s => s.mapRecords fun r => { r with moveTo := none }).applyPlan with resolveAll := true }

/-- R32: a plan change. -/
def Ev.planChange (e : Ev) : Ev := { e.applyPlan with resolveAll := true }

/-- R34: the check holds or commits CLOSED. -/
def Ev.closeNow (e : Ev) : Ev :=
  (e.modPosture fun c => { c with dwell := .idle, candidate := .closed, disagreement := false }).commit .closed

/-- R35: disagreement; HINGE is set at its onset. -/
def Ev.disagree (e : Ev) : Ev :=
  let e1 := e.modPosture fun c => { c with dwell := .idle, candidate := c.committed, disagreement := true }
  if e.s.posture.disagreement then e1 else e1.raise .hinge

/-- R34: the fold switch check, made only while it applies. -/
def Ev.foldCheck (e : Ev) : Ev :=
  if e.s.posture.switchUse && e.s.posture.debounced then
    match e.s.hinge.input with
    | .disabled => e
    | .tracking => if e.s.hinge.filtered ≤ e.s.posture.agreeLimit then e.closeNow else e.disagree
    | _ => e.closeNow
  else e

/-- R29: the classifier is told that the input has left TRACKING, for LOST or for DISABLED. -/
def Ev.leftTracking (e : Ev) (toLost : Bool) : Ev :=
  let e1 := e.modPosture fun c => { c with dwell := .idle, candidate := c.committed }
  if toLost then e1.foldCheck else e1.modPosture fun c => { c with disagreement := false }

/-- R27: a dwell starts for candidate `c`; a dwell time of 0 starts no timer. -/
def Ev.startDwell (e : Ev) (c : Posture) : Ev :=
  if e.s.posture.dwellMs = 0 then
    if e.s.hinge.swinging then e.modPosture fun x => { x with candidate := c, dwell := .deferred }
    else (e.modPosture fun x => { x with candidate := c }).commit c
  else e.modPosture fun x => { x with candidate := c, dwell := .running (e.s.after x.dwellMs) }

/-- R27: a good frame is applied to the dwell. -/
def Ev.applyDwell (e : Ev) (c : Posture) : Ev :=
  if c = e.s.posture.committed then e.modPosture fun x => { x with candidate := c, dwell := .idle }
  else
    match e.s.posture.dwell with
    | .idle => e.startDwell c
    | .running _ => if c = e.s.posture.candidate then e else e.startDwell c
    | .deferred =>
      if c = e.s.posture.candidate then (if e.s.hinge.swinging then e else e.commit c) else e.startDwell c

/-- R25, R26: the evaluation of a good frame passed to the classifier. -/
def Ev.evaluate (e : Ev) : Ev :=
  if e.s.posture.switchUse && e.s.posture.debounced then e.foldCheck
  else if e.s.posture.committed = .unknown then
    if e.s.hinge.swinging then
      e.modPosture fun x => { x with candidate := x.plainBand e.s.hinge.filtered, dwell := .idle }
    else e.commit (e.s.posture.plainBand e.s.hinge.filtered)
  else e.applyDwell (e.s.posture.candidateFor e.s.hinge.filtered)

/-- R28: a running dwell reaches its expiry time. -/
def Ev.dwellEnd (e : Ev) : Ev :=
  if e.s.hinge.swinging then e.modPosture fun x => { x with dwell := .deferred }
  else (e.modPosture fun x => { x with dwell := .idle }).commit e.s.posture.candidate

/-- R33, R34, R36: the debounced level takes the raw level. -/
def Ev.takeLevel (e : Ev) : Ev :=
  if e.s.posture.rawLevel = e.s.posture.debounced then e
  else if e.s.posture.rawLevel then (e.modPosture fun x => { x with debounced := true }).foldCheck
  else e.modPosture fun x => { x with debounced := false, disagreement := false }

end Sys2Proof.Machine
end

