-- ==== Sys2Proof/Machine/Hinge.lean ====
section
/-! DEFINITION. The Hinge Input Unit (chapter Hinge Angle Measurement): reception, the checks of a frame, bad events and good
frames, calibration, filter and motion; and the meanings of its commands. -/

namespace Sys2Proof.Machine

def Ev.modHinge (e : Ev) (f : Hinge → Hinge) : Ev := e.mod fun s => { s with hinge := f s.hinge }

/-! ### The frame and its checks -/

/-- The bits of a frame, the first received the most significant (chapter Frame and Record Formats). -/
def frameBits (bits : List Bool) : BitVec 32 :=
  bits.foldl (fun w b => (w <<< 1) ||| (if b then 1 else 0)) 0

def frameSync (w : BitVec 32) : Byte := w.extractLsb' 24 8

def frameCode (w : BitVec 32) : Nat := (w.extractLsb' 10 14).toNat

def frameField (w : BitVec 32) : Nat := (w.extractLsb' 8 2).toNat

def frameCount (w : BitVec 32) : Fin 16 := ⟨(w.extractLsb' 4 4).toNat, (w.extractLsb' 4 4).isLt⟩

/-- R2 check 3: the five data nibbles and the check nibble. -/
def frameNibbleSum (w : BitVec 32) : BitVec 4 :=
  w.extractLsb' 20 4 + w.extractLsb' 16 4 + w.extractLsb' 12 4 + w.extractLsb' 8 4 + w.extractLsb' 4 4 +
    w.extractLsb' 0 4

/-- R2: the first check a reception fails, if any. -/
def receptionBadCause : Reception → Option BadCause
  | .framingError => some .framing
  | .frame w =>
    if frameSync w ≠ Config.syncByte then some .sync
    else if frameNibbleSum w ≠ 15 then some .check
    else if frameField w = 3 then some .field
    else none

/-! ### Bad events -/

/-- R4: what a bad event does to the unit, before the change of state. -/
def Hinge.countBad (h : Hinge) (c : BadCause) : Hinge :=
  { h with good := 0, bad := min Config.streakMax (h.bad + 1), lastCause := c }

/-- R4, R11: a bad event. -/
def Ev.badEvent (e : Ev) (c : BadCause) : Ev :=
  let e1 := e.modHinge fun h => h.countBad c
  if e1.s.hinge.input = .tracking ∧ e1.s.hinge.badLimit ≤ e1.s.hinge.bad then
    ((e1.modHinge fun h => { h with input := .lost, swinging := false }).raise .hinge).leftTracking true
  else e1

/-! ### Good frames -/

/-- R13: the corrected angle of a raw code. -/
def correctedAngle (cal : Vector Nat 9) (r : Nat) : Nat :=
  let k := r / 2048
  let f := r % 2048
  let lo := cal[k]?.getD 0
  let hi := cal[k + 1]?.getD 0
  lo + ((hi - lo) * f + 1024) / 2048

/-- R7: the rolling-count gap of a frame. -/
def Hinge.gap (h : Hinge) (count : Fin 16) : Fin 16 :=
  match h.expected with
  | some x => count - x
  | none => 0

/-- R5 steps 1 to 4. -/
def Hinge.receiveGood (h : Hinge) (raw field : Nat) (count : Fin 16) : Hinge :=
  { h with
    lastGap := h.gap count, expected := some (count + 1), marginal := decide (field ≠ 0)
    good := min Config.streakMax (h.good + 1), bad := 0
    lastRaw := raw, angle := correctedAngle h.cal raw }

/-- R5 step 5: the frame enters TRACKING. -/
def Hinge.entersTracking (h : Hinge) : Bool :=
  (h.input == .acquiring || h.input == .lost) && h.good == Config.goodRun

/-- R12: the full re-seed. -/
def Hinge.reseed (h : Hinge) : Hinge :=
  { h with
    acc := 16 * h.angle, filtered := h.angle, window := Vector.replicate 8 h.angle
    divider := 0, motion := 0, swinging := false }

/-- R15: the filter step. Int division by a positive number rounds toward minus infinity. -/
def filterStep (acc angle shift : Nat) : Nat :=
  ((acc : Int) + ((16 * angle : Int) - (acc : Int)) / (2 ^ shift : Int)).toNat

/-- R15: the filtered angle of an accumulator. -/
def filteredOf (acc : Nat) : Nat := (acc + 8) / 16

def Hinge.step (h : Hinge) : Hinge :=
  let acc := filterStep h.acc h.angle h.shift
  { h with acc := acc, filtered := filteredOf acc }

/-- R17: the oldest entry leaves the window and the newest joins it. -/
def pushWindow (w : Vector Nat 8) (f : Nat) : Vector Nat 8 := #v[w[1], w[2], w[3], w[4], w[5], w[6], w[7], f]

/-- R12: the window re-fill after the filter step. -/
def Hinge.refill (h : Hinge) : Hinge := { h with window := Vector.replicate 8 h.filtered, divider := 0 }

/-- R17: the motion window is sampled. -/
def Hinge.sample (h : Hinge) : Hinge :=
  if h.divider + 1 = h.interval then { h with window := pushWindow h.window h.filtered, divider := 0 }
  else { h with divider := h.divider + 1 }

/-- R17: the motion measure and the swinging indication. -/
def Hinge.measure (h : Hinge) : Hinge :=
  let m := (h.filtered - h.window[0]) + (h.window[0] - h.filtered)
  { h with motion := m, swinging := decide (h.threshold ≤ m) }

/-- R12: a good frame in TRACKING makes a full re-seed. -/
def Hinge.fullReseed (h : Hinge) (entered gapSeen : Bool) : Bool := entered || h.reseedPending || gapSeen

/-- R5 step 6, in TRACKING. -/
def Hinge.track (h : Hinge) (entered gapSeen : Bool) : Hinge :=
  if h.fullReseed entered gapSeen then h.reseed
  else if h.refillPending then h.step.refill.measure
  else h.step.sample.measure

/-- R5: a good frame, whole. -/
def Hinge.goodFrame (h : Hinge) (raw field : Nat) (count : Fin 16) : Hinge :=
  let gapSeen := h.expected.isSome && decide (Config.gapLimit ≤ (h.gap count).val)
  let h1 := h.receiveGood raw field count
  let entered := h1.entersTracking
  let h2 := if entered then { h1 with input := .tracking } else h1
  let h3 := if h2.input = .tracking then h2.track entered gapSeen else h2
  { h3 with reseedPending := false, refillPending := false }

/-- R5, R6, R11: a good frame with its attention flags and its hand-over to the classifier. -/
def Ev.goodFrame (e : Ev) (raw field : Nat) (count : Fin 16) : Ev :=
  let h := e.s.hinge
  let e1 := e.modHinge fun h => h.goodFrame raw field count
  let onset := decide (field ≠ 0) && !h.marginal
  let returned := decide (h.input = .lost) && decide (e1.s.hinge.input = .tracking)
  let e2 := if onset || returned then e1.raise .hinge else e1
  if e2.s.hinge.input = .tracking then e2.evaluate else e2

/-! ### Arrivals -/

/-- R2: a frame arrival restarts the silent timer and is judged. -/
def Ev.arrival (e : Ev) (r : Reception) : Ev :=
  let e1 := e.modHinge fun h => { h with silentTimer := some (e.s.after h.silentMs) }
  match r, receptionBadCause r with
  | _, some c => e1.badEvent c
  | .frame w, none => e1.goodFrame (frameCode w) (frameField w) (frameCount w)
  | .framingError, none => e1

/-- R1: the receive state after reception ends. -/
def recvAfter : Reception → RecvState
  | .frame _ => .ready
  | .framingError => .idleWait

/-- R1, R2: reception ends, and the arrival is judged at that moment.

DESIGN CHOICE (log 29): a cell that ends reception ends it at the one instant of its HSNS_CELL, from which the
silent timer of the arrival runs. R1 does not say when in the stop cell reception ends. -/
def State.receive (s : State) (r : Reception) : State :=
  let s1 := { s with hinge := { s.hinge with recv := recvAfter r, cellTimer := none } }
  ((Ev.start s1).arrival r).done

/-- R1, R21, R22: cells are taken while the input is enabled and no reset is under way. -/
def State.sensing (s : State) : Bool := s.hinge.enabled && !(s.link.state == .resetting)

/-- R1: the receive state goes on in a frame, and the cell limit starts afresh.

DESIGN CHOICE (log 29): HSNS_CELL stands for a cell together with its low time, taken as one instant. The spec does
not say at which instant of a cell the command stands; here the cell limit runs from that instant. -/
def State.inFrame (s : State) (bits : List Bool) : State :=
  { s with hinge := { s.hinge with recv := .inFrame bits, cellTimer := some (s.now + Config.cellLimitUs) } }

/-- R1: a cell of value `v` in IN_FRAME with `bits` held. -/
def State.frameCell (s : State) (bits : List Bool) (v : Bool) : State :=
  if bits.length < 32 then s.inFrame (bits ++ [v])
  else if v then s.receive (.frame (frameBits bits))
  else s.receive .framingError

/-! ### Meanings -/

/-- LINE_IDLE (R1). -/
def execLineIdle (s : State) : Host.Outcome State Fault Refusal :=
  .next (if s.sensing ∧ s.hinge.recv = .idleWait then { s with hinge := { s.hinge with recv := .ready } } else s)

/-- HSNS_CELL (R1): a cell that ends reception brings the frame arrival with it (log 5). DESIGN CHOICE (log 29): the
cell with its low time is one instant, `s.now`. -/
def execHsnsCell (lowNs : Nat) (s : State) : Host.Outcome State Fault Refusal :=
  let v := decide (Config.cellOneNs ≤ lowNs)
  .next <|
    if s.sensing then
      match s.hinge.recv with
      | .idleWait => s
      | .ready => if v then s.receive .framingError else s.inFrame []
      | .inFrame bits => s.frameCell bits v
    else s

/-- FRAME_ARRIVAL (R1, R2): reception ended, with a frame or a framing error (log 5). In IDLE_WAIT no cell is taken. -/
def execFrameArrival (r : Reception) (s : State) : Host.Outcome State Fault Refusal :=
  .next (if s.sensing ∧ s.hinge.recv ≠ .idleWait then s.receive r else s)

/-- CELL_TIMEOUT (R1). -/
def execCellTimeout (s : State) : Host.Outcome State Fault Refusal :=
  .next <|
    if s.sensing then
      match s.hinge.recv, s.hinge.cellTimer with
      | .inFrame _, some t => (s.reach t).receive .framingError
      | _, _ => s
    else s

/-- SILENT_EXPIRY (R3): a SILENT bad event, and the timer restarts at once. -/
def execSilentExpiry (s : State) : Host.Outcome State Fault Refusal :=
  .next <|
    match s.hinge.silentTimer with
    | none => s
    | some t =>
      let s1 := s.reach t
      (((Ev.start s1).modHinge fun h => { h with silentTimer := some (s1.after h.silentMs) }).badEvent .silent).done

/-! ### Requests -/

/-- R8: entry to DISABLED. -/
def Ev.disableInput (e : Ev) : Ev :=
  let was := e.s.hinge.input
  let e1 := e.modHinge fun h =>
    { h with
      enabled := false, input := .disabled, recv := .idleWait, cellTimer := none, silentTimer := none
      good := 0, bad := 0, lastCause := .none, marginal := false, swinging := false
      expected := none, reseedPending := false, refillPending := false }
  if was = .tracking then e1.leftTracking false else e1.modPosture fun c => { c with disagreement := false }

/-- R9: entry to ACQUIRING from DISABLED; R29: the classifier is told and makes the fold switch check. -/
def Ev.enableInput (e : Ev) : Ev :=
  (e.modHinge fun h =>
    { h with
      enabled := true, input := .acquiring, recv := .idleWait
      silentTimer := some (e.s.after h.silentMs) }).foldCheck

/-- R18: the owner's part of HINGE_ENABLE. -/
def ownHingeEnable (value : Byte) (s : State) : State × Reply :=
  match boolOfByte value with
  | none => refuse s .badValue
  | some on =>
    let s1 :=
      match on, decide (s.hinge.input = .disabled) with
      | true, true => (Ev.start s).enableInput.done
      | false, false => (Ev.start s).disableInput.done
      | _, _ => s
    (s1, ⟨.ok, [s1.hinge.input.code]⟩)

/-- HINGE_ENABLE (R18). -/
def execHingeEnable (value : Byte) (s : State) : Host.Outcome State Fault Refusal :=
  .next (s.runRequest (.hingeEnable value) (ownHingeEnable value))

/-- READ_HINGE (R19). -/
def execReadHinge (s : State) : Host.Outcome State Fault Refusal :=
  .next (s.runRequest .readHinge fun s => report s s.hinge.report)

/-- R14: nine values of at most 3600, nondecreasing. -/
def calibrationOk (points : Vector Half 9) : Bool :=
  ((List.finRange 9).all fun n => decide ((points[n]).toNat ≤ 3600)) &&
    (List.finRange 8).all fun n => decide ((points[n.val]).toNat ≤ (points[n.val + 1]).toNat)

/-- R14: the owner's part of SET_CALIBRATION. -/
def ownSetCalibration (points : Vector Half 9) (s : State) : State × Reply :=
  if calibrationOk points then
    ({ s with hinge := { s.hinge with cal := Vector.ofFn fun n : Fin 9 => (points[n]).toNat, reseedPending := true } },
      ⟨.ok, []⟩)
  else refuse s .badValue

/-- SET_CALIBRATION (R14). -/
def execSetCalibration (points : Vector Half 9) (s : State) : Host.Outcome State Fault Refusal :=
  .next (s.runRequest (.setCalibration points) (ownSetCalibration points))

/-- R20: the filter settings used, after clamping. -/
def Hinge.withFilter (h : Hinge) (shift interval threshold silent limit : Byte) : Hinge :=
  let d := clamp 1 32 interval.toNat
  { h with
    shift := clamp 0 5 shift.toNat, interval := d, threshold := clamp 1 255 threshold.toNat
    silentMs := clamp 2 20 silent.toNat, badLimit := clamp 2 32 limit.toNat
    refillPending := h.refillPending || decide (d ≠ h.interval) }

/-- R20: the owner's part of SET_FILTER. -/
def ownSetFilter (shift interval threshold silent limit : Byte) (s : State) : State × Reply :=
  let h := s.hinge.withFilter shift interval threshold silent limit
  ({ s with hinge := h },
    ⟨.ok, [byteOf h.shift, byteOf h.interval, byteOf h.threshold, byteOf h.silentMs, byteOf h.badLimit]⟩)

/-- SET_FILTER (R20). -/
def execSetFilter (shift interval threshold silent limit : Byte) (s : State) : Host.Outcome State Fault Refusal :=
  .next (s.runRequest (.setFilter shift interval threshold silent limit)
    (ownSetFilter shift interval threshold silent limit))

end Sys2Proof.Machine
end

