-- ==== Sys2Proof/Machine/Posture.lean ====
section
/-! DEFINITION. The meanings of the Posture Classifier's commands (chapter Posture): dwell and debounce, the posture requests. -/

namespace Sys2Proof.Machine

/-- DWELL_EXPIRY (R28). -/
def execDwellExpiry (s : State) : Host.Outcome State Fault Refusal :=
  .next <|
    match s.posture.dwell with
    | .running t => (Ev.start (s.reach t)).dwellEnd.done
    | _ => s

/-- FOLD_EDGE (R33): a change of the raw level starts the debounce timer afresh. During a reset the pin is followed and no timer is
started (R181). -/
def execFoldEdge (level : Bool) (s : State) : Host.Outcome State Fault Refusal :=
  .next <|
    if level = s.posture.rawLevel then s
    else if s.link.state = .resetting then { s with posture := { s.posture with rawLevel := level } }
    else { s with posture := { s.posture with rawLevel := level, debounceTimer := some (s.after Config.debounceMs) } }

/-- DEBOUNCE_EXPIRY (R33). -/
def execDebounceExpiry (s : State) : Host.Outcome State Fault Refusal :=
  .next <|
    match s.posture.debounceTimer with
    | none => s
    | some t => ((Ev.start (s.reach t)).modPosture fun c => { c with debounceTimer := none }).takeLevel.done

/-- READ_POSTURE (R38). -/
def execReadPosture (s : State) : Host.Outcome State Fault Refusal :=
  .next (s.runRequest .readPosture fun s => report s s.postureReport)

/-- R39: the request's values are taken: boundaries in order, H at most 200, every band wider than 2H. -/
def bandsOk (b1 b2 b3 b4 h : Nat) : Bool :=
  decide (0 < b1) && decide (b1 < b2) && decide (b2 < b3) && decide (b3 < b4) && decide (b4 < 3600) &&
    decide (h ≤ 200) &&
    decide (2 * h < b1) && decide (2 * h < b2 - b1) && decide (2 * h < b3 - b2) && decide (2 * h < b4 - b3) &&
    decide (2 * h < 3600 - b4)

/-- R39: the owner's part of SET_BANDS. -/
def ownSetBands (b1 b2 b3 b4 margin dwell : Half) (s : State) : State × Reply :=
  if bandsOk b1.toNat b2.toNat b3.toNat b4.toNat margin.toNat then
    let d := min 1000 dwell.toNat
    ({ s with posture := { s.posture with
        b1 := b1.toNat, b2 := b2.toNat, b3 := b3.toNat, b4 := b4.toNat, margin := margin.toNat, dwellMs := d
        dwell := .idle, candidate := s.posture.committed } },
      ⟨.ok, halfBytes b1 ++ halfBytes b2 ++ halfBytes b3 ++ halfBytes b4 ++ halfBytes margin ++ natHalf d⟩)
  else refuse s .badValue

/-- SET_BANDS (R39). -/
def execSetBands (b1 b2 b3 b4 margin dwell : Half) (s : State) : Host.Outcome State Fault Refusal :=
  .next (s.runRequest (.setBands b1 b2 b3 b4 margin dwell) (ownSetBands b1 b2 b3 b4 margin dwell))

/-- R40: the owner's part of SET_SWITCH. -/
def ownSetSwitch (use : Byte) (limit : Half) (s : State) : State × Reply :=
  match boolOfByte use with
  | none => refuse s .badValue
  | some on =>
    let l := min 900 limit.toNat
    let e := (Ev.start s).modPosture fun c => { c with switchUse := on, agreeLimit := l }
    let e1 := if on then e.foldCheck else e.modPosture fun c => { c with disagreement := false }
    (e1.done, ⟨.ok, bitByte on :: natHalf l⟩)

/-- SET_SWITCH (R40). -/
def execSetSwitch (use : Byte) (limit : Half) (s : State) : Host.Outcome State Fault Refusal :=
  .next (s.runRequest (.setSwitch use limit) (ownSetSwitch use limit))

/-- R37: the owner's part of FORCE_POSTURE. -/
def ownForcePosture (code : Byte) (s : State) : State × Reply :=
  match postureOfByte code with
  | none => refuse s .badValue
  | some p =>
    if s.hinge.input = .disabled then
      let s1 := ((Ev.start s).commit p).done
      (s1, ⟨.ok, [s1.posture.committed.code]⟩)
    else refuse s .busy

/-- FORCE_POSTURE (R37). -/
def execForcePosture (code : Byte) (s : State) : Host.Outcome State Fault Refusal :=
  .next (s.runRequest (.forcePosture code) (ownForcePosture code))

/-- R41: the owner's part of SET_FRONT. -/
def ownSetFront (value : Byte) (s : State) : State × Reply :=
  match panelOfByte value with
  | none => refuse s .badValue
  | some p =>
    if p = s.posture.front then (s, ⟨.ok, []⟩)
    else (((Ev.start s).modPosture fun c => { c with front := p }).planChange.done, ⟨.accepted, []⟩)

/-- SET_FRONT (R41). -/
def execSetFront (value : Byte) (s : State) : Host.Outcome State Fault Refusal :=
  .next (s.runRequest (.setFront value) (ownSetFront value))

/-- R42: the owner's part of SET_SPAN. -/
def ownSetSpan (value : Byte) (s : State) : State × Reply :=
  match boolOfByte value with
  | none => refuse s .badValue
  | some on =>
    if on = s.posture.span then (s, ⟨.ok, []⟩)
    else (((Ev.start s).modPosture fun c => { c with span := on }).planChange.done, ⟨.accepted, []⟩)

/-- SET_SPAN (R42). -/
def execSetSpan (value : Byte) (s : State) : Host.Outcome State Fault Refusal :=
  .next (s.runRequest (.setSpan value) (ownSetSpan value))

end Sys2Proof.Machine
end

