-- ==== Sys2Proof/Machine/Surfaces.lean ====
section
/-! DEFINITION. The meanings of the surface requests (chapter The Surface Table) and of DEADLINE_EXPIRY and READ_QUEUE (chapter The
Handover Engine). -/

namespace Sys2Proof.Machine

/-! ### Shared checks -/

/-- R44 and the RETIRING check that follows it: the record a request acts on. -/
def State.liveRecord (s : State) (h : HandleField) : Except Status (Fin 40 × Record) :=
  match s.checkHandle h with
  | none => .error .badHandle
  | some i =>
    match s.record? i with
    | some r => if r.state = .retiring then .error .retiring else .ok (i, r)
    | none => .error .retiring

/-- A buffer given by an offer: it takes the next serial. -/
def State.newBuffer (s : State) (d : Descriptor) : Buffer := ⟨s.offers, d⟩

def State.countOffer (s : State) : State := { s with offers := s.offers + 1 }

/-- R183: a CREATE_SURFACE or AMEND_SURFACE flags byte with a reserved bit set. -/
def surfaceFlagsBad (b : Byte) : Bool := decide (4 ≤ b.toNat)

/-! ### CREATE_SURFACE -/

/-- R51: the lowest-index FREE slot. -/
def State.freeEntry (s : State) : Option (Fin 40) := allRecords.find? fun i => (s.entry i).isFree

/-- R51: a record as it is set up. -/
def Record.create (cls owner : Half) (home : PanelId) (z flags : Byte) (fill : Word) : Record where
  state := .new
  cls := cls
  owner := owner
  home := home
  z := z
  redraw := flags.getLsbD 0
  placeholder := flags.getLsbD 1
  fill := fill
  current := none
  pending := none
  wanted := none
  released := none
  pieces := []
  rect := none
  variants := []
  moveTo := none
  marks := .empty
  staleContent := false
  resPending := false

/-- R47, R51: a buffer given at creation becomes current and the record PARKED. -/
def Record.withFirst (r : Record) : Option Buffer → Record
  | some b => { r with current := some b, state := .parked }
  | none => r

/-- R51: the owner's part of CREATE_SURFACE. -/
def ownCreateSurface (cls owner : Half) (home z flags : Byte) (fill : Word) (buffer : Option Descriptor) (s : State) :
    State × Reply :=
  match panelOfByte home with
  | none => refuse s .badValue
  | some p =>
    if surfaceFlagsBad flags || buffer.any descriptorBad then refuse s .badValue
    else
      match s.freeEntry with
      | none => refuse s .noRoom
      | some i =>
        let r := (Record.create cls owner p z flags fill).withFirst (buffer.map s.newBuffer)
        let s1 := (if buffer.isSome then s.countOffer else s).setEntry i (.used r)
        ((Ev.start s1).reresolve i).reply fun _ => (s.handle i).bytes

/-- CREATE_SURFACE (R51). -/
def execCreateSurface (cls owner : Half) (home z flags : Byte) (fill : Word) (buffer : Option Descriptor) (s : State) :
    Host.Outcome State Fault Refusal :=
  .next (s.runRequest (.createSurface cls owner home z flags fill buffer)
    (ownCreateSurface cls owner home z flags fill buffer))

/-! ### OFFER_BUFFER -/

/-- The outcomes of orders 4 to 9 of R53. -/
inductive OfferCase where
  /-- orders 4 and 6 -/
  | mismatch
  /-- order 5 -/
  | settles
  /-- orders 7 and 8 -/
  | restages
  /-- order 9 -/
  | direct
  deriving DecidableEq, Repr

/-- R53, orders 4 to 9, for a record that is not RETIRING and holds no pending buffer (log 23). -/
def Record.offerCase (r : Record) (size : Size) : OfferCase :=
  match r.wanted with
  | some w => if w = size then .settles else .mismatch
  | none =>
    match r.state with
    | .new | .parked => .direct
    | _ =>
      match r.rect with
      | some t => if t.size = size then .restages else .mismatch
      | none => .restages

/-- R104: a matching offer settles the job's buffer wait. -/
def Ev.settleWait (e : Ev) (i : Fin 40) : Ev :=
  (e.modJob i fun j => { j with waiting := false, expiry := none }).examine i

/-- R53: an offered buffer is taken. -/
def Ev.offer (e : Ev) (i : Fin 40) (r : Record) (b : Buffer) : OfferCase → Ev
  | .mismatch => e
  | .settles =>
    ((e.modRecord i fun r => { r with wanted := none, pending := some b }).mod fun s => s.checkCurrency i).settleWait i
  | .restages =>
    ((e.modRecord i fun r => { r with pending := some b }).restage i (SlotConfig.withBuffer b)).mod fun s =>
      s.checkCurrency i
  | .direct =>
    let e1 := e.modRecord i fun r => { r.makeCurrent b with state := .parked }
    if r.state = .new then e1.reresolve i else e1

/-- R53: the state code that the response gives. -/
def State.recordCode (s : State) (i : Fin 40) : Byte := (s.record? i).elim retiredCode fun r => r.state.code

/-- R53: the response to an accepted offer: ACCEPTED when the offered buffer is pending, or when a re-resolution passed a
change. A table restage leaves the buffer pending or shows at once, so staging alone does not count. -/
def offerReply (i : Fin 40) (c : OfferCase) (f : Ev) : State × Reply :=
  let waits := ((f.s.record? i).bind Record.pending).isSome
  (f.s, doneReply (waits || (decide (c = .direct) && f.changed)) [f.s.recordCode i])

/-- R53: the owner's part of OFFER_BUFFER. -/
def ownOfferBuffer (h : HandleField) (d : Descriptor) (s : State) : State × Reply :=
  match s.liveRecord h with
  | .error st => refuse s st
  | .ok (i, r) =>
    if descriptorBad d then refuse s .badValue
    else if r.pending.isSome then refuse s .busy
    else
      let b := s.newBuffer d
      match r.offerCase b.size with
      | .mismatch => refuse s .sizeMismatch
      | c => offerReply i c ((Ev.start s.countOffer).offer i r b c).finish

/-- OFFER_BUFFER (R53). -/
def execOfferBuffer (h : HandleField) (d : Descriptor) (s : State) : Host.Outcome State Fault Refusal :=
  .next (s.runRequest (.offerBuffer h d) (ownOfferBuffer h d))

/-! ### AMEND_SURFACE -/

/-- The fields an AMEND_SURFACE names, with their values (R57, R184). -/
structure Amendment where
  z : Option Byte
  home : Option PanelId
  cls : Option Half
  owner : Option Half
  redraw : Option Bool
  placeholder : Option Bool
  fill : Option Word
  deriving DecidableEq, Repr

/-- A field named by a presence bit. -/
def named {α : Type} (presence : Byte) (bit : Nat) (x : α) : Option α := if presence.getLsbD bit then some x else none

/-- R57 check 2: the home panel, the presence byte and the flags byte of an amend are taken. -/
def amendOk (presence home flags : Byte) : Bool :=
  !(presence.getLsbD 1 && (panelOfByte home).isNone) && !presence.getLsbD 7 &&
    !((presence.getLsbD 4 || presence.getLsbD 5) && surfaceFlagsBad flags)

def amendmentOf (presence z home : Byte) (cls owner : Half) (flags : Byte) (fill : Word) : Amendment where
  z := named presence 0 z
  home := (named presence 1 home).bind panelOfByte
  cls := named presence 2 cls
  owner := named presence 3 owner
  redraw := named presence 4 (flags.getLsbD 0)
  placeholder := named presence 5 (flags.getLsbD 1)
  fill := named presence 6 fill

/-- R57: the fields named are stored, all at once. -/
def Record.amend (r : Record) (a : Amendment) : Record :=
  { r with
    z := a.z.getD r.z, home := a.home.getD r.home, cls := a.cls.getD r.cls, owner := a.owner.getD r.owner
    redraw := a.redraw.getD r.redraw, placeholder := a.placeholder.getD r.placeholder, fill := a.fill.getD r.fill
    resPending := if r.state = .new ∧ a.placeholder = some false then false else r.resPending }

/-- R57: the effects of the changed fields, in order: restage, then one re-resolution. -/
def Ev.amended (e : Ev) (i : Fin 40) (old new : Record) : Ev :=
  let e1 :=
    if new.z ≠ old.z ∨ new.fill ≠ old.fill then e.restage i fun c => { c with z := new.z, fill := new.fill } else e
  if new.home ≠ old.home ∨ new.cls ≠ old.cls ∨ (new.placeholder ∧ ¬ old.placeholder) then e1.reresolve i else e1

/-- R57: the owner's part of AMEND_SURFACE. -/
def ownAmendSurface (h : HandleField) (presence z home : Byte) (cls owner : Half) (flags : Byte) (fill : Word) (s : State) :
    State × Reply :=
  match s.liveRecord h with
  | .error st => refuse s st
  | .ok (i, r) =>
    if amendOk presence home flags then
      let new := r.amend (amendmentOf presence z home cls owner flags fill)
      ((Ev.start (s.setEntry i (.used new))).amended i r new).reply fun _ => []
    else refuse s .badValue

/-- AMEND_SURFACE (R57). -/
def execAmendSurface (h : HandleField) (presence z home : Byte) (cls owner : Half) (flags : Byte) (fill : Word) (s : State) :
    Host.Outcome State Fault Refusal :=
  .next (s.runRequest (.amendSurface h presence z home cls owner flags fill)
    (ownAmendSurface h presence z home cls owner flags fill))

/-! ### Variants -/

/-- R59: the existing variants with the new postures taken out, those left empty dropped. -/
def keptVariants (new : PostureSet) (l : List Variant) : List Variant :=
  (l.map fun v => { v with postures := v.postures.without new }).filter fun v => !v.postures.isEmpty

/-- R59: the owner's part of SET_VARIANT. -/
def ownSetVariant (h : HandleField) (postures target fallback : Byte) (rect : Option RectField) (s : State) :
    State × Reply :=
  match s.liveRecord h with
  | .error st => refuse s st
  | .ok (i, r) =>
    match targetOfByte target, fallbackOfByte fallback with
    | some t, some fb =>
      if postureByteBad postures || (rect.map rectOf).any rectBad then refuse s .badValue
      else
        let set := PostureSet.ofByte postures
        let kept := keptVariants set r.variants
        if Config.variantsPerRecord ≤ kept.length ∨ s.freeVariants + (r.variants.length - kept.length) = 0 then
          refuse s .noRoom
        else
          let new := kept ++ [⟨set, t, rect.map rectOf, fb⟩]
          ((Ev.start (s.setEntry i (.used { r with variants := new }))).reresolve i).reply fun s =>
            [byteOf new.length, byteOf s.freeVariants]
    | _, _ => refuse s .badValue

/-- SET_VARIANT (R59). -/
def execSetVariant (h : HandleField) (postures target fallback : Byte) (rect : Option RectField) (s : State) :
    Host.Outcome State Fault Refusal :=
  .next (s.runRequest (.setVariant h postures target fallback rect) (ownSetVariant h postures target fallback rect))

/-- R60: the owner's part of CLEAR_VARIANTS. -/
def ownClearVariants (h : HandleField) (s : State) : State × Reply :=
  match s.liveRecord h with
  | .error st => refuse s st
  | .ok (i, r) =>
    if r.variants = [] then (s, ⟨.ok, []⟩)
    else ((Ev.start (s.setEntry i (.used { r with variants := [] }))).reresolve i).reply fun _ => []

/-- CLEAR_VARIANTS (R60). -/
def execClearVariants (h : HandleField) (s : State) : Host.Outcome State Fault Refusal :=
  .next (s.runRequest (.clearVariants h) (ownClearVariants h))

/-! ### Focus -/

/-- R62: the slots of a record take or lose the focus mark. -/
def Ev.markFocus (e : Ev) (i : Fin 40) (on : Bool) : Ev := e.restage i fun c => { c with focus := on }

/-- R101: the job of a record moves to the head of the queue. -/
def State.jobToHead (s : State) (i : Fin 40) : State :=
  { s with queue := (s.queue.filter fun j => j.handle.index == i) ++ s.queue.filter fun j => !(j.handle.index == i) }

/-- R62: what a change of the focus register does to the old and the new focus record. -/
def Ev.changeFocus (e : Ev) (new : Option Handle) : Ev :=
  let old := e.s.table.focus
  let e1 := e.mod fun s => { s with table := { s.table with focus := new } }
  let e2 := old.elim e1 fun h => e1.markFocus h.index false
  let e3 := new.elim e2 fun h => e2.markFocus h.index true
  let e4 := old.elim e3 fun h => e3.reresolve h.index
  new.elim e4 fun h => (e4.reresolve h.index).mod fun s => s.jobToHead h.index

/-- R61: a change of focus, or none when the register already holds the value. -/
def State.focusOn (s : State) (new : Option Handle) : State × Reply :=
  if new = s.table.focus then (s, ⟨.ok, []⟩) else ((Ev.start s).changeFocus new).reply fun _ => []

/-- R61, R184: the owner's part of SET_FOCUS. -/
def ownSetFocus (h : HandleField) (s : State) : State × Reply :=
  if handleNone h then s.focusOn none
  else
    match s.liveRecord h with
    | .error st => refuse s st
    | .ok (i, _) => s.focusOn (some (s.handle i))

/-- SET_FOCUS (R61). -/
def execSetFocus (h : HandleField) (s : State) : Host.Outcome State Fault Refusal :=
  .next (s.runRequest (.setFocus h) (ownSetFocus h))

/-! ### Finding and reading -/

/-- R63: the owner's part of LOOKUP_SURFACE. -/
def ownLookupSurface (h : HandleField) (s : State) : State × Reply :=
  match s.checkHandle h with
  | none => refuse s .badHandle
  | some i => report s ((s.entry i).bytes (s.handle i))

/-- LOOKUP_SURFACE (R63). -/
def execLookupSurface (h : HandleField) (s : State) : Host.Outcome State Fault Refusal :=
  .next (s.runRequest (.lookupSurface h) (ownLookupSurface h))

/-- R64: a criterion of FIND_SURFACES. -/
inductive Criterion where
  | owner (tag : Half)
  | cls (base mask : Half)
  | panel (p : PanelId)
  | state (st : RecordState)
  | retired
  deriving DecidableEq, Repr

/-- The record states that FIND_SURFACES takes, by code (chapter Frame and Record Formats). -/
def stateCriterion (b : Byte) : Option Criterion :=
  match b.toNat with
  | 1 => some (.state .new)
  | 2 => some (.state .placed)
  | 3 => some (.state .parked)
  | 4 => some (.state .moving)
  | 5 => some (.state .retiring)
  | 6 => some .retired
  | _ => none

/-- R64, R183: a criterion field; its reserved bytes must be 0. -/
def criterionOf (kind : Byte) (value : Word) : Option Criterion :=
  let b := fun n : Nat => value.extractLsb' n 8
  match kind.toNat with
  | 0 => if value.extractLsb' 0 16 = 0 then some (.owner (value.extractLsb' 16 16)) else none
  | 1 => some (.cls (value.extractLsb' 16 16) (value.extractLsb' 0 16))
  | 2 => if value.extractLsb' 0 24 = 0 then (panelOfByte (b 24)).map .panel else none
  | 3 => if value.extractLsb' 0 24 = 0 then stateCriterion (b 24) else none
  | _ => none

/-- R64: a slot matches a criterion. -/
def Criterion.meets (c : Criterion) : TableSlot → Bool
  | .free => false
  | .retired _ _ => c == .retired
  | .used r =>
    match c with
    | .owner t => r.owner == t
    | .cls base mask => (r.cls &&& mask) == base
    | .panel p => r.pieces.any fun t => t.panel == p
    | .state st => r.state == st
    | .retired => false

/-- R64: the indexes of the matching records from the cursor up. -/
def State.found (s : State) (c : Criterion) (cursor : Nat) : List (Fin 40) :=
  allRecords.filter fun i => decide (cursor ≤ i.val) && c.meets (s.entry i)

/-- R64: the next cursor: the index after the last handle returned, if a match stands higher; 0xFF for none. -/
def nextCursor (all : List (Fin 40)) : Byte :=
  if Config.handlesPerFind < all.length then
    ((all.take Config.handlesPerFind).getLast?).elim 0xFF#8 fun i => byteOf (i.val + 1)
  else 0xFF#8

/-- R64: the FIND_SURFACES payload. -/
def State.findReport (s : State) (c : Criterion) (cursor : Nat) : List Byte :=
  let all := s.found c cursor
  let some16 := all.take Config.handlesPerFind
  byteOf some16.length :: (some16.flatMap fun i => (s.handle i).bytes) ++ [nextCursor all]

/-- R64: the owner's part of FIND_SURFACES. -/
def ownFindSurfaces (kind : Byte) (value : Word) (cursor : Byte) (s : State) : State × Reply :=
  match criterionOf kind value with
  | none => refuse s .badValue
  | some c => if 39 < cursor.toNat then refuse s .badValue else report s (s.findReport c cursor.toNat)

/-- FIND_SURFACES (R64). -/
def execFindSurfaces (kind : Byte) (value : Word) (cursor : Byte) (s : State) : Host.Outcome State Fault Refusal :=
  .next (s.runRequest (.findSurfaces kind value cursor) (ownFindSurfaces kind value cursor))

/-! ### Retirement -/

/-- The record in a slot is RETIRING. -/
def State.isRetiring (s : State) (i : Fin 40) : Bool := (s.record? i).any fun r => r.state == .retiring

/-- R65: the owner's part of RETIRE_SURFACE. -/
def ownRetireSurface (h : HandleField) (s : State) : State × Reply :=
  match s.liveRecord h with
  | .error st => refuse s st
  | .ok (i, _) =>
    let e := (Ev.start s).retire i
    (e.done, doneReply (e.s.isRetiring i) [])

/-- RETIRE_SURFACE (R65). -/
def execRetireSurface (h : HandleField) (s : State) : Host.Outcome State Fault Refusal :=
  .next (s.runRequest (.retireSurface h) (ownRetireSurface h))

/-- R67: the records RETIRE_OWNER takes, ascending. -/
def State.ownedRecords (s : State) (owner : Half) : List (Fin 40) :=
  allRecords.filter fun i => (s.record? i).any fun r => r.owner == owner && !(r.state == .retiring)

/-- R67: the owner's part of RETIRE_OWNER. -/
def ownRetireOwner (owner : Half) (s : State) : State × Reply :=
  let l := s.ownedRecords owner
  let e := l.foldl Ev.retire (Ev.start s)
  (e.done, doneReply (l.any fun i => e.s.isRetiring i) [byteOf l.length])

/-- RETIRE_OWNER (R67). -/
def execRetireOwner (owner : Half) (s : State) : Host.Outcome State Fault Refusal :=
  .next (s.runRequest (.retireOwner owner) (ownRetireOwner owner))

/-! ### Rules and overrides -/

/-- Five posture values read by `f`, or none. -/
def fiveOf {α : Type} (f : Byte → Option α) (v : Vector Byte 5) : Option (PerPosture α) :=
  match f v[0], f v[1], f v[2], f v[3], f v[4] with
  | some a, some b, some x, some d, some e => some ⟨a, b, x, d, e⟩
  | _, _, _, _, _ => none

/-- R74: a rule entry field as an entry; a deadline above 200 steps is clamped. -/
def ruleOf (e : RuleField) : Option Rule :=
  match boolOfByte e.valid, fiveOf targetOfByte e.targets, fiveOf fitOfByte e.fits, fallbackOfByte e.fallback,
    modeOfByte e.mode with
  | some v, some ts, some fs, some fb, some md => some ⟨v, e.base, e.mask, ts, fs, fb, md, min 200 e.deadline.toNat⟩
  | _, _, _, _, _ => none

/-- R74: the owner's part of WRITE_RULE. -/
def ownWriteRule (index : Byte) (e : RuleField) (s : State) : State × Reply :=
  if h : index.toNat < 16 then
    match ruleOf e with
    | none => refuse s .badValue
    | some r => (Ev.start { s with rules := s.rules.set index.toNat r }).reresolveAll.reply fun _ => [byteOf r.deadline]
  else refuse s .badValue

/-- WRITE_RULE (R74). -/
def execWriteRule (index : Byte) (e : RuleField) (s : State) : Host.Outcome State Fault Refusal :=
  .next (s.runRequest (.writeRule index e) (ownWriteRule index e))

/-- R75: the owner's part of READ_RULE. -/
def ownReadRule (index : Byte) (s : State) : State × Reply :=
  if h : index.toNat < 16 then report s (index :: (s.rules[index.toNat]).bytes)
  else if index.toNat = 16 then report s (index :: Rule.builtin.bytes)
  else refuse s .badValue

/-- READ_RULE (R75). -/
def execReadRule (index : Byte) (s : State) : Host.Outcome State Fault Refusal :=
  .next (s.runRequest (.readRule index) (ownReadRule index))

/-- R81: the move override a request states: none for AUTO; outer none for a refused code, rectangle or AUTO with one. -/
def overrideOf (target : Byte) (rect : Option RectField) : Option (Option MoveOverride) :=
  match targetOfByte target with
  | some t => if (rect.map rectOf).any rectBad then none else some (some ⟨t, rect.map rectOf⟩)
  | none => if target.toNat = 5 ∧ rect = none then some none else none

/-- R81: the owner's part of MOVE_SURFACE. -/
def ownMoveSurface (h : HandleField) (target : Byte) (rect : Option RectField) (s : State) : State × Reply :=
  match s.liveRecord h with
  | .error st => refuse s st
  | .ok (i, r) =>
    match overrideOf target rect with
    | none => refuse s .badValue
    | some m => ((Ev.start (s.setEntry i (.used { r with moveTo := m }))).reresolve i).reply fun _ => []

/-- MOVE_SURFACE (R81). -/
def execMoveSurface (h : HandleField) (target : Byte) (rect : Option RectField) (s : State) :
    Host.Outcome State Fault Refusal :=
  .next (s.runRequest (.moveSurface h target rect) (ownMoveSurface h target rect))

/-! ### The handover queue -/

/-- DEADLINE_EXPIRY (R105): the deadline timer of a record's job expires. -/
def execDeadlineExpiry (record : Fin 40) (s : State) : Host.Outcome State Fault Refusal :=
  .next <|
    match (s.job? record).bind Job.expiry with
    | none => s
    | some t => (((Ev.start (s.reach t)).expireWait record).examine record).done

/-- READ_QUEUE (R121). -/
def execReadQueue (s : State) : Host.Outcome State Fault Refusal :=
  .next (s.runRequest .readQueue fun s => report s s.queueReport)

end Sys2Proof.Machine
end

