-- ==== Sys2Proof/Machine/Panels.lean ====
section
/-! DEFINITION. The meanings of the panel commands (chapters Panels, Frame Timing and Layer Slots; Panel Link Health and
Evacuation): power sequencing, acknowledgements, frame timing, recovery, and the panel requests. -/

namespace Sys2Proof.Machine

/-- The event at the expiry time of a running timer of a panel; a stopped timer does not expire. -/
def State.atTimer (s : State) (t : Timer) (f : State → State) : State :=
  match t with
  | some t => f (s.reach t)
  | none => s

/-! ### Power sequencing -/

/-- OFF_TIME_EXPIRY (R124). -/
def execOffTimeExpiry (p : PanelId) (s : State) : Host.Outcome State Fault Refusal :=
  .next (s.atTimer (s.panel p).offTimer fun s => (s.modPanel p fun x => { x with offTimer := none }).checkPowerUp p)

/-- RAIL_STAGE_END (R125). -/
def execRailStageEnd (p : PanelId) (s : State) : Host.Outcome State Fault Refusal :=
  .next <|
    if (s.panel p).mode = .poweringUp .rail then
      s.atTimer (s.panel p).seqTimer fun s =>
        s.modPanel p fun x => { x with mode := .poweringUp .reset, seqTimer := some (s.after s.shared.tRst) }
    else s

/-- RESET_STAGE_END (R125). -/
def execResetStageEnd (p : PanelId) (s : State) : Host.Outcome State Fault Refusal :=
  .next <|
    if (s.panel p).mode = .poweringUp .reset then
      s.atTimer (s.panel p).seqTimer fun s =>
        s.modPanel p fun x => { x with mode := .poweringUp .training, seqTimer := some (s.after s.shared.tTrain) }
    else s

/-- TRAINING_EXPIRY (R126): the link has failed to train. -/
def execTrainingExpiry (p : PanelId) (s : State) : Host.Outcome State Fault Refusal :=
  .next <|
    if (s.panel p).mode = .poweringUp .training then
      s.atTimer (s.panel p).seqTimer fun s => ((Ev.start s).goOffline p .trainFail).done
    else s

/-- POWER_DOWN_END (R128): the panel enters OFF, and the off-time timer starts. -/
def execPowerDownEnd (p : PanelId) (s : State) : Host.Outcome State Fault Refusal :=
  .next <|
    if (s.panel p).mode = .poweringDown then
      s.atTimer (s.panel p).seqTimer fun s =>
        (s.modPanel p fun x => { x with seqTimer := none, offTimer := s.timerFor s.shared.tOff }).enterOff p
    else s

/-! ### Acknowledgements -/

/-- R181, R186: a byte on a panel's acknowledgement path is read: no reset is under way, and the path is not held low. -/
def State.reading (s : State) (p : PanelId) : Bool := !(s.link.state == .resetting) && !(s.panel p).pathHeld

/-- R107: the jobs in PREPARING are examined in queue order. -/
def Ev.examineAll (e : Ev) : Ev := (e.s.queue.map fun j => j.handle.index).foldl Ev.examine e

/-- R127, R159: entry to ON from POWERING_UP. -/
def Ev.enterOn (e : Ev) (p : PanelId) : Ev :=
  ((e.modPanel p fun x =>
    { x with mode := .on, seqTimer := none, stableTimer := some (e.s.after Config.stableMs) }).soloFrame
      p).examineAll.evalJoined

/-- R126: a TRAIN_OK. -/
def State.trainOk (s : State) (p : PanelId) : State :=
  if (s.panel p).mode = .poweringUp .training then ((Ev.start s).enterOn p).done else s

/-- R150: a frame acknowledgement that settles the owed one, with its effect on the health counter and link error. -/
def State.settleAck (s : State) (p : PanelId) (f : Panel → Panel) : State :=
  if (s.panel p).ackOwed then
    (((Ev.start s).modPanel p fun x => { f x with ackOwed := false }).checkHealth p).done
  else s

/-- R150: FRAME_OK. -/
def State.ackGood (s : State) (p : PanelId) : State := s.settleAck p fun x => { x with health := x.health - 1 }

/-- R150: FRAME_BAD, and a code that is none of the three. -/
def State.ackBad (s : State) (p : PanelId) : State :=
  s.settleAck p fun x => { x with health := errorHealth x.health, linkError := .ackError }

/-- TRAIN_OK (R126). -/
def execTrainOk (p : PanelId) (s : State) : Host.Outcome State Fault Refusal :=
  .next (if s.reading p then s.trainOk p else s)

/-- FRAME_OK (R150). -/
def execFrameOk (p : PanelId) (s : State) : Host.Outcome State Fault Refusal :=
  .next (if s.reading p then s.ackGood p else s)

/-- FRAME_BAD (R150). -/
def execFrameBad (p : PanelId) (s : State) : Host.Outcome State Fault Refusal :=
  .next (if s.reading p then s.ackBad p else s)

/-- R186: a byte at its stop bit. A low stop bit leaves the path held until it has been high for a byte time. DESIGN CHOICE (log 28):
a code of another value with its stop bit high does not hold the path, and the next byte is read. -/
def State.ackByte (s : State) (p : PanelId) (code : Byte) (stop : Bool) : State :=
  if stop then
    if code = Config.ackTrainOk then s.trainOk p
    else if code = Config.ackFrameOk then s.ackGood p
    else s.ackBad p
  else (s.modPanel p fun x => { x with pathHeld := true }).ackBad p

/-- UNKNOWN_ACK_CODE (R150, R186). -/
def execUnknownAckCode (p : PanelId) (code : Byte) (stop : Bool) (s : State) : Host.Outcome State Fault Refusal :=
  .next (if s.reading p then s.ackByte p code stop else s)

/-- ACK_PATH_IDLE (R186). -/
def execAckPathIdle (p : PanelId) (s : State) : Host.Outcome State Fault Refusal :=
  .next (s.modPanel p fun x => { x with pathHeld := false })

/-! ### Frame timing -/

/-- R131: what is left of the present frame until `at` on its counter. -/
def Panel.untilCount (x : Panel) (at_ : Nat) : Nat := at_ - x.counter

/-- FRAME_START (R132): compare A of a panel in service is reached. -/
def execFrameStart (p : PanelId) (s : State) : Host.Outcome State Fault Refusal :=
  .next <|
    if (s.panel p).inService then
      ((Ev.start (s.elapse ((s.panel p).untilCount (s.panel p).effective))).frameStart p).done
    else s

/-- R133: the staged configurations on a panel's slots become due. -/
def State.cutoff (s : State) (p : PanelId) : State :=
  { (s.modPanel p fun x => { x with cutoffDone := true }) with
    slots := Vector.ofFn fun k : Fin 16 => if s.uses p k then (s.slots[k]).makeDue else s.slots[k] }

/-- STAGING_CUTOFF (R133): compare B is reached, once in a frame (log 17). -/
def execStagingCutoff (p : PanelId) (s : State) : Host.Outcome State Fault Refusal :=
  .next <|
    if (s.panel p).inService ∧ (s.panel p).cutoffDone = false then
      (s.elapse ((s.panel p).untilCount ((s.panel p).effective - (s.panel p).lead))).cutoff p
    else s

/-! ### Recovery -/

/-- R157, R160: the panel leaves OFFLINE and enters OFF; when it stops being dark every resolvable record is re-resolved. -/
def Ev.leaveOffline (e : Ev) (p : PanelId) : Ev :=
  let e1 := e.mod fun s => (s.modPanel p fun x => { x with quietTimer := none }).enterOff p
  { e1 with resolveAll := e1.resolveAll || (e.s.panel p).litDemand }

/-- QUIET_EXPIRY (R157). -/
def execQuietExpiry (p : PanelId) (s : State) : Host.Outcome State Fault Refusal :=
  .next <|
    if (s.panel p).isOffline then
      s.atTimer (s.panel p).quietTimer fun s =>
        (((Ev.start s).modPanel p fun x => { x with attempts := x.attempts + 1 }).leaveOffline p).done
    else s

/-- STABILITY_EXPIRY (R159). -/
def execStabilityExpiry (p : PanelId) (s : State) : Host.Outcome State Fault Refusal :=
  .next (s.atTimer (s.panel p).stableTimer fun s => s.modPanel p fun x => { x with stableTimer := none, attempts := 0 })

/-! ### Requests -/

/-- R144: the panels are each OFF or OFFLINE. -/
def State.bothDown (s : State) : Bool :=
  ((s.panel .p0).mode == .off || (s.panel .p0).mode == .offline) &&
    ((s.panel .p1).mode == .off || (s.panel .p1).mode == .offline)

/-- R144: geometry values in range. -/
def geometryOk (w h g : Nat) : Bool :=
  decide (480 ≤ w) && decide (w ≤ 2560) && decide (480 ≤ h) && decide (h ≤ 2560) && decide (g ≤ 96)

/-- R144: the owner's part of SET_PANEL_GEOMETRY. -/
def ownSetPanelGeometry (w h g : Half) (s : State) : State × Reply :=
  if geometryOk w.toNat h.toNat g.toNat then
    if s.bothDown then
      let new := { s.shared with width := w.toNat, height := h.toNat, seam := g.toNat }
      { Ev.start { s with shared := new } with resolveAll := decide (new ≠ s.shared) }.reply fun _ => []
    else refuse s .busy
  else refuse s .badValue

/-- SET_PANEL_GEOMETRY (R144). -/
def execSetPanelGeometry (w h g : Half) (s : State) : Host.Outcome State Fault Refusal :=
  .next (s.runRequest (.setPanelGeometry w h g) (ownSetPanelGeometry w h g))

/-- R134: the values of a SET_REFRESH become pending; in JOINED the period on both panels. -/
def State.pendRefresh (s : State) (p : PanelId) (period lead : Nat) : State :=
  let s1 := s.modPanel p fun x => { x with pendPeriod := some period, pendLead := some lead }
  if s.shared.joined = .joined then s1.modPanel (otherPanel p) fun x => { x with pendPeriod := some period } else s1

/-- R134: the owner's part of SET_REFRESH. -/
def ownSetRefresh (panel : Byte) (period lead : Half) (s : State) : State × Reply :=
  match panelOfByte panel with
  | none => refuse s .badValue
  | some p =>
    let a := clamp 8000 32000 period.toNat
    let b := clamp 500 4000 lead.toNat
    (s.pendRefresh p a b, ⟨.ok, natHalf a ++ natHalf b⟩)

/-- SET_REFRESH (R134). -/
def execSetRefresh (panel : Byte) (period lead : Half) (s : State) : Host.Outcome State Fault Refusal :=
  .next (s.runRequest (.setRefresh panel period lead) (ownSetRefresh panel period lead))

/-- R145: the power timings used, after clamping. -/
def Shared.withTimings (g : Shared) (rail rst train down off quiet : Nat) : Shared :=
  { g with
    tRail := clamp 1 100 rail, tRst := clamp 1 100 rst, tTrain := clamp 10 500 train
    tDown := clamp 1 200 down, tOff := min 2000 off, tQuiet := clamp 100 5000 quiet }

/-- R145: the owner's part of SET_POWER_TIMING. -/
def ownSetPowerTiming (rail rst train down off quiet : Half) (s : State) : State × Reply :=
  let g := s.shared.withTimings rail.toNat rst.toNat train.toNat down.toNat off.toNat quiet.toNat
  ({ s with shared := g },
    ⟨.ok, natHalf g.tRail ++ natHalf g.tRst ++ natHalf g.tTrain ++ natHalf g.tDown ++ natHalf g.tOff ++
      natHalf g.tQuiet⟩)

/-- SET_POWER_TIMING (R145). -/
def execSetPowerTiming (rail rst train down off quiet : Half) (s : State) : Host.Outcome State Fault Refusal :=
  .next (s.runRequest (.setPowerTiming rail rst train down off quiet) (ownSetPowerTiming rail rst train down off quiet))

/-- R146: the setting is changed and a change of lit demand acted on; a dark change re-resolves every resolvable record. -/
def Ev.setEnable (e : Ev) (p : PanelId) (on : Bool) : Ev :=
  let x := e.s.panel p
  let e1 := e.changeDemand p fun x => { x with enabled := on }
  { e1 with
    resolveAll := e1.resolveAll || (decide (x.litDemand ≠ (e1.s.panel p).litDemand) && !x.isOffline) }

/-- R146: the owner's part of PANEL_ENABLE. -/
def ownPanelEnable (panel value : Byte) (s : State) : State × Reply :=
  match panelOfByte panel, boolOfByte value with
  | some p, some on =>
    let s1 := ((Ev.start s).setEnable p on).done
    (s1, doneReply (decide ((s.panel p).litDemand ≠ (s1.panel p).litDemand)) [])
  | _, _ => refuse s .badValue

/-- PANEL_ENABLE (R146). -/
def execPanelEnable (panel value : Byte) (s : State) : Host.Outcome State Fault Refusal :=
  .next (s.runRequest (.panelEnable panel value) (ownPanelEnable panel value))

/-- R143: a count of lent slots. -/
def lendCountOk (n : Nat) : Bool := n == 0 || n == 2 || n == 4 || n == 6

/-- R143: the requested setting is the one in force. Count 0 is the same whichever lender it names. -/
def State.sameLending (s : State) (lender : PanelId) (n : Nat) : Bool :=
  s.shared.lent == n && (n == 0 || s.shared.lender == lender)

/-- R143: every slot whose using panel the setting would change is FREE. -/
def State.lendingFree (s : State) (lender : PanelId) (n : Nat) : Bool :=
  allSlots.all fun k => (usingPanel lender n k == s.user k) || (s.slot k).isFree

/-- R143: the setting and the usable counts, as the response gives them. -/
def State.lendingReport (s : State) : List Byte :=
  [panelCode s.shared.lender, byteOf s.shared.lent, byteOf (usableCount s.shared.lender s.shared.lent .p0),
    byteOf (usableCount s.shared.lender s.shared.lent .p1)]

/-- R143: the owner's part of SET_LENDING. -/
def ownSetLending (lender count : Byte) (s : State) : State × Reply :=
  match panelOfByte lender with
  | none => refuse s .badValue
  | some l =>
    if lendCountOk count.toNat then
      if s.sameLending l count.toNat then report s s.lendingReport
      else if s.lendingFree l count.toNat then
        let s1 := { Ev.start { s with shared := { s.shared with lender := l, lent := count.toNat } } with walk := true }.done
        report s1 s1.lendingReport
      else refuse s .busy
    else refuse s .badValue

/-- SET_LENDING (R143). -/
def execSetLending (lender count : Byte) (s : State) : Host.Outcome State Fault Refusal :=
  .next (s.runRequest (.setLending lender count) (ownSetLending lender count))

/-- R147, R156: the owner's part of READ_PANEL: the fault cause is empty after it is reported. -/
def ownReadPanel (panel : Byte) (s : State) : State × Reply :=
  match panelOfByte panel with
  | none => refuse s .badValue
  | some p => report (s.modPanel p fun x => { x with fault := .empty }) (s.panelReport p)

/-- READ_PANEL (R147). -/
def execReadPanel (panel : Byte) (s : State) : Host.Outcome State Fault Refusal :=
  .next (s.runRequest (.readPanel panel) (ownReadPanel panel))

/-- R160: the owner's part of PANEL_RECOVER. -/
def ownPanelRecover (panel : Byte) (s : State) : State × Reply :=
  match panelOfByte panel with
  | none => refuse s .badValue
  | some p =>
    let was := (s.panel p).isOffline
    let s1 := s.modPanel p fun x => { x with attempts := 0 }
    let s2 := if was then ((Ev.start s1).leaveOffline p).done else s1
    (s2, doneReply was [(s2.panel p).mode.code, byteOf (s2.panel p).attempts])

/-- PANEL_RECOVER (R160). -/
def execPanelRecover (panel : Byte) (s : State) : Host.Outcome State Fault Refusal :=
  .next (s.runRequest (.panelRecover panel) (ownPanelRecover panel))

/-- R161: the quiet timer after a change of recovery mode on an OFFLINE panel. -/
def State.quietAfter (s : State) (x : Panel) (r : RecoveryMode) : Timer :=
  if x.isOffline ∧ r ≠ x.recovery then s.quietFor { x with recovery := r } else x.quietTimer

/-- R161: the owner's part of SET_RECOVERY_MODE. -/
def ownSetRecoveryMode (panel recovery capture : Byte) (s : State) : State × Reply :=
  match panelOfByte panel, recoveryOfByte recovery, captureOfByte capture with
  | some p, some r, some c =>
    (s.modPanel p fun x => { x with recovery := r, capture := c, quietTimer := s.quietAfter x r },
      ⟨.ok, [r.code, c.code]⟩)
  | _, _, _ => refuse s .badValue

/-- SET_RECOVERY_MODE (R161). -/
def execSetRecoveryMode (panel recovery capture : Byte) (s : State) : Host.Outcome State Fault Refusal :=
  .next (s.runRequest (.setRecoveryMode panel recovery capture) (ownSetRecoveryMode panel recovery capture))

end Sys2Proof.Machine
end

