-- ==== Sys2Proof/Machine/Attention.lean ====
section
/-! DEFINITION. The meanings of the attention requests and of READ_NOTICES (chapter Attention and Notices). -/

namespace Sys2Proof.Machine

/-- READ_STATUS (R169). -/
def execReadStatus (s : State) : Host.Outcome State Fault Refusal :=
  .next (s.runRequest .readStatus fun s => report s s.statusReport)

/-- R168: the held flags a set names; NOTICE follows its level and is passed by. -/
def FlagSet.held (f : FlagSet) : FlagSet := { f with notice := false }

/-- R168: the owner's part of ACK_ATTENTION. -/
def ownAckAttention (flags : Byte) (s : State) : State × Reply :=
  if flagByteBad flags then refuse s .badValue
  else
    let f := s.attn.flags.without (FlagSet.ofByte flags).held
    ({ s with attn := { s.attn with flags := f } }, ⟨.ok, [f.toByte]⟩)

/-- ACK_ATTENTION (R168). -/
def execAckAttention (flags : Byte) (s : State) : Host.Outcome State Fault Refusal :=
  .next (s.runRequest (.ackAttention flags) (ownAckAttention flags))

/-- R165: the mask is replaced and the whole mask reported. -/
def State.withMask (s : State) (m : FlagSet) : State × Reply :=
  ({ s with attn := { s.attn with mask := m } }, ⟨.ok, [m.toByte]⟩)

/-- R165: the owner's part of ATTN_ENABLE. -/
def ownAttnEnable (flags : Byte) (s : State) : State × Reply :=
  if flagByteBad flags then refuse s .badValue else s.withMask (s.attn.mask.union (FlagSet.ofByte flags))

/-- ATTN_ENABLE (R165). -/
def execAttnEnable (flags : Byte) (s : State) : Host.Outcome State Fault Refusal :=
  .next (s.runRequest (.attnEnable flags) (ownAttnEnable flags))

/-- R165: the owner's part of ATTN_DISABLE. -/
def ownAttnDisable (flags : Byte) (s : State) : State × Reply :=
  if flagByteBad flags then refuse s .badValue else s.withMask (s.attn.mask.without (FlagSet.ofByte flags))

/-- ATTN_DISABLE (R165). -/
def execAttnDisable (flags : Byte) (s : State) : Host.Outcome State Fault Refusal :=
  .next (s.runRequest (.attnDisable flags) (ownAttnDisable flags))

/-- R167: the owner's part of SET_NOTICE_THRESHOLD. -/
def ownSetNoticeThreshold (value : Byte) (s : State) : State × Reply :=
  let t := clamp 1 8 value.toNat
  ({ s with attn := { s.attn with threshold := t } }.refreshNotice, ⟨.ok, [byteOf t]⟩)

/-- SET_NOTICE_THRESHOLD (R167). -/
def execSetNoticeThreshold (value : Byte) (s : State) : Host.Outcome State Fault Refusal :=
  .next (s.runRequest (.setNoticeThreshold value) (ownSetNoticeThreshold value))

/-- R170: the slot indices in the order of the scan: from the cursor to 39, then from 0 to the one before the cursor. -/
def scanOrder (cursor : Fin 40) : List (Fin 40) :=
  (allRecords.filter fun i => decide (cursor.val ≤ i.val)) ++ allRecords.filter fun i => decide (i.val < cursor.val)

/-- R170: the records a READ_NOTICES reports. -/
def State.reported (s : State) : List (Fin 40) :=
  ((scanOrder s.table.cursor).filter fun i => (s.entry i).marks.any).take Config.noticesPerRead

/-- R68, R171: what a report does to a slot: marks cleared; a RETIRED record's slot freed, its generation advanced. -/
def State.clearReported (s : State) (i : Fin 40) : State :=
  match s.entry i with
  | .free => s
  | .used r => s.setEntry i (.used { r with marks := .empty })
  | .retired _ _ => (s.setEntry i .free).advanceGen i

/-- R170: the cursor after the last record reported. -/
def State.moveCursor (s : State) (l : List (Fin 40)) : State :=
  match l.getLast? with
  | some i => { s with table := { s.table with cursor := i + 1 } }
  | none => s

/-- R170, R171: the owner's part of READ_NOTICES. -/
def ownReadNotices (s : State) : State × Reply :=
  let l := s.reported
  (((l.foldl State.clearReported s).moveCursor l).refreshNotice,
    ⟨.ok, byteOf l.length :: l.flatMap fun i => (s.entry i).notice (s.handle i)⟩)

/-- READ_NOTICES (R170). -/
def execReadNotices (s : State) : Host.Outcome State Fault Refusal :=
  .next (s.runRequest .readNotices ownReadNotices)

end Sys2Proof.Machine
end

