-- ==== Sys2Proof/Machine/Resets.lean ====
section
/-! DEFINITION. The resets (R21, R22, R43, R70, R71, R122, R148, R149, R162, R172, R180 to R182) and the meanings of the link
transactions (R173 to R179). -/

namespace Sys2Proof.Machine

/-! ### Soft reset -/

/-- R22: the Hinge Input Unit when a soft reset begins; its silent timer starts when the reset ends (log 7). -/
def Hinge.softReset (h : Hinge) : Hinge :=
  { h with
    input := if h.enabled then .acquiring else .disabled
    recv := .idleWait, cellTimer := none, silentTimer := none
    acc := 0, filtered := 0, motion := 0, window := Vector.replicate 8 0, divider := 0
    swinging := false, marginal := false, good := 0, bad := 0, lastCause := .none
    lastRaw := 0, angle := 0, lastGap := 0, expected := none, reseedPending := false, refillPending := false }

/-- R43: the Posture Classifier when a soft reset begins; the debounce timer starts when the reset ends (log 7). -/
def Classifier.softReset (c : Classifier) : Classifier :=
  { c with
    committed := .unknown, candidate := .unknown, dwell := .idle, disagreement := false
    debounced := false, debounceTimer := none }

/-- R71: the Surface Table: every slot FREE, and the generation of each slot that held a record advanced. -/
def Table.softReset (t : Table) : Table where
  slots := Vector.replicate 40 .free
  gens := Vector.ofFn fun i : Fin 40 => if (t.slots[i]).isFree then t.gens[i] else t.gens[i] + 1
  focus := none
  cursor := 0

/-- R149, R162: a Panel Controller: OFF, its off-time timer started, its settings kept, pending values adopted. -/
def Panel.softReset (x : Panel) (off : Timer) : Panel :=
  { Panel.powerOn with
    enabled := x.enabled, offTimer := off, period := x.pendPeriod.getD x.period, lead := x.pendLead.getD x.lead
    recovery := x.recovery, capture := x.capture }

/-- R181: a soft reset begins: the link is RESETTING, every flag clear, and each block at its soft reset values. -/
def State.beginSoftReset (s : State) : State where
  hinge := s.hinge.softReset
  posture := s.posture.softReset
  table := s.table.softReset
  rules := s.rules
  queue := []
  panels := ⟨s.panels.p0.softReset (s.timerFor s.shared.tOff), s.panels.p1.softReset (s.timerFor s.shared.tOff)⟩
  shared := { s.shared with joined := .notJoined }
  slots := Vector.replicate 16 .free
  attn := { s.attn with flags := .empty, marked := 0, wantedInd := false }
  link := { s.link with state := .resetting, buffer := none, readPos := 0, executing := none, reset := some .soft }
  now := s.now
  offers := s.offers
  pending := s.pending

/-- R22, R43: the timers that start when a reset ends. -/
def State.startTimers (s : State) : State :=
  { s with
    hinge := { s.hinge with silentTimer := if s.hinge.enabled then some (s.after s.hinge.silentMs) else none }
    posture := { s.posture with debounceTimer := some (s.after Config.debounceMs) } }

/-- R172, R181, R182: a soft reset ends. -/
def State.endSoftReset (s : State) : State :=
  { s.startTimers with
    attn := { s.attn with flags := { FlagSet.empty with resetDone := true } }
    link := { s.link with state := .idle, buffer := none, readPos := 0, executing := none, reset := none } }

/-- R180, R181: a RESET request: taken in IDLE and RESPONSE_READY, discarded in the other states. -/
def State.resetRequest (s : State) : State :=
  match s.link.state with
  | .idle => s.beginSoftReset
  | .responseReady => s.beginSoftReset
  | .executing => s.discard
  | .resetting => s.discard

/-- RESET (R181). -/
def execReset (s : State) : Host.Outcome State Fault Refusal := .next s.resetRequest

/-- SOFT_RESET_END (R181). -/
def execSoftResetEnd (s : State) : Host.Outcome State Fault Refusal :=
  .next (if s.link.state = .resetting ∧ s.link.reset = some .soft then s.endSoftReset else s)

/-! ### Power-on reset -/

/-- R180: a low level on RST_N, and its rise: the part at its reset values (log 6), every flag clear, no timer running. Once RST_N
has risen the link is RESETTING for the power-on reset; until then it takes no transaction. -/
def State.beginPowerOn (s : State) (risen : Bool) : State :=
  let t := State.powerOn s.now s.posture.rawLevel s.pending
  { t with
    hinge := { t.hinge with silentTimer := none }
    posture := { t.posture with debounceTimer := none }
    attn := { t.attn with flags := .empty }
    link := { t.link with state := .resetting, reset := some (if risen then .powerOn else .held) } }

/-- POWER_ON_RESET (R180): RST_N goes low, or the supplies come up; on a part whose RST_N is low, its rise (log 6). -/
def execPowerOnReset (s : State) : Host.Outcome State Fault Refusal := .next (s.beginPowerOn s.rstLow)

/-- POWER_ON_RESET_END (R180): every block at its reset values. -/
def execPowerOnResetEnd (s : State) : Host.Outcome State Fault Refusal :=
  .next <|
    if s.link.state = .resetting ∧ s.link.reset = some .powerOn then
      State.powerOn s.now s.posture.rawLevel s.pending
    else s

/-! ### Transactions -/

/-- R175, R176, R181: a frame judged in IDLE or RESPONSE_READY. -/
def State.takeFrame (s : State) : Except Status Instr → State
  | .error st => s.respond (refusal st)
  | .ok .reset => s.beginSoftReset
  | .ok req => s.take req

/-- WRITE_TRANSACTION (R175, R179). -/
def execWriteTransaction (bytes : List Byte) (partialBits : Nat) (s : State) : Host.Outcome State Fault Refusal :=
  .next <|
    match s.link.state with
    | .idle => s.takeFrame (judge bytes partialBits)
    | .responseReady => s.takeFrame (judge bytes partialBits)
    | .executing => s.discard
    | .resetting => s.discard

/-- R177: the bytes shifted out for a frame when `n` bytes are clocked: 0x00 after the frame. -/
def shiftOut (frame : List Byte) (n : Nat) : List Byte := frame.take n ++ zeros (n - frame.length)

/-- R177: the response frame a read transaction shifts out, chosen at its opener: whether the opener met EXECUTING or RESETTING. -/
def State.readFrame (s : State) (openedBusy : Bool) : List Byte :=
  if openedBusy then responseFrame .notReady []
  else
    match s.link.state with
    | .idle => responseFrame .noResponse []
    | .executing => responseFrame .notReady []
    | .resetting => responseFrame .notReady []
    | .responseReady => s.link.buffer.getD []

/-- R177: how far the held response has been shifted out; sent whole, it is delivered. -/
def State.deliver (s : State) (frame : List Byte) (n : Nat) : State :=
  if frame.length ≤ n then { s with link := { s.link with state := .idle, buffer := none, readPos := 0 } }
  else { s with link := { s.link with readPos := n } }

/-- R177: a read transaction outside a low level on RST_N. A link-formed frame changes no state of the part. -/
def State.read (s : State) (openedBusy : Bool) (clocked : Nat) : State :=
  let frame := s.readFrame openedBusy
  let t := { s with link := { s.link with sdo := shiftOut frame clocked } }
  if openedBusy = false ∧ s.link.state = .responseReady then t.deliver frame clocked else t

/-- READ_TRANSACTION (R177); none is taken while RST_N is low (R180). -/
def execReadTransaction (openedBusy : Bool) (clocked : Nat) (s : State) : Host.Outcome State Fault Refusal :=
  .next (if s.rstLow then s else s.read openedBusy clocked)

/-- IGNORED_TRANSACTION (R173): no state of the part changes. -/
def execIgnoredTransaction (_opener : Option Byte) (s : State) : Host.Outcome State Fault Refusal := .next s

end Sys2Proof.Machine
end

