-- ==== Sys2Proof/Machine/Dispatch.lean ====
section
/-! DEFINITION. One arm per command: the direct call of its meaning. -/

namespace Sys2Proof.Machine

/-- A command's effect on everything but the queue of waiting commands. -/
def exec (i : Instr) (s : State) : Host.Outcome State Fault Refusal :=
  match i with
  | .writeTransaction bytes partialBits => Sys2Proof.Machine.execWriteTransaction bytes partialBits s
  | .readTransaction openedBusy clocked => Sys2Proof.Machine.execReadTransaction openedBusy clocked s
  | .ignoredTransaction opener => Sys2Proof.Machine.execIgnoredTransaction opener s
  | .powerOnReset => Sys2Proof.Machine.execPowerOnReset s
  | .powerOnResetEnd => Sys2Proof.Machine.execPowerOnResetEnd s
  | .softResetEnd => Sys2Proof.Machine.execSoftResetEnd s
  | .reset => Sys2Proof.Machine.execReset s
  | .hingeEnable value => Sys2Proof.Machine.execHingeEnable value s
  | .readHinge => Sys2Proof.Machine.execReadHinge s
  | .setCalibration points => Sys2Proof.Machine.execSetCalibration points s
  | .setFilter shift interval threshold silent limit => Sys2Proof.Machine.execSetFilter shift interval threshold silent limit s
  | .lineIdle => Sys2Proof.Machine.execLineIdle s
  | .frameArrival r => Sys2Proof.Machine.execFrameArrival r s
  | .cellTimeout => Sys2Proof.Machine.execCellTimeout s
  | .silentExpiry => Sys2Proof.Machine.execSilentExpiry s
  | .dwellExpiry => Sys2Proof.Machine.execDwellExpiry s
  | .foldEdge level => Sys2Proof.Machine.execFoldEdge level s
  | .debounceExpiry => Sys2Proof.Machine.execDebounceExpiry s
  | .readPosture => Sys2Proof.Machine.execReadPosture s
  | .setBands b1 b2 b3 b4 margin dwell => Sys2Proof.Machine.execSetBands b1 b2 b3 b4 margin dwell s
  | .setSwitch use limit => Sys2Proof.Machine.execSetSwitch use limit s
  | .forcePosture code => Sys2Proof.Machine.execForcePosture code s
  | .setFront value => Sys2Proof.Machine.execSetFront value s
  | .setSpan value => Sys2Proof.Machine.execSetSpan value s
  | .createSurface cls owner home z flags fill buffer => Sys2Proof.Machine.execCreateSurface cls owner home z flags fill buffer s
  | .offerBuffer h d => Sys2Proof.Machine.execOfferBuffer h d s
  | .amendSurface h presence z home cls owner flags fill => Sys2Proof.Machine.execAmendSurface h presence z home cls owner flags fill s
  | .setVariant h postures target fallback rect => Sys2Proof.Machine.execSetVariant h postures target fallback rect s
  | .clearVariants h => Sys2Proof.Machine.execClearVariants h s
  | .setFocus h => Sys2Proof.Machine.execSetFocus h s
  | .lookupSurface h => Sys2Proof.Machine.execLookupSurface h s
  | .findSurfaces kind value cursor => Sys2Proof.Machine.execFindSurfaces kind value cursor s
  | .retireSurface h => Sys2Proof.Machine.execRetireSurface h s
  | .retireOwner owner => Sys2Proof.Machine.execRetireOwner owner s
  | .writeRule index e => Sys2Proof.Machine.execWriteRule index e s
  | .readRule index => Sys2Proof.Machine.execReadRule index s
  | .moveSurface h target rect => Sys2Proof.Machine.execMoveSurface h target rect s
  | .deadlineExpiry record => Sys2Proof.Machine.execDeadlineExpiry record s
  | .readQueue => Sys2Proof.Machine.execReadQueue s
  | .offTimeExpiry p => Sys2Proof.Machine.execOffTimeExpiry p s
  | .railStageEnd p => Sys2Proof.Machine.execRailStageEnd p s
  | .resetStageEnd p => Sys2Proof.Machine.execResetStageEnd p s
  | .trainingExpiry p => Sys2Proof.Machine.execTrainingExpiry p s
  | .powerDownEnd p => Sys2Proof.Machine.execPowerDownEnd p s
  | .trainOk p => Sys2Proof.Machine.execTrainOk p s
  | .frameOk p => Sys2Proof.Machine.execFrameOk p s
  | .frameBad p => Sys2Proof.Machine.execFrameBad p s
  | .unknownAckCode p code stop => Sys2Proof.Machine.execUnknownAckCode p code stop s
  | .frameStart p => Sys2Proof.Machine.execFrameStart p s
  | .stagingCutoff p => Sys2Proof.Machine.execStagingCutoff p s
  | .quietExpiry p => Sys2Proof.Machine.execQuietExpiry p s
  | .stabilityExpiry p => Sys2Proof.Machine.execStabilityExpiry p s
  | .setPanelGeometry w h g => Sys2Proof.Machine.execSetPanelGeometry w h g s
  | .setRefresh panel period lead => Sys2Proof.Machine.execSetRefresh panel period lead s
  | .setPowerTiming rail rst train down off quiet => Sys2Proof.Machine.execSetPowerTiming rail rst train down off quiet s
  | .panelEnable panel value => Sys2Proof.Machine.execPanelEnable panel value s
  | .setLending lender count => Sys2Proof.Machine.execSetLending lender count s
  | .readPanel panel => Sys2Proof.Machine.execReadPanel panel s
  | .panelRecover panel => Sys2Proof.Machine.execPanelRecover panel s
  | .setRecoveryMode panel recovery capture => Sys2Proof.Machine.execSetRecoveryMode panel recovery capture s
  | .readStatus => Sys2Proof.Machine.execReadStatus s
  | .ackAttention flags => Sys2Proof.Machine.execAckAttention flags s
  | .attnEnable flags => Sys2Proof.Machine.execAttnEnable flags s
  | .attnDisable flags => Sys2Proof.Machine.execAttnDisable flags s
  | .setNoticeThreshold value => Sys2Proof.Machine.execSetNoticeThreshold value s
  | .readNotices => Sys2Proof.Machine.execReadNotices s
  | .hsnsCell lowNs => Sys2Proof.Machine.execHsnsCell lowNs s
  | .ackPathIdle p => Sys2Proof.Machine.execAckPathIdle p s

end Sys2Proof.Machine
end

