-- ==== Sys2Proof/Machine/Idle.lean ====
section
/-! DEFINITION. What the part does when no command waits (log 2): the owner of a request that was handed over executes it (R176), and
otherwise a microsecond of the timebase passes. -/

namespace Sys2Proof.Machine

/-- The step of an empty queue. -/
def idle (s : State) : Host.Outcome State Fault Refusal :=
  match s.link.executing with
  | some r => exec r s
  | none => .next (s.elapse 1)

/-- The state with a command put before those that wait. -/
def State.withFront (s : State) (c : Instr) : State := { s with pending := c :: s.pending }

/-- The state with the command that table bits spell put before those that wait, if they spell one. -/
def State.withTableWord (s : State) (nbits w : Nat) : State :=
  match decodeTableWord nbits w with
  | some c => s.withFront c
  | none => s

end Sys2Proof.Machine
end

