-- ==== Sys2Proof/Machine/Pins.lean ====
section
/-! DEFINITION. The lines the part drives, as functions of its state: ATTN_N (R164), PnRAIL, PnRST_N and PnLINK (R123), and SDO
(R173, R177, R180), whose bytes in the last read are also recorded in the link's state (log 11). -/

namespace Sys2Proof.Machine

/-- R164: ATTN_N is driven low; otherwise it is released. -/
def State.attnLow (s : State) : Bool := s.attn.flags.meets s.attn.mask

/-- R123: what a display link sends. -/
inductive LinkSignal where
  | idle
  | training
  | frames
  deriving DecidableEq, Repr

/-- R123: the lines of one panel: PnRAIL on, PnRST_N high, and PnLINK. -/
structure PanelLines where
  rail : Bool
  resetHigh : Bool
  link : LinkSignal
  deriving DecidableEq, Repr

/-- R123: the lines a panel state drives. -/
def PanelMode.lines : PanelMode → PanelLines
  | .off => ⟨false, false, .idle⟩
  | .poweringUp .rail => ⟨true, false, .idle⟩
  | .poweringUp .reset => ⟨true, true, .idle⟩
  | .poweringUp .training => ⟨true, true, .training⟩
  | .on => ⟨true, true, .frames⟩
  | .degraded => ⟨true, true, .frames⟩
  | .poweringDown => ⟨true, false, .idle⟩
  | .offline => ⟨false, false, .idle⟩

def State.lines (s : State) (p : PanelId) : PanelLines := (s.panel p).mode.lines

/-! ### SDO -/

/-- R173: SDO is released, leaving it high-impedance, or driven high or low. -/
inductive SdoLine where
  | released
  | driven (high : Bool)
  deriving DecidableEq, Repr

/-- R173: a transaction by its opener. A read carries whether its opener met EXECUTING or RESETTING (R177). -/
inductive Transaction where
  | write
  | read (openedBusy : Bool)
  | ignored
  deriving DecidableEq, Repr

/-- R173: a moment of the link's wires: CS_N high, a bit of the opener byte, or a bit of a byte after it, numbered from 0 in the order
sent, the most significant first. -/
inductive LinkMoment where
  | csHigh
  | opener (bit : Fin 8)
  | byte (n : Nat) (bit : Fin 8)
  deriving DecidableEq, Repr

/-- R173, R177: the bit that SDO is driven to while CS_N is low: a bit of the response frame in a read, and low wherever there is no
response byte to send. -/
def State.sdoBit (s : State) (t : Transaction) (m : LinkMoment) : Bool :=
  match t, m with
  | .read busy, .byte n bit => ((s.readFrame busy).getD n 0).getLsbD (7 - bit.val)
  | _, _ => false

/-- R173, R180: SDO, in a transaction that met the state `s` at its opener. -/
def State.sdoLine (s : State) (t : Transaction) (m : LinkMoment) : SdoLine :=
  if m = .csHigh ∨ s.rstLow = true then .released else .driven (s.sdoBit t m)

end Sys2Proof.Machine
end

