-- ==== Sys2Proof/Machine/Scanout.lean ====
section
/-! DEFINITION. What a panel position shows (R86, R87, R140, R141): the background, a fill colour, or the pixel of system memory at
an address of the memory port. The contents of system memory are outside the part. -/

namespace Sys2Proof.Machine

/-- Where the pixel at a panel position comes from. -/
inductive PixelSource where
  /-- R141: no live slot covers the position: pixel value 0. -/
  | background
  /-- R87: the fill colour of a slot. -/
  | colour (c : Word)
  /-- R87: the 32-bit pixel at this byte address of system memory. -/
  | memory (address : Nat)
  deriving DecidableEq, Repr

/-- The position lies in the rectangle. -/
def Rect.covers (r : Rect) (x y : Int) : Bool :=
  decide (r.x ≤ x) && decide (x < r.x + r.w) && decide (r.y ≤ y) && decide (y < r.y + r.h)

/-- R86, R87: the logical column or row of a piece shown `d` positions from the displayed rectangle's left or top, for an extent
`n`. A rotated piece counts from the other end. -/
def logicalOffset (rotated : Bool) (n d : Nat) : Nat := if rotated then n - 1 - d else d

/-- R87: the address of buffer pixel (u, v). -/
def Buffer.pixel (b : Buffer) (u v : Nat) : Nat := b.desc.address.toNat + v * b.desc.stride.toNat + 4 * u

/-- R87, R141: what a live configuration shows at a position of its displayed rectangle. -/
def SlotConfig.shows (c : SlotConfig) (x y : Int) : PixelSource :=
  let u := c.srcX + logicalOffset c.rotated c.dest.w (x - c.dest.x).toNat
  let v := c.srcY + logicalOffset c.rotated c.dest.h (y - c.dest.y).toNat
  match c.fetch, c.buffer with
  | .fill, _ => .colour c.fill
  | _, none => .colour c.fill
  | _, some b => if u < b.desc.width.toNat ∧ v < b.desc.height.toNat then .memory (b.pixel u v) else .colour c.fill

/-- R140, R141: what a panel position shows: the highest slot of the live stack that covers it, or the background. -/
def State.shown (s : State) (p : PanelId) (x y : Int) : PixelSource :=
  match ((s.panel p).stack.reverse.filterMap fun k => (s.slot k).cfg?).find? fun c => c.dest.covers x y with
  | some c => c.shows x y
  | none => .background

/-- R138: the slots in use by a panel. -/
def State.usedCount (s : State) (p : PanelId) : Nat := allSlots.countP fun k => s.uses p k && !(s.slot k).isFree

end Sys2Proof.Machine
end

