-- ==== Sys2Proof/Safety.lean ====
section
/-! DEFINITION. The words the statements use: when the link lets a request execute and what an answer is, what an event leaves alone,
and the properties that every step keeps. -/

namespace Sys2Proof.Machine

/-! ### Requests and answers -/

/-- A request that an owner executes and answers. RESET is the link's own and has no response (R181). -/
def isRequest : Instr → Bool
  | .writeTransaction _ _ => false
  | .readTransaction _ _ => false
  | .ignoredTransaction _ => false
  | .powerOnReset => false
  | .powerOnResetEnd => false
  | .softResetEnd => false
  | .reset => false
  | .hingeEnable _ => true
  | .readHinge => true
  | .setCalibration _ => true
  | .setFilter _ _ _ _ _ => true
  | .lineIdle => false
  | .frameArrival _ => false
  | .cellTimeout => false
  | .silentExpiry => false
  | .dwellExpiry => false
  | .foldEdge _ => false
  | .debounceExpiry => false
  | .readPosture => true
  | .setBands _ _ _ _ _ _ => true
  | .setSwitch _ _ => true
  | .forcePosture _ => true
  | .setFront _ => true
  | .setSpan _ => true
  | .createSurface _ _ _ _ _ _ _ => true
  | .offerBuffer _ _ => true
  | .amendSurface _ _ _ _ _ _ _ _ => true
  | .setVariant _ _ _ _ _ => true
  | .clearVariants _ => true
  | .setFocus _ => true
  | .lookupSurface _ => true
  | .findSurfaces _ _ _ => true
  | .retireSurface _ => true
  | .retireOwner _ => true
  | .writeRule _ _ => true
  | .readRule _ => true
  | .moveSurface _ _ _ => true
  | .deadlineExpiry _ => false
  | .readQueue => true
  | .offTimeExpiry _ => false
  | .railStageEnd _ => false
  | .resetStageEnd _ => false
  | .trainingExpiry _ => false
  | .powerDownEnd _ => false
  | .trainOk _ => false
  | .frameOk _ => false
  | .frameBad _ => false
  | .unknownAckCode _ _ _ => false
  | .frameStart _ => false
  | .stagingCutoff _ => false
  | .quietExpiry _ => false
  | .stabilityExpiry _ => false
  | .setPanelGeometry _ _ _ => true
  | .setRefresh _ _ _ => true
  | .setPowerTiming _ _ _ _ _ _ => true
  | .panelEnable _ _ => true
  | .setLending _ _ => true
  | .readPanel _ => true
  | .panelRecover _ => true
  | .setRecoveryMode _ _ _ => true
  | .readStatus => true
  | .ackAttention _ => true
  | .attnEnable _ => true
  | .attnDisable _ => true
  | .setNoticeThreshold _ => true
  | .readNotices => true
  | .hsnsCell _ => false
  | .ackPathIdle _ => false

/-- R175: the link is IDLE or RESPONSE_READY, the states in which it takes a frame. -/
def State.accepting (s : State) : Prop := s.link.state = .idle ∨ s.link.state = .responseReady

/-- The request executes when its command comes: the link takes it now, or took it before (R176, log 1). -/
def State.turn (s : State) (c : Instr) : Prop :=
  s.accepting ∨ (s.link.state = .executing ∧ s.link.executing = some c)

/-- The state in which the owner executes a request: with the frame taken (R176), or, once it was taken, as it stands. -/
def State.handed (s : State) (c : Instr) : State :=
  match s.link.state with
  | .executing => s
  | _ => s.take c

/-- R176, R177: the state with a response frame placed in the response buffer, unread. -/
def State.answered (s : State) (st : Status) (payload : List Byte) : State :=
  { s with link := { s.link with
      state := .responseReady, buffer := some (responseFrame st payload), readPos := 0, executing := none } }

/-- R50, R176: the state an event that re-resolved or staged leaves, with its answer: ACCEPTED when the event staged a configuration or
the engine changed something, and OK otherwise. -/
def Ev.answer (e : Ev) (payload : List Byte) : State :=
  e.done.answered (if e.finish.changed then .accepted else .ok) payload

/-- A command that ends in a given next state. -/
def Answers (c : Instr) (s t : State) : Prop := exec c s = .next t

/-- The end of an event that leaves nothing of its own to do: what is due in the engine and the NOTICE level (R109, R114, R117,
R166). -/
def State.settled (s : State) : State := (Ev.start s).done

/-! ### What an event leaves alone -/

/-- Two records that differ only in what the Handover Engine changes: state, wanted size, placement, marks, STALE_CONTENT and the
resolution-pending mark (R45). -/
structure Record.SameCore (a b : Record) : Prop where
  cls : b.cls = a.cls
  owner : b.owner = a.owner
  home : b.home = a.home
  z : b.z = a.z
  redraw : b.redraw = a.redraw
  placeholder : b.placeholder = a.placeholder
  fill : b.fill = a.fill
  current : b.current = a.current
  pending : b.pending = a.pending
  released : b.released = a.released
  variants : b.variants = a.variants
  moveTo : b.moveTo = a.moveTo

/-- Two record slots of which neither became FREE, taken or RETIRED, and whose record keeps its core. -/
def TableSlot.SameCore : TableSlot → TableSlot → Prop
  | .free, .free => True
  | .used a, .used b => a.SameCore b
  | .retired r m, .retired r' m' => r' = r ∧ m' = m
  | _, _ => False

/-- The state outside the records, the queue, the panels, the slot bank and the attention flags is the same. -/
structure State.SameBlocks (s t : State) : Prop where
  hinge : t.hinge = s.hinge
  posture : t.posture = s.posture
  rules : t.rules = s.rules
  link : t.link = s.link
  now : t.now = s.now
  offers : t.offers = s.offers
  waiting : t.pending = s.pending
  gens : t.table.gens = s.table.gens
  cursor : t.table.cursor = s.table.cursor
  focus : t.table.focus = s.table.focus
  mask : t.attn.mask = s.attn.mask
  threshold : t.attn.threshold = s.attn.threshold

/-- R133: the live configuration of a slot, with its owner. -/
def LayerSlot.live? : LayerSlot → Option (Handle × SlotConfig)
  | .live o c _ => some (o, c)
  | _ => none

/-- R133, R139: what a frame start of its panel leaves live on a slot: a due full configuration is applied, and a due
removal frees it. -/
def LayerSlot.liveNext : LayerSlot → Option (Handle × SlotConfig)
  | .claimed o (some (.full c true)) => some (o, c)
  | .live o _ (some (.full c true)) => some (o, c)
  | .live _ _ (some (.removal true)) => none
  | x => x.live?

/-- What re-resolution, the Handover Engine and the end of an event leave alone: every other block, the panels, the records' cores,
the live configurations (only a frame start changes them, R133) and every attention flag but BACKLOG and NOTICE. -/
structure State.EngineFrame (s t : State) : Prop where
  blocks : s.SameBlocks t
  panels : t.panels = s.panels
  shared : t.shared = s.shared
  cores : ∀ i, (s.entry i).SameCore (t.entry i)
  live : ∀ k, (t.slot k).live? = (s.slot k).live?
  posture : t.attn.flags.posture = s.attn.flags.posture
  hinge : t.attn.flags.hinge = s.attn.flags.hinge
  panel : t.attn.flags.panel = s.attn.flags.panel
  link : t.attn.flags.link = s.attn.flags.link
  resetDone : t.attn.flags.resetDone = s.attn.flags.resetDone

/-! ### Properties every step keeps -/

/-- R176, R177, R180, R181, R182: what the link holds in each of its states, and a held frame that sums to 0 modulo 256. -/
structure Link.Ok (l : Link) : Prop where
  idle : l.state = .idle → l.buffer = none ∧ l.executing = none ∧ l.reset = none
  executing : l.state = .executing → l.buffer = none ∧ l.executing.isSome ∧ l.reset = none
  ready : l.state = .responseReady → l.buffer.isSome ∧ l.executing = none ∧ l.reset = none
  resetting : l.state = .resetting → l.buffer = none ∧ l.executing = none ∧ l.reset.isSome
  sum : ∀ f, l.buffer = some f → byteSum f = 0
  position : l.readPos ≤ l.buffer.elim 0 List.length

/-- R1, R4, R13 to R17, R20: the ranges of the Hinge Input Unit's state. -/
structure Hinge.Ok (h : Hinge) : Prop where
  enabled : h.enabled = true ↔ h.input ≠ .disabled
  bits : ∀ l, h.recv = .inFrame l → l.length ≤ 32
  streaks : h.good ≤ 255 ∧ h.bad ≤ 255
  raw : h.lastRaw ≤ 16383
  angle : h.angle ≤ 3600
  cal : ∀ n : Fin 8, h.cal[n.val] ≤ h.cal[n.val + 1]
  calTop : h.cal[8] ≤ 3600
  acc : h.acc ≤ 57600
  filtered : h.filtered ≤ 3600
  window : ∀ n : Fin 8, h.window[n] ≤ 3600
  motion : h.motion ≤ 3600
  swinging : h.swinging = true → h.input = .tracking
  divider : h.divider ≤ 31
  sampling : h.divider < h.interval ∨ h.refillPending = true ∨ h.input ≠ .tracking
  shift : h.shift ≤ 5
  interval : 1 ≤ h.interval ∧ h.interval ≤ 32
  threshold : 1 ≤ h.threshold ∧ h.threshold ≤ 255
  silentMs : 2 ≤ h.silentMs ∧ h.silentMs ≤ 20
  badLimit : 2 ≤ h.badLimit ∧ h.badLimit ≤ 32

/-- R23, R39, R40: the bands in order and each wider than 2H, and the ranges of the other settings. -/
structure Classifier.Ok (c : Classifier) : Prop where
  order : 0 < c.b1 ∧ c.b1 < c.b2 ∧ c.b2 < c.b3 ∧ c.b3 < c.b4 ∧ c.b4 < 3600
  margin : c.margin ≤ 200
  widths : 2 * c.margin < c.b1 ∧ 2 * c.margin < c.b2 - c.b1 ∧ 2 * c.margin < c.b3 - c.b2 ∧
    2 * c.margin < c.b4 - c.b3 ∧ 2 * c.margin < 3600 - c.b4
  dwellMs : c.dwellMs ≤ 1000
  agreeLimit : c.agreeLimit ≤ 900

/-- The switch is in use and its debounced level is asserted. -/
def Classifier.switchHeld (c : Classifier) : Bool := c.switchUse && c.debounced

/-- R34: an asserted switch in use holds CLOSED, unless a TRACKING angle above the agree limit disagrees; R28: a dwell is under way
only in TRACKING, and never while the switch decides. -/
structure State.SwitchOk (s : State) : Prop where
  untrusted : s.posture.switchHeld = true → s.hinge.input = .acquiring ∨ s.hinge.input = .lost →
    s.posture.committed = .closed
  agreeing : s.posture.switchHeld = true → s.hinge.input = .tracking → s.hinge.filtered ≤ s.posture.agreeLimit →
    s.posture.committed = .closed
  dwell : s.posture.dwell ≠ .idle → s.hinge.input = .tracking ∧ s.posture.switchHeld = false

/-- R94: at most 16 jobs, no two for one record; a record is MOVING exactly while it has a job. -/
structure State.QueueOk (s : State) : Prop where
  room : s.queue.length ≤ 16
  distinct : (s.queue.map fun j => j.handle.index).Nodup
  moving : ∀ i, (∃ r, s.record? i = some r ∧ r.state = .moving) ↔ ∃ j ∈ s.queue, j.handle.index = i

/-- R138, R142: a slot that is not FREE is used by a panel in service; the lending count is one of the four. -/
structure State.SlotsOk (s : State) : Prop where
  service : ∀ k, (s.slot k).isFree = false → (s.panel (s.user k)).inService = true
  lent : s.shared.lent = 0 ∨ s.shared.lent = 2 ∨ s.shared.lent = 4 ∨ s.shared.lent = 6

/-- R58: no posture is in two of the sets. -/
def PostureSet.disjoint (a b : PostureSet) : Prop := ∀ p, ¬(a.has p = true ∧ b.has p = true)

/-- R58: at most 4 variants, each for some posture, no two for one posture; R65: none on a RETIRING record. -/
structure Record.VariantsOk (r : Record) : Prop where
  count : r.variants.length ≤ 4
  some : ∀ v ∈ r.variants, v.postures.isEmpty = false
  disjoint : r.variants.Pairwise fun a b => a.postures.disjoint b.postures
  retiring : r.state = .retiring → r.variants = []

/-- R135, R137: joined mode is entered and pending only while FLAT is committed, span is on and both panels are in service. -/
def State.JoinedOk (s : State) : Prop := s.shared.joined ≠ .notJoined → s.joinConditions = true

/-- R131, R134, R150, R157: the ranges of a Panel Controller's state. -/
structure Panel.Ok (x : Panel) : Prop where
  period : 8000 ≤ x.period ∧ x.period ≤ 32000
  lead : 500 ≤ x.lead ∧ x.lead ≤ 4000
  pendPeriod : ∀ n, x.pendPeriod = some n → 8000 ≤ n ∧ n ≤ 32000
  pendLead : ∀ n, x.pendLead = some n → 500 ≤ n ∧ n ≤ 4000
  effective : x.inService = true → 8000 ≤ x.effective ∧ x.effective ≤ 64000
  counter : x.counter ≤ x.effective
  health : x.health ≤ 255
  attempts : x.attempts ≤ 3
  quiet : x.quietTimer.isSome = true → x.attempts < 3
  stack : x.stack.length ≤ 16

/-- R144, R145: the ranges of what the controllers share. -/
structure Shared.Ok (g : Shared) : Prop where
  width : 480 ≤ g.width ∧ g.width ≤ 2560
  height : 480 ≤ g.height ∧ g.height ≤ 2560
  seam : g.seam ≤ 96
  rail : 1 ≤ g.tRail ∧ g.tRail ≤ 100
  rst : 1 ≤ g.tRst ∧ g.tRst ≤ 100
  train : 10 ≤ g.tTrain ∧ g.tTrain ≤ 500
  down : 1 ≤ g.tDown ∧ g.tDown ≤ 200
  off : g.tOff ≤ 2000
  quiet : 100 ≤ g.tQuiet ∧ g.tQuiet ≤ 5000

/-- A property every step keeps, whatever state it starts from. -/
def KeptByStep (p : State → Prop) : Prop := ∀ s t, p s → step s = .next t → p t

end Sys2Proof.Machine
end

