-- ==== Sys2Proof/Certificates/Slice0/Obligations.lean ====
section
/-! DEFINITION. The statements for the provers. A request's statement gives the whole next state where the request touches settings
or reports alone; where it re-resolves records, it gives the state the request's own effect leaves, and says that re-resolution,
the Handover Engine and the end of the event change nothing else (`State.EngineFrame`). -/

open Sys2Proof Sys2Proof.Machine

/-! ### Steps -/

/-- A step executes the command at the front of the queue, on the state with the queue's rest. -/
def Obligations.StepRunsTheFrontCommand : Prop :=
  ∀ (c : Instr) (rest : List Instr) (s : State),
    step { s with pending := c :: rest } = exec c { s with pending := rest }

/-- Every command ends in a next state, whatever state it meets: the spec names no condition that stops the part. The model's choice
(log 2): with no command waiting, the owner of a request that was handed over executes it (R176); otherwise a
microsecond passes, the frame counters in service count up to compare A (R131), and nothing else changes. -/
def Obligations.EveryStepEnds : Prop :=
  (∀ (c : Instr) (s : State), ∃ t, Answers c s t) ∧
  ∀ s : State, s.pending = [] →
    (∀ r, s.link.executing = some r → step s = exec r s) ∧
    (s.link.executing = none →
      step s = .next { s with
        now := s.now + 1
        panels :=
          ⟨if s.panels.p0.inService then
              { s.panels.p0 with counter := min (s.panels.p0.counter + 1) s.panels.p0.effective } else s.panels.p0,
            if s.panels.p1.inService then
              { s.panels.p1 with counter := min (s.panels.p1.counter + 1) s.panels.p1.effective } else s.panels.p1⟩ })

/-! ### Resets -/

/-- R21, R43, R70, R72, R122, R148, R172, R180: while RST_N is low or the supplies come up, the link takes no transaction, and SDO
and ATTN_N are released; at the rise, the same command given again (log 6), the link is RESETTING; and the power-on reset ends with
every block at its reset values, each field written out, its timers started at that moment. The timebase, the FOLD pin and the
waiting commands are as they were (log 6, log 18). The model's choices: every acknowledgement path is read at once after the reset
(`pathHeld`, log 9), an end of a reset that is not under way changes nothing (log 4), and State.reset is the part at time 0 with the
pin released (log 10). -/
def Obligations.PowerOnResetValues : Prop :=
  (∀ s : State, ∃ t, Answers .powerOnReset s t ∧ t.rstLow = !s.rstLow ∧ t.link.state = .resetting ∧
      t.link.reset = some (if s.rstLow then .powerOn else .held) ∧ t.link.buffer = none ∧ t.link.executing = none ∧
      t.attn.flags = .empty ∧ t.attnLow = false ∧ t.now = s.now ∧ t.posture.rawLevel = s.posture.rawLevel ∧
      t.pending = s.pending) ∧
  (∀ s : State, s.rstLow = true →
    (∀ bytes n, Answers (.writeTransaction bytes n) s s) ∧ (∀ b n, Answers (.readTransaction b n) s s) ∧
    Answers .reset s s ∧ (∀ c, isRequest c = true → Answers c s s) ∧ Answers .powerOnResetEnd s s ∧
    ∀ t m, s.sdoLine t m = .released) ∧
  (∀ s : State, s.link.state = .resetting → s.link.reset = some .powerOn →
    ∃ t, Answers .powerOnResetEnd s t ∧ t.now = s.now ∧ t.pending = s.pending ∧
      t.hinge = {
        enabled := true, recv := .idleWait, cellTimer := none, input := .acquiring, good := 0, bad := 0, lastCause := .none
        marginal := false, expected := none, lastGap := 0, lastRaw := 0, angle := 0
        cal := #v[0, 450, 900, 1350, 1800, 2250, 2700, 3150, 3600], acc := 0, filtered := 0
        window := #v[0, 0, 0, 0, 0, 0, 0, 0], divider := 0, motion := 0, swinging := false, reseedPending := false
        refillPending := false, silentTimer := some (s.now + 5000), shift := 2, interval := 8, threshold := 40
        silentMs := 5, badLimit := 8 } ∧
      t.posture = {
        committed := .unknown, candidate := .unknown, dwell := .idle, disagreement := false, b1 := 150, b2 := 1550
        b3 := 2050, b4 := 3300, margin := 40, dwellMs := 120, switchUse := true, agreeLimit := 250
        rawLevel := s.posture.rawLevel, debounced := false, debounceTimer := some (s.now + 8000), front := .p0
        span := false } ∧
      (∀ i, t.entry i = .free ∧ t.gen i = 0) ∧ t.table.focus = none ∧ t.table.cursor = 0 ∧ t.queue = [] ∧
      (∀ n : Fin 16, t.rules[n] = {
        valid := false, base := 0, mask := 0, targets := ⟨.park, .park, .park, .park, .park⟩
        fits := ⟨.full, .full, .full, .full, .full⟩, fallback := .move, mode := .brk, deadline := 0 }) ∧
      (∀ p, t.panel p = {
        mode := .off, planLit := false, enabled := true, seqTimer := none, offTimer := none, quietTimer := none
        stableTimer := none, counter := 0, period := 16667, lead := 1500, pendPeriod := none, pendLead := none
        effective := 0, cutoffDone := false, ackOwed := false, pathHeld := false, stack := [], health := 0
        warning := false, linkError := .none, attempts := 0, recovery := .auto, capture := .first, fault := .empty }) ∧
      t.shared = {
        width := 1440, height := 1920, seam := 32, tRail := 10, tRst := 5, tTrain := 50, tDown := 20, tOff := 100
        tQuiet := 500, joined := .notJoined, lender := .p0, lent := 0 } ∧
      (∀ k, t.slot k = .free) ∧
      t.attn = {
        flags := { FlagSet.empty with resetDone := true }, mask := .all, threshold := 1, marked := 0
        wantedInd := false } ∧
      t.attnLow = true ∧ t.link.state = .idle ∧ t.link.buffer = none ∧ t.link.readPos = 0 ∧ t.link.executing = none ∧
      t.link.reset = none) ∧
  (∀ s : State, ¬(s.link.state = .resetting ∧ s.link.reset = some .powerOn) → Answers .powerOnResetEnd s s) ∧
  (∀ s : State, s.link.state = .resetting → s.link.reset = some .powerOn → s.now = 0 → s.posture.rawLevel = false →
    s.pending = [] → Answers .powerOnResetEnd s State.reset)

/-- R22, R43, R71, R122, R149, R162, R172, R181, R182: what a soft reset keeps and what it clears, each field written out, when it
begins and when it ends. The silent and the debounce timer are stopped while it lasts and start at its end (log 7). The model's
choices: every acknowledgement path is read at once after the reset (`pathHeld`, log 9), and an end of a reset that is not under way
changes nothing (log 4). -/
def Obligations.SoftReset : Prop :=
  (∀ s : State, s.accepting → ∃ t, Answers .reset s t ∧
    t.link.state = .resetting ∧ t.link.reset = some .soft ∧ t.link.buffer = none ∧ t.link.executing = none ∧
    t.attn = { s.attn with flags := .empty, marked := 0, wantedInd := false } ∧ t.rules = s.rules ∧
    t.shared = { s.shared with joined := .notJoined } ∧ t.queue = [] ∧ (∀ k, t.slot k = .free) ∧
    (∀ i, t.entry i = .free ∧ t.gen i = if s.entry i = .free then s.gen i else s.gen i + 1) ∧
    t.table.focus = none ∧ t.table.cursor = 0 ∧
    t.posture = { s.posture with
      committed := .unknown, candidate := .unknown, dwell := .idle, disagreement := false, debounced := false
      debounceTimer := none } ∧
    t.hinge = {
      enabled := s.hinge.enabled, cal := s.hinge.cal, shift := s.hinge.shift, interval := s.hinge.interval
      threshold := s.hinge.threshold, silentMs := s.hinge.silentMs, badLimit := s.hinge.badLimit
      input := if s.hinge.enabled then .acquiring else .disabled
      recv := .idleWait, cellTimer := none, silentTimer := none, acc := 0, filtered := 0, motion := 0
      window := #v[0, 0, 0, 0, 0, 0, 0, 0], divider := 0, swinging := false, marginal := false, good := 0, bad := 0
      lastCause := .none, lastRaw := 0, angle := 0, lastGap := 0, expected := none, reseedPending := false
      refillPending := false } ∧
    (∀ p, t.panel p = {
      mode := .off, planLit := false, enabled := (s.panel p).enabled, seqTimer := none
      offTimer := if s.shared.tOff = 0 then none else some (s.now + 1000 * s.shared.tOff)
      quietTimer := none, stableTimer := none, counter := 0
      period := (s.panel p).pendPeriod.getD (s.panel p).period, lead := (s.panel p).pendLead.getD (s.panel p).lead
      pendPeriod := none, pendLead := none, effective := 0, cutoffDone := false, ackOwed := false, pathHeld := false
      stack := [], health := 0, warning := false, linkError := .none, attempts := 0
      recovery := (s.panel p).recovery, capture := (s.panel p).capture, fault := .empty }) ∧
    t.now = s.now ∧ t.pending = s.pending) ∧
  (∀ s : State, s.link.state = .resetting → s.link.reset = some .soft → Answers .softResetEnd s { s with
    hinge := { s.hinge with
      silentTimer := if s.hinge.enabled then some (s.now + 1000 * s.hinge.silentMs) else none }
    posture := { s.posture with debounceTimer := some (s.now + 8000) }
    attn := { s.attn with flags := { FlagSet.empty with resetDone := true } }
    link := { s.link with state := .idle, buffer := none, readPos := 0, executing := none, reset := none } }) ∧
  (∀ s : State, ¬(s.link.state = .resetting ∧ s.link.reset = some .soft) → Answers .softResetEnd s s)

/-! ### Properties every step keeps -/

/-- The state right after power-on reset has every property that the statements below say each step keeps. -/
def Obligations.ResetMeetsTheInvariants : Prop :=
  State.reset.link.Ok ∧ State.reset.hinge.Ok ∧ State.reset.posture.Ok ∧ State.reset.shared.Ok ∧ State.reset.SwitchOk ∧
    State.reset.QueueOk ∧ State.reset.SlotsOk ∧ (∀ i r, State.reset.record? i = some r → r.VariantsOk) ∧
    State.reset.JoinedOk ∧ (∀ p, (State.reset.panel p).Ok)

/-- R176, R177, R180, R181: in each link state the response buffer, the request under way and the reset under way are those of that
state, and a held frame sums to 0 modulo 256. -/
def Obligations.LinkKept : Prop := KeptByStep fun s => s.link.Ok

/-- R1, R4, R13 to R17, R20: the Hinge Input Unit's state stays in its ranges; F within 0..3600 in every state. -/
def Obligations.HingeRangesKept : Prop := KeptByStep fun s => s.hinge.Ok

/-- R39, R40, R144, R145: the bands stay in order and wider than 2H, and the geometry and power timings in their ranges. -/
def Obligations.SettingsKept : Prop := KeptByStep fun s => s.posture.Ok ∧ s.shared.Ok

/-- R34, R35, R28: while the switch is in use and asserted, CLOSED is committed unless a TRACKING angle above the agree limit
disagrees, and no dwell is under way; a dwell is under way only in TRACKING. -/
def Obligations.SwitchKept : Prop := KeptByStep fun s => s.SwitchOk

/-- R94, R96: at most 16 jobs, no two for one record, and a record is MOVING exactly while it has a job. -/
def Obligations.QueueKept : Prop := KeptByStep fun s => s.QueueOk

/-- R129, R138, R142, R143: a slot that is not FREE is used by a panel in service, and the lending count is 0, 2, 4 or 6. -/
def Obligations.SlotsKept : Prop := KeptByStep fun s => s.SlotsOk

/-- R58, R59, R65: a record has at most 4 variants, each for some posture, no two for one posture, and none once it is RETIRING. -/
def Obligations.VariantsKept : Prop := KeptByStep fun s => ∀ i r, s.record? i = some r → r.VariantsOk

/-- R135, R137: joined mode is pending or entered only while FLAT is committed, span is on and both panels are in service. -/
def Obligations.JoinedKept : Prop := KeptByStep fun s => s.JoinedOk

/-- R131, R134, R150, R151, R157: each Panel Controller's settings, frame, health counter and attempts stay in their ranges. -/
def Obligations.PanelRangesKept : Prop := KeptByStep fun s => ∀ p, (s.panel p).Ok

/-! ### The Request Link -/

/-- R175 check 1: in IDLE or RESPONSE_READY, a frame with a partial byte, of fewer than three bytes, with a length byte above 250,
or whose byte count disagrees with its length byte is refused with BAD_LENGTH; nothing else changes. -/
def Obligations.MalformedFrameIsRefused : Prop :=
  ∀ (s : State) (bytes : List Byte) (partialBits : Nat), s.accepting →
    (partialBits ≠ 0 ∨ bytes.length < 3 ∨ 250 < (bytes.getD 1 0).toNat ∨ bytes.length ≠ (bytes.getD 1 0).toNat + 3) →
    Answers (.writeTransaction bytes partialBits) s (s.answered .badLength [])

/-- R175 checks 2 to 4, R176: a frame of the right byte count is refused with FRAME_ERROR when its bytes do not sum to 0, with
UNKNOWN_REQUEST when its code is no request's, with BAD_LENGTH when its payload is not of the request's length; otherwise it is
taken: a held response is discarded and the request handed to its owner. RESET begins a soft reset. -/
def Obligations.WholeFrameIsJudged : Prop :=
  ∀ (s : State) (code check : Byte) (payload bytes : List Byte), s.accepting → payload.length ≤ 250 →
    bytes = code :: byteOf payload.length :: payload ++ [check] →
    (byteSum bytes ≠ 0 → Answers (.writeTransaction bytes 0) s (s.answered .frameError [])) ∧
    (byteSum bytes = 0 → code ∉ requestCodes →
      Answers (.writeTransaction bytes 0) s (s.answered .unknownRequest [])) ∧
    (byteSum bytes = 0 → code ∈ requestCodes → (∀ r, decodeRequest code payload ≠ .ok r) →
      Answers (.writeTransaction bytes 0) s (s.answered .badLength [])) ∧
    (∀ r, byteSum bytes = 0 → decodeRequest code payload = .ok r → r ≠ .reset →
      Answers (.writeTransaction bytes 0) s { s with link := { s.link with
        state := .executing, buffer := none, readPos := 0, executing := some r } }) ∧
    (byteSum bytes = 0 → decodeRequest code payload = .ok .reset →
      ∃ t, Answers .reset s t ∧ Answers (.writeTransaction bytes 0) s t)

/-- R179, R181: in EXECUTING and RESETTING a write frame is discarded and LINK set, a RESET too, and nothing else changes. So is a
request's command out of its turn (log 1). While RST_N is low, no frame is taken and nothing changes at all (R180). -/
def Obligations.BusyLinkDiscards : Prop :=
  ∀ s t : State, t = (if s.rstLow then s else { s with attn := { s.attn with flags := { s.attn.flags with link := true } } }) →
    (∀ bytes n, ¬s.accepting → Answers (.writeTransaction bytes n) s t) ∧
    (¬s.accepting → Answers .reset s t) ∧
    (∀ c, isRequest c = true → ¬s.turn c → Answers c s t)

/-- R173, R177: what a read transaction sends in each link state, 0x00 after the frame, and that it delivers the held response only
when all of it has been sent. An ignored transaction changes nothing. SDO carries the bits of those bytes, the most significant
first, is driven low through every opener byte and every write and ignored transaction, and is released between transactions. While
RST_N is low there is no transaction (R180). -/
def Obligations.ReadTransactions : Prop :=
  (∀ (s : State) (o : Option Byte), Answers (.ignoredTransaction o) s s) ∧
  (∀ (s : State) (n : Nat), s.rstLow = false → Answers (.readTransaction true n) s { s with link := { s.link with
    sdo := [0x02#8, 0x00#8, 0xFE#8].take n ++ zeros (n - 3) } }) ∧
  (∀ (s : State) (n : Nat), s.link.state = .executing ∨ s.link.state = .resetting ∧ s.rstLow = false →
    Answers (.readTransaction false n) s { s with link := { s.link with
      sdo := [0x02#8, 0x00#8, 0xFE#8].take n ++ zeros (n - 3) } }) ∧
  (∀ (s : State) (n : Nat), s.link.state = .idle →
    Answers (.readTransaction false n) s { s with link := { s.link with
      sdo := [0x03#8, 0x00#8, 0xFD#8].take n ++ zeros (n - 3) } }) ∧
  (∀ (s : State) (f : List Byte) (n : Nat), s.link.state = .responseReady → s.link.buffer = some f → n < f.length →
    Answers (.readTransaction false n) s { s with link := { s.link with readPos := n, sdo := f.take n } }) ∧
  (∀ (s : State) (f : List Byte) (n : Nat), s.link.state = .responseReady → s.link.buffer = some f → f.length ≤ n →
    Answers (.readTransaction false n) s { s with link := { s.link with
      state := .idle, buffer := none, readPos := 0, sdo := f ++ zeros (n - f.length) } }) ∧
  (∀ (s : State) (busy : Bool) (n : Nat), s.rstLow = false → ∃ t, Answers (.readTransaction busy n) s t ∧
    t.link.sdo.length = n ∧ ∀ (k : Nat) (bit : Fin 8), k < n →
      s.sdoLine (.read busy) (.byte k bit) = .driven ((t.link.sdo.getD k 0).getLsbD (7 - bit.val))) ∧
  (∀ (s : State) (tr : Transaction), s.sdoLine tr .csHigh = .released ∧
    (s.rstLow = false → (∀ bit, s.sdoLine tr (.opener bit) = .driven false) ∧
      ((∀ busy, tr ≠ .read busy) → ∀ k bit, s.sdoLine tr (.byte k bit) = .driven false))) ∧
  (∀ (s : State) (b : Bool) (n : Nat), s.rstLow = true → Answers (.readTransaction b n) s s)

/-- R176 (log 1): the request that a frame handed over, executed by its owner, and the request's command in IDLE or RESPONSE_READY
end in the same state. -/
def Obligations.TakenRequestExecutes : Prop :=
  ∀ (s : State) (c : Instr), isRequest c = true → s.accepting →
    exec c { s with link := { s.link with
      state := .executing, buffer := none, readPos := 0, executing := some c } } = exec c s

/-- R176, R178: a request in its turn is answered by one frame; an answer other than OK and ACCEPTED carries no payload and leaves
everything but the link as it was. -/
def Obligations.RefusalsChangeNothing : Prop :=
  ∀ (s : State) (c : Instr), isRequest c = true → s.turn c →
    ∃ (u : State) (st : Status) (payload : List Byte), Answers c s (u.answered st payload) ∧
      (st ≠ .ok → st ≠ .accepted → payload = [] ∧ u.answered st payload = s.answered st [])

/-- R174, R177: with at most 16 jobs queued and at most 16 slots in a panel's stack, every response fits a frame: at most 253 bytes,
the length byte true, and the sum 0 modulo 256. -/
def Obligations.ResponsesFitAFrame : Prop :=
  ∀ (s t : State) (c : Instr), isRequest c = true → s.turn c → s.QueueOk → (∀ p, (s.panel p).Ok) → Answers c s t →
    ∃ f, t.link.state = .responseReady ∧ t.link.buffer = some f ∧ f.length ≤ 253 ∧
      f.length = (f.getD 1 0).toNat + 3 ∧ byteSum f = 0

/-! ### Requests that report -/

/-- R19: READ_HINGE is answered OK in every hinge input state with the unit's present state, and changes nothing. -/
def Obligations.ReadHingeReports : Prop :=
  ∀ s : State, s.turn .readHinge →
    Answers .readHinge s (s.answered .ok
      ([s.hinge.input.code] ++ natHalf s.hinge.lastRaw ++ natHalf s.hinge.angle ++ natHalf s.hinge.filtered ++
        natHalf s.hinge.motion ++
        [(if s.hinge.swinging then 1 else 0) ||| (if s.hinge.marginal then 2 else 0), byteOf s.hinge.good,
          byteOf s.hinge.bad, s.hinge.lastCause.code, byteOf s.hinge.lastGap.val]))

/-- R169: READ_STATUS is answered OK with the part's summary, in every state the link takes requests in, and changes nothing. -/
def Obligations.ReadStatusReports : Prop :=
  ∀ s : State, s.turn .readStatus →
    Answers .readStatus s (s.answered .ok
      [s.attn.flags.toByte, s.attn.mask.toByte, byteOf s.attn.threshold, s.posture.committed.code, s.hinge.input.code,
        (s.panel .p0).mode.code, (s.panel .p1).mode.code, byteOf s.queue.length,
        byteOf (allRecords.countP fun i => s.entry i ≠ .free),
        byteOf (allRecords.countP fun i => (s.entry i).marks ≠ .empty)])

/-- R75: READ_RULE is answered OK with an entry as stored, or with the built-in default for index 16; any other index is refused
with BAD_VALUE. It changes nothing. A rule entry's bytes are laid out as WRITE_RULE's. -/
def Obligations.ReadRuleReports : Prop :=
  ∀ (s : State) (index : Byte), s.turn (.readRule index) →
    (∀ n : Fin 16, n.val = index.toNat → Answers (.readRule index) s (s.answered .ok
      (index :: [bitByte (s.rules[n]).valid] ++ halfBytes (s.rules[n]).base ++ halfBytes (s.rules[n]).mask ++
        (s.rules[n]).targets.list.map Target.code ++ (s.rules[n]).fits.list.map Fit.code ++
        [(s.rules[n]).fallback.code, (s.rules[n]).mode.code, byteOf (s.rules[n]).deadline]))) ∧
    (index.toNat = 16 → Answers (.readRule index) s (s.answered .ok
      [16#8, 1#8, 0#8, 0#8, 0#8, 0#8, 4#8, 0#8, 0#8, 0#8, 2#8, 0#8, 0#8, 0#8, 0#8, 0#8, 0#8, 1#8, 20#8])) ∧
    (16 < index.toNat → Answers (.readRule index) s (s.answered .badValue []))

/-- R38, R121: READ_POSTURE and READ_QUEUE are answered OK with the classifier's state and with the jobs in queue order, remaining
times in milliseconds rounded up, and change nothing. -/
def Obligations.PostureAndQueueReports : Prop :=
  (∀ s : State, s.turn .readPosture →
    Answers .readPosture s (s.answered .ok
      ([s.posture.committed.code, s.posture.candidate.code, s.posture.dwell.code] ++
        natHalf (match s.posture.dwell with
          | .running t => (t - s.now + 999) / 1000
          | _ => 0) ++
        [byteOfBits [s.posture.disagreement, s.posture.switchUse, s.posture.debounced, s.posture.span,
          s.hinge.swinging], panelCode s.posture.front] ++ natHalf s.hinge.filtered))) ∧
  (∀ s : State, s.turn .readQueue →
    Answers .readQueue s (s.answered .ok (byteOf s.queue.length :: s.queue.flatMap fun j =>
      [byteOf j.handle.gen.val, byteOf j.handle.index.val, j.phase.code,
        panelMask (j.target.pieces.map TargetPiece.panel), bitByte j.next.isSome] ++
        natHalf (match j.waiting, j.expiry with
          | true, some t => (t - s.now + 999) / 1000
          | _, _ => 0))))

/-- R44, R63, R64: LOOKUP_SURFACE of a handle that names a record reports its 143 bytes, the handle and the state first; any other
handle is refused with BAD_HANDLE. FIND_SURFACES lists the first 16 records that match, from the cursor up, with the cursor to go on
from; a criterion out of range or a cursor above 39 is refused with BAD_VALUE. Neither changes anything. -/
def Obligations.LookupAndFindReport : Prop :=
  (∀ (s : State) (h : HandleField), s.turn (.lookupSurface h) →
    (∀ i : Fin 40, h.idx.toNat = i.val → s.entry i ≠ .free → h.gen.toNat = (s.gen i).val →
      ∃ payload, Answers (.lookupSurface h) s (s.answered .ok payload) ∧ payload.length = 143 ∧
        payload.take 3 = [h.gen, h.idx, (match s.entry i with
          | .used r => r.state.code
          | _ => 6#8)] ∧ payload = (s.entry i).bytes (s.handle i)) ∧
    ((∀ i : Fin 40, h.idx.toNat = i.val → s.entry i = .free ∨ h.gen.toNat ≠ (s.gen i).val) →
      Answers (.lookupSurface h) s (s.answered .badHandle []))) ∧
  (∀ (s : State) (kind cursor : Byte) (value : Word), s.turn (.findSurfaces kind value cursor) →
    (∀ c, criterionOf kind value = some c → cursor.toNat ≤ 39 →
      ∃ l : List (Fin 40),
        (∀ i, i ∈ l ↔ cursor.toNat ≤ i.val ∧ c.meets (s.entry i) = true) ∧ l.Pairwise (· < ·) ∧
        Answers (.findSurfaces kind value cursor) s (s.answered .ok
          (byteOf (l.take 16).length :: ((l.take 16).flatMap fun i => [byteOf (s.gen i).val, byteOf i.val]) ++
            [if 16 < l.length then byteOf ((l.getD 15 0).val + 1) else 0xFF#8]))) ∧
    (criterionOf kind value = none ∨ 39 < cursor.toNat →
      Answers (.findSurfaces kind value cursor) s (s.answered .badValue [])))

/-- R147, R156: READ_PANEL is answered OK with the panel's 22-byte header and 14 bytes for each slot of its live stack, and makes
the panel's fault cause empty; a panel other than 0 or 1 is refused with BAD_VALUE. Nothing else changes. The stack is reported as
it stands since the last frame start (R141: "The stack and the live configurations are reported by READ_PANEL as they stand since
the last frame start"), which the model reads as those of its slots that are still live (`State.liveStack`, log 26). -/
def Obligations.ReadPanelReports : Prop :=
  ∀ (s : State) (b : Byte), s.turn (.readPanel b) →
    (∀ p, b = panelCode p → Answers (.readPanel b) s
      ((s.modPanel p fun x => { x with fault := .empty }).answered .ok
        ([(s.panel p).mode.code,
            byteOfBits [(s.panel p).powerUpPending, (s.panel p).litDemand, (s.panel p).enabled, (s.panel p).warning,
              (s.panel p).pendPeriod.isSome, (s.panel p).pendLead.isSome]] ++
          natHalf (s.panel p).period ++ natHalf (s.panel p).lead ++ natHalf ((s.panel p).pendPeriod.getD 0) ++
          natHalf ((s.panel p).pendLead.getD 0) ++ natHalf (s.panel p).effective ++
          [s.shared.joined.code, byteOf (s.panel p).health, byteOf (s.panel p).attempts, (s.panel p).recovery.code,
            (s.panel p).capture.code, (s.panel p).fault.toByte, panelCode s.shared.lender, byteOf s.shared.lent,
            byteOf (if s.shared.lender = p then 8 - s.shared.lent else 8 + s.shared.lent),
            byteOf (s.liveStack p).length] ++
          (s.liveStack p).flatMap fun k => ((s.slot k).cfg?.elim [] fun c =>
            [byteOf k.val] ++ (((s.slot k).owner?).elim [] Handle.bytes) ++ c.dest.bytes ++
              [c.fetch.code, c.z, bitByte c.focus])))) ∧
    ((∀ p, b ≠ panelCode p) → Answers (.readPanel b) s (s.answered .badValue []))

/-- R68, R170, R171: READ_NOTICES reports up to 8 marked records, scanning from the cursor round the table; it clears the marks of
each, frees a RETIRED one's slot with its generation advanced by one modulo 16, moves the cursor past the last one reported, and
NOTICE follows. Every other record and every other block is as it was. -/
def Obligations.ReadNoticesReports : Prop :=
  ∀ s : State, s.turn .readNotices →
    ∃ (l : List (Fin 40)) (u : State),
      l = ((((List.range 40).map fun n => s.table.cursor + (Fin.ofNat 40 n)).filter fun i =>
        (s.entry i).marks ≠ .empty).take 8) ∧
      Answers .readNotices s (u.answered .ok (byteOf l.length :: l.flatMap fun i => (s.entry i).notice (s.handle i))) ∧
      (∀ i, u.entry i = if i ∈ l then (match s.entry i with
        | .used r => .used { r with marks := .empty }
        | _ => .free) else s.entry i) ∧
      (∀ i, u.gen i = if i ∈ l ∧ (s.entry i).isRetired then s.gen i + 1 else s.gen i) ∧
      u.table.cursor = (l.getLast?.elim s.table.cursor fun i => i + 1) ∧ u.table.focus = s.table.focus ∧
      u.attn = { s.attn with
        marked := allRecords.countP fun i => (u.entry i).marks ≠ .empty
        wantedInd := allRecords.any fun i => (u.entry i).marks.wanted
        flags := { s.attn.flags with
          notice := decide (s.attn.threshold ≤ allRecords.countP fun i => (u.entry i).marks ≠ .empty) ||
            allRecords.any fun i => (u.entry i).marks.wanted } } ∧
      u = { s with table := u.table, attn := u.attn }

/-! ### Requests that set -/

/-- R14, R20, R39: SET_CALIBRATION takes nine nondecreasing values of at most 3600 and sets the calibration re-seed pending mark;
SET_FILTER takes its values clamped, answers with those used, and sets the window re-fill pending mark when the sample interval
changes; SET_BANDS takes boundaries in order inside 0..3600 with H at most 200 and every band wider than 2H, clamps the dwell time
to 1000, and drops a dwell with the candidate back at the committed posture. Other values are refused with BAD_VALUE, and nothing
else changes. -/
def Obligations.HingeAndBandSettings : Prop :=
  (∀ (s : State) (points : Vector Half 9), s.turn (.setCalibration points) →
    ((∀ n : Fin 9, (points[n]).toNat ≤ 3600) → (∀ n : Fin 8, (points[n.val]).toNat ≤ (points[n.val + 1]).toNat) →
      Answers (.setCalibration points) s ({ s with hinge := { s.hinge with
        cal := Vector.ofFn fun n : Fin 9 => (points[n]).toNat, reseedPending := true } }.answered .ok [])) ∧
    (¬((∀ n : Fin 9, (points[n]).toNat ≤ 3600) ∧ ∀ n : Fin 8, (points[n.val]).toNat ≤ (points[n.val + 1]).toNat) →
      Answers (.setCalibration points) s (s.answered .badValue []))) ∧
  (∀ (s : State) (shift interval threshold silent limit : Byte), s.turn (.setFilter shift interval threshold silent limit) →
    ∀ k d m t n, k = min 5 shift.toNat → d = max 1 (min 32 interval.toNat) → m = max 1 threshold.toNat →
      t = max 2 (min 20 silent.toNat) → n = max 2 (min 32 limit.toNat) →
      Answers (.setFilter shift interval threshold silent limit) s ({ s with hinge := { s.hinge with
        shift := k, interval := d, threshold := m, silentMs := t, badLimit := n
        refillPending := s.hinge.refillPending || decide (d ≠ s.hinge.interval) } }.answered .ok
          [byteOf k, byteOf d, byteOf m, byteOf t, byteOf n])) ∧
  (∀ (s : State) (b1 b2 b3 b4 margin dwell : Half) (a1 a2 a3 a4 h : Nat), s.turn (.setBands b1 b2 b3 b4 margin dwell) →
      a1 = b1.toNat → a2 = b2.toNat → a3 = b3.toNat → a4 = b4.toNat → h = margin.toNat →
      (0 < a1 ∧ a1 < a2 ∧ a2 < a3 ∧ a3 < a4 ∧ a4 < 3600 ∧ h ≤ 200 ∧ 2 * h < a1 ∧ 2 * h < a2 - a1 ∧ 2 * h < a3 - a2 ∧
          2 * h < a4 - a3 ∧ 2 * h < 3600 - a4 →
        Answers (.setBands b1 b2 b3 b4 margin dwell) s ({ s with posture := { s.posture with
          b1 := a1, b2 := a2, b3 := a3, b4 := a4, margin := h, dwellMs := min 1000 dwell.toNat
          dwell := .idle, candidate := s.posture.committed } }.answered .ok
            (halfBytes b1 ++ halfBytes b2 ++ halfBytes b3 ++ halfBytes b4 ++ halfBytes margin ++
              natHalf (min 1000 dwell.toNat)))) ∧
      (¬(0 < a1 ∧ a1 < a2 ∧ a2 < a3 ∧ a3 < a4 ∧ a4 < 3600 ∧ h ≤ 200 ∧ 2 * h < a1 ∧ 2 * h < a2 - a1 ∧ 2 * h < a3 - a2 ∧
          2 * h < a4 - a3 ∧ 2 * h < 3600 - a4) →
        Answers (.setBands b1 b2 b3 b4 margin dwell) s (s.answered .badValue [])))

/-- R134, R145, R161: SET_REFRESH makes the clamped values pending, in JOINED the period on both panels; SET_POWER_TIMING takes its
values clamped, and running timers keep their expiry; SET_RECOVERY_MODE takes both modes, stops an OFFLINE panel's quiet timer when
the recovery mode becomes HOLD and starts it when it becomes AUTO with attempts below 3. A code out of range is refused with
BAD_VALUE. Nothing else changes. -/
def Obligations.PanelSettings : Prop :=
  (∀ (s : State) (b : Byte) (period lead : Half), s.turn (.setRefresh b period lead) →
    (∀ p a l, b = panelCode p → a = max 8000 (min 32000 period.toNat) → l = max 500 (min 4000 lead.toNat) →
      (s.shared.joined ≠ .joined → Answers (.setRefresh b period lead) s
        ((s.modPanel p fun x => { x with pendPeriod := some a, pendLead := some l }).answered .ok
          (natHalf a ++ natHalf l))) ∧
      (s.shared.joined = .joined → Answers (.setRefresh b period lead) s
        (((s.modPanel p fun x => { x with pendPeriod := some a, pendLead := some l }).modPanel (otherPanel p) fun x =>
          { x with pendPeriod := some a }).answered .ok (natHalf a ++ natHalf l)))) ∧
    ((∀ p, b ≠ panelCode p) → Answers (.setRefresh b period lead) s (s.answered .badValue []))) ∧
  (∀ (s : State) (rail rst train down off quiet : Half), s.turn (.setPowerTiming rail rst train down off quiet) →
    ∀ a b d e f g, a = max 1 (min 100 rail.toNat) → b = max 1 (min 100 rst.toNat) → d = max 10 (min 500 train.toNat) →
      e = max 1 (min 200 down.toNat) → f = min 2000 off.toNat → g = max 100 (min 5000 quiet.toNat) →
      Answers (.setPowerTiming rail rst train down off quiet) s ({ s with shared := { s.shared with
        tRail := a, tRst := b, tTrain := d, tDown := e, tOff := f, tQuiet := g } }.answered .ok
          (natHalf a ++ natHalf b ++ natHalf d ++ natHalf e ++ natHalf f ++ natHalf g))) ∧
  (∀ (s : State) (b r n : Byte), s.turn (.setRecoveryMode b r n) →
    (∀ p mode capture, b = panelCode p → r = RecoveryMode.code mode → n = CaptureMode.code capture →
      Answers (.setRecoveryMode b r n) s ((s.modPanel p fun x => { x with
        recovery := mode, capture := capture
        quietTimer :=
          if x.mode = .offline ∧ mode ≠ x.recovery then
            if mode = .auto ∧ x.attempts < 3 then some (s.now + 1000 * s.shared.tQuiet) else none
          else x.quietTimer }).answered .ok [r, n])) ∧
    ((∀ p, b ≠ panelCode p) ∨ (∀ mode, r ≠ RecoveryMode.code mode) ∨ (∀ capture, n ≠ CaptureMode.code capture) →
      Answers (.setRecoveryMode b r n) s (s.answered .badValue [])))

/-- R165: ATTN_ENABLE and ATTN_DISABLE turn on or off the mask bits of the flags named and no others, answer with the whole mask,
and change no flag; a set that names anything else is refused with BAD_VALUE. The line follows flags and mask (R164). The mask is
all on after a power-on reset and kept through a soft reset. -/
def Obligations.MaskRequests : Prop :=
  (∀ (s : State) (b : Byte), s.turn (.attnEnable b) →
    (b.getLsbD 7 = true → Answers (.attnEnable b) s (s.answered .badValue [])) ∧
    (b.getLsbD 7 = false → ∃ m : FlagSet, (∀ f, m.has f = (s.attn.mask.has f || (FlagSet.ofByte b).has f)) ∧
      Answers (.attnEnable b) s ({ s with attn := { s.attn with mask := m } }.answered .ok [m.toByte]))) ∧
  (∀ (s : State) (b : Byte), s.turn (.attnDisable b) →
    (b.getLsbD 7 = true → Answers (.attnDisable b) s (s.answered .badValue [])) ∧
    (b.getLsbD 7 = false → ∃ m : FlagSet, (∀ f, m.has f = (s.attn.mask.has f && !(FlagSet.ofByte b).has f)) ∧
      Answers (.attnDisable b) s ({ s with attn := { s.attn with mask := m } }.answered .ok [m.toByte]))) ∧
  (∀ s : State, s.attnLow = true ↔ ∃ f, s.attn.flags.has f = true ∧ s.attn.mask.has f = true) ∧
  (∀ f, State.reset.attn.mask.has f = true) ∧
  (∀ s t : State, s.accepting → Answers .reset s t → t.attn.mask = s.attn.mask)

/-- R166, R168: ACK_ATTENTION clears the flags named but NOTICE, which follows its level, answers with all seven flags, and is
refused with BAD_VALUE for a set that names anything else. Nothing else changes. -/
def Obligations.AckRequest : Prop :=
  ∀ (s : State) (b : Byte), s.turn (.ackAttention b) →
    (b.getLsbD 7 = true → Answers (.ackAttention b) s (s.answered .badValue [])) ∧
    (b.getLsbD 7 = false → ∃ fl : FlagSet,
      (∀ f, fl.has f = (s.attn.flags.has f && (decide (f = .notice) || !(FlagSet.ofByte b).has f))) ∧
      Answers (.ackAttention b) s ({ s with attn := { s.attn with flags := fl } }.answered .ok [fl.toByte]))

/-- R167: SET_NOTICE_THRESHOLD takes its value clamped to 1..8 and is never refused for it; NOTICE is evaluated at once: it is set
when that many records hold a mark, or any holds WANTED (R166). The threshold is 1 after a power-on reset and kept through a soft
reset. -/
def Obligations.ThresholdRequest : Prop :=
  (∀ (s : State) (v : Byte) (n : Nat), s.turn (.setNoticeThreshold v) → n = max 1 (min 8 v.toNat) →
    ∃ u : State, Answers (.setNoticeThreshold v) s (u.answered .ok [byteOf n]) ∧ u.attn.threshold = n ∧
      (u.attn.flags.notice = true ↔ n ≤ (allRecords.countP fun i => (s.entry i).marks ≠ .empty) ∨
        ∃ i, (s.entry i).marks.wanted = true) ∧
      (∀ f, f ≠ .notice → u.attn.flags.has f = s.attn.flags.has f) ∧ u.attn.mask = s.attn.mask ∧
      u = { s with attn := u.attn }) ∧
  State.reset.attn.threshold = 1 ∧
  (∀ s t : State, s.accepting → Answers .reset s t → t.attn.threshold = s.attn.threshold)

/-! ### Requests of the hinge and the posture -/

/-- R8, R9, R18, R29: HINGE_ENABLE. On, from DISABLED, enters ACQUIRING and makes the fold switch check; off, from any other state,
enters DISABLED; the state already in force is answered OK with nothing changed; any other value is refused with BAD_VALUE. -/
def Obligations.HingeEnableRequest : Prop :=
  ∀ (s : State) (b : Byte), s.turn (.hingeEnable b) →
    (2 ≤ b.toNat → Answers (.hingeEnable b) s (s.answered .badValue [])) ∧
    (b = 1 ∧ s.hinge.input ≠ .disabled ∨ b = 0 ∧ s.hinge.input = .disabled →
      Answers (.hingeEnable b) s (s.answered .ok [s.hinge.input.code])) ∧
    (∀ e : Ev, b = 1 → s.hinge.input = .disabled →
      e = (Ev.start { s.handed (.hingeEnable b) with hinge := { s.hinge with
        enabled := true, input := .acquiring, recv := .idleWait
        silentTimer := some (s.now + s.hinge.silentMs * 1000) } }).foldCheck →
      e.s.EngineFrame e.done ∧ Answers (.hingeEnable b) s (e.done.answered .ok [1])) ∧
    (∀ v : State, b = 0 → s.hinge.input ≠ .disabled →
      v = { s with
        hinge := { s.hinge with
          enabled := false, input := .disabled, recv := .idleWait, cellTimer := none, silentTimer := none
          good := 0, bad := 0, lastCause := .none, marginal := false, swinging := false
          expected := none, reseedPending := false, refillPending := false }
        posture :=
          if s.hinge.input = .tracking then
            { s.posture with dwell := .idle, candidate := s.posture.committed, disagreement := false }
          else { s.posture with disagreement := false }
        link := (s.handed (.hingeEnable b)).link } →
      v.EngineFrame v.settled ∧ Answers (.hingeEnable b) s (v.settled.answered .ok [0]))

/-- R32, R37, R40, R41, R42: SET_SWITCH takes its two values and makes the fold switch check, or clears the disagreement when the
use is off; FORCE_POSTURE commits a posture while the input is DISABLED and is refused with BUSY otherwise; SET_FRONT and SET_SPAN
are a plan change, which re-resolves every record once (`resolveAll`, log 16) and is answered ACCEPTED, or OK for the value in
force. A code out of range is refused with BAD_VALUE. -/
def Obligations.PostureRequests : Prop :=
  (∀ (s : State) (b : Byte) (limit : Half) (n : Nat), s.turn (.setSwitch b limit) → n = min 900 limit.toNat →
    (2 ≤ b.toNat → Answers (.setSwitch b limit) s (s.answered .badValue [])) ∧
    (∀ e : Ev, b = 1 → e = (Ev.start { s.handed (.setSwitch b limit) with posture := { s.posture with
        switchUse := true, agreeLimit := n } }).foldCheck →
      e.s.EngineFrame e.done ∧ Answers (.setSwitch b limit) s (e.done.answered .ok (b :: natHalf n))) ∧
    (∀ v : State, b = 0 → v = { s.handed (.setSwitch b limit) with posture := { s.posture with
        switchUse := false, agreeLimit := n, disagreement := false } } →
      v.EngineFrame v.settled ∧ Answers (.setSwitch b limit) s (v.settled.answered .ok (b :: natHalf n)))) ∧
  (∀ (s : State) (b : Byte), s.turn (.forcePosture b) →
    ((∀ p, b ≠ Posture.code p) → Answers (.forcePosture b) s (s.answered .badValue [])) ∧
    (∀ p, b = Posture.code p → s.hinge.input ≠ .disabled → Answers (.forcePosture b) s (s.answered .busy [])) ∧
    (∀ p e, b = Posture.code p → s.hinge.input = .disabled → e = (Ev.start (s.handed (.forcePosture b))).commit p →
      e.s.EngineFrame e.done ∧ Answers (.forcePosture b) s (e.done.answered .ok [b]))) ∧
  (∀ (s : State) (b : Byte), s.turn (.setFront b) →
    ((∀ p, b ≠ panelCode p) → Answers (.setFront b) s (s.answered .badValue [])) ∧
    (b = panelCode s.posture.front → Answers (.setFront b) s (s.answered .ok [])) ∧
    (∀ p e, b = panelCode p → p ≠ s.posture.front →
      e = (Ev.start { s.handed (.setFront b) with posture := { s.posture with front := p } }).applyPlan →
      e.s.EngineFrame { e with resolveAll := true }.done ∧
      Answers (.setFront b) s ({ e with resolveAll := true }.done.answered .accepted []))) ∧
  (∀ (s : State) (b : Byte), s.turn (.setSpan b) →
    (2 ≤ b.toNat → Answers (.setSpan b) s (s.answered .badValue [])) ∧
    (b = bitByte s.posture.span → Answers (.setSpan b) s (s.answered .ok [])) ∧
    (∀ on e, b = bitByte on → on ≠ s.posture.span →
      e = (Ev.start { s.handed (.setSpan b) with posture := { s.posture with span := on } }).applyPlan →
      e.s.EngineFrame { e with resolveAll := true }.done ∧
      Answers (.setSpan b) s ({ e with resolveAll := true }.done.answered .accepted [])))

/-- R30, R31, R123: a commit of another posture sets it with the candidate and an idle dwell, raises POSTURE, gives each panel its
plan-lit indication, clears every move override and sets the mark by which the event re-resolves every record once, after its other
effects (`resolveAll`, log 16); a commit of the posture in force does nothing. The plan: both panels lit in BOOK, FLAT and TENT, the
front panel in FOLDED; the panel that is not the front one rotated in TENT; joined asked for in FLAT with span on. A plan reaches
panel 0, then panel 1, and the joined mode conditions are evaluated (R135), at each commit and each plan change: when they hold,
NOT_JOINED becomes LOCK_PENDING; when they fail, LOCK_PENDING becomes NOT_JOINED and nothing is re-resolved for it, and JOINED
becomes NOT_JOINED with every record re-resolved (R137, `resolveAll`, log 16). -/
def Obligations.CommitAndPlan : Prop :=
  (∀ (e : Ev), e.commit e.s.posture.committed = e) ∧
  (∀ (e : Ev) (p : Posture), p ≠ e.s.posture.committed →
    (e.commit p).s.posture = { e.s.posture with committed := p, candidate := p, dwell := .idle } ∧
    (e.commit p).s.attn.flags.posture = true ∧ (e.commit p).resolveAll = true ∧
    (∀ q, ((e.commit p).s.panel q).planLit = true ↔
      p = .book ∨ p = .flat ∨ p = .tent ∨ p = .folded ∧ q = e.s.posture.front) ∧
    (∀ i r, (e.commit p).s.record? i = some r → r.moveTo = none) ∧
    (e.commit p).s.hinge = e.s.hinge ∧ (e.commit p).s.rules = e.s.rules ∧ (e.commit p).s.link = e.s.link ∧
    (e.commit p).s.table.gens = e.s.table.gens ∧ (e.commit p).s.table.focus = e.s.table.focus ∧
    (e.commit p).s.now = e.s.now ∧ (e.commit p).s.attn.mask = e.s.attn.mask) ∧
  (∀ (c : Classifier) (q : PanelId),
    (c.planLit q = true ↔ c.committed = .book ∨ c.committed = .flat ∨ c.committed = .tent ∨
      c.committed = .folded ∧ q = c.front) ∧
    (c.rotated? = some q ↔ c.committed = .tent ∧ q ≠ c.front) ∧
    (c.join = true ↔ c.committed = .flat ∧ c.span = true)) ∧
  (∀ (e : Ev) (q : PanelId), (e.applyPlan.s.panel q).planLit = e.s.posture.planLit q ∧ e.s.SameBlocks e.applyPlan.s) ∧
  (∀ e : Ev, e.applyPlan = ((e.changeDemand .p0 fun x => { x with planLit := e.s.posture.planLit .p0 }).changeDemand .p1
    fun x => { x with planLit := e.s.posture.planLit .p1 }).evalJoined) ∧
  (∀ (e : Ev) (holds : Prop),
    (holds ↔ e.s.posture.committed = .flat ∧ e.s.posture.span = true ∧ ∀ p, (e.s.panel p).inService = true) →
    (holds → e.s.shared.joined = .notJoined →
      e.evalJoined = { e with s := { e.s with shared := { e.s.shared with joined := .lockPending } } }) ∧
    (¬holds → e.s.shared.joined = .lockPending →
      e.evalJoined = { e with s := { e.s with shared := { e.s.shared with joined := .notJoined } } }) ∧
    (¬holds → e.s.shared.joined = .joined → e.evalJoined =
      { e with s := { e.s with shared := { e.s.shared with joined := .notJoined } }, resolveAll := true }) ∧
    (holds ∧ e.s.shared.joined ≠ .notJoined ∨ ¬holds ∧ e.s.shared.joined = .notJoined → e.evalJoined = e)) ∧
  (∀ (e e' : Ev) (holds : Prop), e' = e.applyPlan ∨ (∃ p, p ≠ e.s.posture.committed ∧ e' = e.commit p) →
    (holds ↔ e'.s.posture.committed = .flat ∧ e'.s.posture.span = true ∧ ∀ p, (e'.s.panel p).inService = true) →
    (holds → e.s.shared.joined = .notJoined → e'.s.shared = { e.s.shared with joined := .lockPending }) ∧
    (holds → e.s.shared.joined ≠ .notJoined → e'.s.shared = e.s.shared) ∧
    (¬holds → e'.s.shared = { e.s.shared with joined := .notJoined }) ∧
    (¬holds → e.s.shared.joined = .joined → e'.resolveAll = true))

/-- R34, R35: the fold switch check holds or commits CLOSED, or sets the disagreement when a TRACKING angle is above the agree
limit, with HINGE at its onset; it is not made while the input is DISABLED, the switch out of use or its level released. -/
def Obligations.FoldSwitchCheck : Prop :=
  ∀ e : Ev,
    (e.s.posture.switchHeld = false ∨ e.s.hinge.input = .disabled → e.foldCheck = e) ∧
    (e.s.posture.switchHeld = true → (e.s.hinge.input = .acquiring ∨ e.s.hinge.input = .lost ∨
        e.s.hinge.input = .tracking ∧ e.s.hinge.filtered ≤ e.s.posture.agreeLimit) →
      e.foldCheck.s.posture = { e.s.posture with
        committed := .closed, candidate := .closed, dwell := .idle, disagreement := false } ∧
      e.foldCheck.s.attn.flags.hinge = e.s.attn.flags.hinge ∧ e.foldCheck.s.hinge = e.s.hinge ∧
      (e.foldCheck.s.attn.flags.posture = true ↔
        e.s.attn.flags.posture = true ∨ e.s.posture.committed ≠ .closed)) ∧
    (e.s.posture.switchHeld = true → e.s.hinge.input = .tracking → e.s.posture.agreeLimit < e.s.hinge.filtered →
      e.foldCheck = { e with s := { e.s with
        posture := { e.s.posture with
          dwell := .idle, candidate := e.s.posture.committed, disagreement := true }
        attn := { e.s.attn with flags := { e.s.attn.flags with
          hinge := e.s.attn.flags.hinge || !e.s.posture.disagreement } } } })

/-- R25, R26, R27: a good frame passed to the classifier is the fold switch check's while the switch is held; with UNKNOWN committed
it commits the plain band of F when not swinging; otherwise the candidate of R24 cancels, keeps, commits or starts a dwell. -/
def Obligations.EvaluationOfAFrame : Prop :=
  ∀ (e : Ev) (cand : Posture), cand = e.s.posture.candidateFor e.s.hinge.filtered →
    (e.s.posture.switchHeld = true → e.evaluate = e.foldCheck) ∧
    (e.s.posture.switchHeld = false → e.s.posture.committed = .unknown → e.s.hinge.swinging = false →
      e.evaluate = e.commit (e.s.posture.plainBand e.s.hinge.filtered)) ∧
    (e.s.posture.switchHeld = false → e.s.posture.committed = .unknown → e.s.hinge.swinging = true →
      e.evaluate = { e with s := { e.s with posture := { e.s.posture with
        candidate := e.s.posture.plainBand e.s.hinge.filtered, dwell := .idle } } }) ∧
    (e.s.posture.switchHeld = false → e.s.posture.committed ≠ .unknown → cand = e.s.posture.committed →
      e.evaluate = { e with s := { e.s with posture := { e.s.posture with candidate := cand, dwell := .idle } } }) ∧
    (∀ t, e.s.posture.switchHeld = false → e.s.posture.committed ≠ .unknown → cand ≠ e.s.posture.committed →
      cand = e.s.posture.candidate → e.s.posture.dwell = .running t → e.evaluate = e) ∧
    (e.s.posture.switchHeld = false → e.s.posture.committed ≠ .unknown → cand ≠ e.s.posture.committed →
      cand = e.s.posture.candidate → e.s.posture.dwell = .deferred →
      e.evaluate = if e.s.hinge.swinging then e else e.commit cand) ∧
    (e.s.posture.switchHeld = false → e.s.posture.committed ≠ .unknown → cand ≠ e.s.posture.committed →
      e.s.posture.dwell = .idle ∨ cand ≠ e.s.posture.candidate → 0 < e.s.posture.dwellMs →
      e.evaluate = { e with s := { e.s with posture := { e.s.posture with
        candidate := cand, dwell := .running (e.s.now + e.s.posture.dwellMs * 1000) } } }) ∧
    (e.s.posture.switchHeld = false → e.s.posture.committed ≠ .unknown → cand ≠ e.s.posture.committed →
      e.s.posture.dwell = .idle ∨ cand ≠ e.s.posture.candidate → e.s.posture.dwellMs = 0 →
      (e.evaluate).s.posture =
        if e.s.hinge.swinging then { e.s.posture with candidate := cand, dwell := .deferred }
        else { e.s.posture with committed := cand, candidate := cand, dwell := .idle })

/-! ### Requests of the surface table -/

/-- R51, R47: CREATE_SURFACE is refused with BAD_VALUE for a home panel, flags byte or descriptor out of range, then with NO_ROOM
when no slot is FREE; otherwise the lowest FREE slot takes the record, which holds the buffer given, it is re-resolved, and the
handle is answered, with ACCEPTED or OK as R50 gives. -/
def Obligations.CreateSurfaceRequest : Prop :=
  ∀ (s : State) (cls owner : Half) (home z flags : Byte) (fill : Word) (buffer : Option Descriptor),
    s.turn (.createSurface cls owner home z flags fill buffer) →
    (2 ≤ home.toNat ∨ 4 ≤ flags.toNat ∨ (∃ d, buffer = some d ∧ descriptorBad d = true) →
      Answers (.createSurface cls owner home z flags fill buffer) s (s.answered .badValue [])) ∧
    (∀ p, home = panelCode p → flags.toNat < 4 → (∀ d, buffer = some d → descriptorBad d = false) →
      ((∀ i, s.entry i ≠ .free) →
        Answers (.createSurface cls owner home z flags fill buffer) s (s.answered .noRoom [])) ∧
      (∀ i : Fin 40, s.entry i = .free → (∀ j < i, s.entry j ≠ .free) →
        ∀ (v : State) (e : Ev), e = (Ev.start v).reresolve i → v =
          ({ s.handed (.createSurface cls owner home z flags fill buffer) with
            offers := if buffer.isSome then s.offers + 1 else s.offers }.setEntry i (.used {
              state := if buffer.isSome then .parked else .new, cls := cls, owner := owner, home := p, z := z
              redraw := flags.getLsbD 0, placeholder := flags.getLsbD 1, fill := fill
              current := buffer.map fun d => ⟨s.offers, d⟩, pending := none, wanted := none, released := none
              pieces := [], rect := none, variants := [], moveTo := none, marks := .empty, staleContent := false
              resPending := false })) →
          v.EngineFrame e.done ∧
          Answers (.createSurface cls owner home z flags fill buffer) s (e.answer [byteOf (s.gen i).val, byteOf i.val])))

/-- R53, R55, R104, R107: OFFER_BUFFER to a record that is not RETIRING, in the order of its table: BAD_VALUE, BUSY, SIZE_MISMATCH;
an offer that matches the wanted size, or that fits a shown record, becomes pending and is checked for currency (R55); an offer to a
NEW or PARKED record becomes current. A handle that names no record is refused with BAD_HANDLE, one that names a RETIRING or RETIRED
record with RETIRING. The check of R55: a pending buffer becomes current, STALE_CONTENT is cleared and the old buffer released, when
the record is not RETIRING and no slot it owns names the current buffer, or shows FILL where there is none, live or staged. An offer
is answered ACCEPTED when the buffer is pending at the end, or when the re-resolution of a NEW record passed a change, and OK
otherwise. A matching offer settles the buffer wait of the record's job (R104): the deadline timer stops, no STALE is set, and a job
in PREPARING whose target panels are all in service enters SLOT_WAIT, with a grant walk in the same request (R107). -/
def Obligations.OfferBufferRequest : Prop :=
  (∀ (s : State) (h : HandleField) (d : Descriptor) (b : Buffer), s.turn (.offerBuffer h d) → b = ⟨s.offers, d⟩ →
    (s.checkHandle h = none → Answers (.offerBuffer h d) s (s.answered .badHandle [])) ∧
    (∀ i, s.checkHandle h = some i → (∀ r, s.entry i = .used r → r.state = .retiring) →
      Answers (.offerBuffer h d) s (s.answered .retiring [])) ∧
    (∀ i r, s.checkHandle h = some i → s.entry i = .used r → r.state ≠ .retiring →
      (descriptorBad d = true → Answers (.offerBuffer h d) s (s.answered .badValue [])) ∧
      (descriptorBad d = false → r.pending ≠ none → Answers (.offerBuffer h d) s (s.answered .busy [])) ∧
      (descriptorBad d = false → r.pending = none →
        (∃ w, r.wanted = some w ∧ w ≠ b.size) ∨
          r.wanted = none ∧ (r.state = .placed ∨ r.state = .moving) ∧ (∃ t, r.rect = some t ∧ t.size ≠ b.size) →
        Answers (.offerBuffer h d) s (s.answered .sizeMismatch [])) ∧
      (descriptorBad d = false → r.pending = none → ∀ (v0 : State) (u : Ev → State),
        v0 = { s.handed (.offerBuffer h d) with offers := s.offers + 1 } →
        (∀ e, u e = e.done.answered (if (e.done.record? i).bind Record.pending ≠ none then .accepted else .ok)
          [e.done.recordCode i]) →
        (∀ (v : State) (e : Ev), r.wanted = some b.size →
          v = (v0.setEntry i (.used { r with wanted := none, pending := some b })).checkCurrency i →
          e = (Ev.start v).settleWait i →
          v.EngineFrame e.done ∧ Answers (.offerBuffer h d) s (u e)) ∧
        (∀ e0 e : Ev, r.wanted = none → r.state = .placed ∨ r.state = .moving → (∀ t, r.rect = some t → t.size = b.size) →
          e0 = (Ev.start (v0.setEntry i (.used { r with pending := some b }))).restage i (SlotConfig.withBuffer b) →
          e = { e0 with s := e0.s.checkCurrency i } →
          e.s.EngineFrame e.done ∧ Answers (.offerBuffer h d) s (u e)) ∧
        (∀ (v : State) (e : Ev), r.wanted = none → r.state = .new ∨ r.state = .parked →
          v = v0.setEntry i (.used { r with
            state := .parked, current := some b, pending := none, staleContent := false
            released := (match r.current with
              | some old => some old.desc.tag
              | none => r.released)
            marks := { r.marks with released := r.marks.released || r.current.isSome } }) →
          e = (if r.state = .new then (Ev.start v).reresolve i else Ev.start v) →
          v.EngineFrame e.done ∧ Answers (.offerBuffer h d) s (e.answer [e.done.recordCode i]))))) ∧
  (∀ (e : Ev) (i : Fin 40),
    (e.s.job? i = none → e.settleWait i = e) ∧
    (∀ (j : Job) (ready : Prop), e.s.job? i = some j →
      (ready ↔ j.phase = .preparing ∧ ∀ t ∈ j.target.pieces, (e.s.panel t.panel).inService = true) →
      ∃ q, (ready → e.settleWait i = { e with s := { e.s with queue := q }, walk := true }) ∧
        (¬ready → e.settleWait i = { e with s := { e.s with queue := q } }) ∧
        q.map Job.handle = e.s.queue.map Job.handle ∧
        (ready → (e.settleWait i).s.job? i = some { j with waiting := false, expiry := none, phase := .slotWait }) ∧
        (¬ready → (e.settleWait i).s.job? i = some { j with waiting := false, expiry := none }) ∧
        ∀ m, m ≠ i → (e.settleWait i).s.job? m = e.s.job? m)) ∧
  (∀ (s : State) (i : Fin 40) (r : Record) (b : Buffer) (refers : SlotConfig → Prop), s.entry i = .used r →
    (∀ c, refers c ↔ (match r.current with
      | some old => ∃ x, c.buffer = some x ∧ x.serial = old.serial
      | none => c.fetch = .fill)) →
    (r.pending = none → s.checkCurrency i = s) ∧
    (r.state = .retiring → s.checkCurrency i = s) ∧
    (r.pending = some b → r.state ≠ .retiring →
      ((∃ k o c due st, refers c ∧ o.index = i ∧ (s.slot k = .live o c st ∨
          (∃ c', s.slot k = .live o c' (some (.full c due))) ∨ s.slot k = .claimed o (some (.full c due)))) →
        s.checkCurrency i = s) ∧
      ((∀ k o c due st, o.index = i → (s.slot k = .live o c st ∨
          (∃ c', s.slot k = .live o c' (some (.full c due))) ∨ s.slot k = .claimed o (some (.full c due))) → ¬refers c) →
        s.checkCurrency i = s.setEntry i (.used { r with
          current := some b, pending := none, staleContent := false
          released := (match r.current with
            | some old => some old.desc.tag
            | none => r.released)
          marks := { r.marks with released := r.marks.released || r.current.isSome } }))))

/-- R50, R57, R81: AMEND_SURFACE stores exactly the fields its presence byte names, restages the record's slots for a change of z
rank or fill colour and re-resolves it for a change of home or class or a PLACEHOLDER set; MOVE_SURFACE sets the override or, with
AUTO, clears it, and re-resolves the record. Each is answered ACCEPTED when it staged or passed a change to the engine, and OK
otherwise; values out of range are refused with BAD_VALUE, a handle that names no record with BAD_HANDLE, a RETIRING or RETIRED
record with RETIRING. What a re-resolution is (R90), and the resolution it computes: the governing rule (R73), the source (R76,
R77), the target area with its dark fallback (R78, R79), the rectangle fitted (R80), the buffer wanted (R88), and PARK with UNKNOWN
committed, without an area or without a piece (R76, R79, R85). -/
def Obligations.AmendAndMoveRequests : Prop :=
  (∀ (s : State) (h : HandleField) (presence z home : Byte) (cls owner : Half) (flags : Byte) (fill : Word),
    s.turn (.amendSurface h presence z home cls owner flags fill) →
    (s.checkHandle h = none →
      Answers (.amendSurface h presence z home cls owner flags fill) s (s.answered .badHandle [])) ∧
    (∀ i, s.checkHandle h = some i → (∀ r, s.entry i = .used r → r.state = .retiring) →
      Answers (.amendSurface h presence z home cls owner flags fill) s (s.answered .retiring [])) ∧
    (∀ i r, s.checkHandle h = some i → s.entry i = .used r → r.state ≠ .retiring →
      (presence.getLsbD 7 = true ∨ presence.getLsbD 1 = true ∧ 2 ≤ home.toNat ∨
          (presence.getLsbD 4 = true ∨ presence.getLsbD 5 = true) ∧ 4 ≤ flags.toNat →
        Answers (.amendSurface h presence z home cls owner flags fill) s (s.answered .badValue [])) ∧
      (∀ (p : PanelId) (new : Record) (v : State) (e e' : Ev), presence.getLsbD 7 = false →
        (presence.getLsbD 1 = true → home = panelCode p) →
        (presence.getLsbD 4 = true ∨ presence.getLsbD 5 = true → flags.toNat < 4) →
        new = { r with
          z := if presence.getLsbD 0 then z else r.z
          home := if presence.getLsbD 1 then p else r.home
          cls := if presence.getLsbD 2 then cls else r.cls
          owner := if presence.getLsbD 3 then owner else r.owner
          redraw := if presence.getLsbD 4 then flags.getLsbD 0 else r.redraw
          placeholder := if presence.getLsbD 5 then flags.getLsbD 1 else r.placeholder
          fill := if presence.getLsbD 6 then fill else r.fill
          resPending := r.resPending &&
            !(decide (r.state = .new) && presence.getLsbD 5 && !flags.getLsbD 1) } →
        v = (s.handed (.amendSurface h presence z home cls owner flags fill)).setEntry i (.used new) →
        e = (if new.z ≠ r.z ∨ new.fill ≠ r.fill then
          (Ev.start v).restage i fun c => { c with z := new.z, fill := new.fill } else Ev.start v) →
        e' = (if new.home ≠ r.home ∨ new.cls ≠ r.cls ∨ new.placeholder = true ∧ r.placeholder = false then e.reresolve i
          else e) →
        v.EngineFrame e'.done ∧
        Answers (.amendSurface h presence z home cls owner flags fill) s (e'.answer [])))) ∧
  (∀ (s : State) (h : HandleField) (target : Byte) (rect : Option RectField), s.turn (.moveSurface h target rect) →
    (s.checkHandle h = none → Answers (.moveSurface h target rect) s (s.answered .badHandle [])) ∧
    (∀ i, s.checkHandle h = some i → (∀ r, s.entry i = .used r → r.state = .retiring) →
      Answers (.moveSurface h target rect) s (s.answered .retiring [])) ∧
    (∀ i r, s.checkHandle h = some i → s.entry i = .used r → r.state ≠ .retiring →
      (6 ≤ target.toNat ∨ target = 5 ∧ rect ≠ none ∨ (∃ f, rect = some f ∧ rectBad (rectOf f) = true) →
        Answers (.moveSurface h target rect) s (s.answered .badValue [])) ∧
      (∀ (m : Option MoveOverride) (v : State), (∃ t, target = Target.code t ∧ (∀ f, rect = some f → rectBad (rectOf f) = false) ∧
            m = some ⟨t, rect.map rectOf⟩) ∨ target = 5 ∧ rect = none ∧ m = none →
        v = (s.handed (.moveSurface h target rect)).setEntry i (.used { r with moveTo := m }) →
        v.EngineFrame ((Ev.start v).reresolve i).done ∧
        Answers (.moveSurface h target rect) s (((Ev.start v).reresolve i).answer [])))) ∧
  (∀ (e : Ev) (i : Fin 40) (f : SlotConfig → SlotConfig),
    e.restage i f = { e with s := { e.s with slots := (e.restage i f).s.slots }, changed := (e.restage i f).changed } ∧
    (∀ k, (e.restage i f).s.slot k = (match e.s.slot k with
      | .claimed o (some (.full c due)) => .claimed o (some (if o.index = i then .full (f c) false else .full c due))
      | .live o c none => .live o c (if o.index = i then some (.full (f c) false) else none)
      | .live o c (some (.full d due)) => .live o c (some (if o.index = i then .full (f d) false else .full d due))
      | x => x)) ∧
    ((e.restage i f).changed = true ↔ e.changed = true ∨ ∃ k o c d due, o.index = i ∧
      (e.s.slot k = .claimed o (some (.full d due)) ∨ e.s.slot k = .live o c none ∨
        e.s.slot k = .live o c (some (.full d due))))) ∧
  (∀ (e : Ev) (i : Fin 40),
    ((∀ r, e.s.entry i = .used r → r.state = .retiring ∨ r.state = .new ∧ r.placeholder = false) → e.reresolve i = e) ∧
    (∀ (r : Record) (bound : Bool), e.s.entry i = .used r → r.state ≠ .retiring → (r.state = .new → r.placeholder = true) →
      bound = (match e.s.job? i with
        | some j => (e.s.resolve i r).sameTarget (match j.next with
          | some n => n
          | none => j.target)
        | none => (e.s.resolve i r).samePlacement r) →
      (bound = true → r.resPending = false → e.reresolve i = e) ∧
      (bound = false ∨ r.resPending = true → e.reresolve i = e.pass i r (e.s.resolve i r)))) ∧
  (∀ (s : State) (cls : Half) (fits : Fin 16 → Prop),
    (∀ n, fits n ↔ (s.rules[n]).valid = true ∧ (s.rules[n]).base = cls &&& (s.rules[n]).mask) →
    (∀ n, fits n → (∀ m < n, ¬fits m) → s.governing cls = s.rules[n]) ∧
    ((∀ n, ¬fits n) → s.governing cls = {
      valid := true, base := 0, mask := 0, targets := ⟨.park, .home, .home, .home, .front⟩
      fits := ⟨.full, .full, .full, .full, .full⟩, fallback := .move, mode := .brk, deadline := 20 })) ∧
  (∀ (s : State) (i : Fin 40) (r : Record) (g : Rule) (src : Source), src = s.source i r g → r.VariantsOk →
    (s.posture.committed = .folded → s.isFocus i = true → src = ⟨.front, .full, .move⟩) ∧
    (s.posture.committed ≠ .folded ∨ s.isFocus i = false →
      (∀ m, r.moveTo = some m → src = ⟨m.target, (match m.rect with
        | some x => .given x
        | none => .full), g.fallback⟩) ∧
      (∀ w ∈ r.variants, r.moveTo = none → w.postures.has s.posture.committed = true →
        src = ⟨w.target, (match w.rect with
          | some x => .given x
          | none => .full), w.fallback⟩) ∧
      (r.moveTo = none → (∀ w ∈ r.variants, w.postures.has s.posture.committed = false) →
        ∀ (t : Target) (f : Fit),
          (s.posture.committed = .closed ∧ t = g.targets.closed ∧ f = g.fits.closed ∨
            s.posture.committed = .book ∧ t = g.targets.book ∧ f = g.fits.book ∨
            s.posture.committed = .flat ∧ t = g.targets.flat ∧ f = g.fits.flat ∨
            s.posture.committed = .tent ∧ t = g.targets.tent ∧ f = g.fits.tent ∨
            s.posture.committed = .folded ∧ t = g.targets.folded ∧ f = g.fits.folded) →
          src = ⟨t, (match f with
            | .full => .full
            | .keep => .keep), g.fallback⟩))) ∧
  (∀ (s : State) (r : Record) (src : Source) (dark : PanelId → Prop),
    (∀ p, dark p ↔ (s.panel p).planLit = false ∨ (s.panel p).enabled = false ∨ (s.panel p).mode = .offline) →
    (src.target = .park → s.area r src = none) ∧
    (src.target = .span → s.shared.joined = .joined → ¬dark .p0 → ¬dark .p1 → s.area r src = some .canvas) ∧
    (∀ p, (src.target = .home ∧ p = r.home ∨ src.target = .other ∧ p = otherPanel r.home ∨
          src.target = .front ∧ p = s.posture.front ∨
          src.target = .span ∧ (s.shared.joined ≠ .joined ∨ dark .p0 ∨ dark .p1) ∧ p = r.home) →
      (¬dark p → s.area r src = some (.panel p)) ∧
      (dark p → src.fallback = .move → ¬dark (otherPanel p) → s.area r src = some (.panel (otherPanel p))) ∧
      (dark p → src.fallback = .park ∨ dark (otherPanel p) → s.area r src = none))) ∧
  (∀ (g : Shared) (a : Area) (whole given : Rect) (current : Option Rect),
    whole = ⟨0, 0, if a = .canvas then 2 * g.width + g.seam else g.width, g.height⟩ →
    fitRect g a current .full = whole ∧ fitRect g a none .keep = whole ∧
    (∀ c, current = some c → fitRect g a current .keep = c) ∧ fitRect g a current (.given given) = given) ∧
  (∀ (r : Record) (t : Rect) (z : Size), r.wants t = some z ↔ r.redraw = true ∧ z = ⟨t.w, t.h⟩ ∧
    ∃ b : Buffer, (r.pending = some b ∨ r.pending = none ∧ r.current = some b) ∧
      ¬(t.w = b.desc.width.toNat ∧ t.h = b.desc.height.toNat)) ∧
  (∀ (s : State) (i : Fin 40) (r : Record) (g : Rule) (src : Source) (res : Resolution), g = s.governing r.cls →
    src = s.source i r g → res = s.resolve i r → res.mode = g.mode ∧ res.deadlineMs = 10 * g.deadline ∧
    (s.posture.committed = .unknown ∨ s.area r src = none → res.shown = none ∧ res.wanted = none) ∧
    (∀ a rect pieces, s.posture.committed ≠ .unknown → s.area r src = some a →
      rect = fitRect s.shared a r.rect src.rect → pieces = piecesOf s.shared s.posture.rotated? a rect →
      (pieces = [] → res.shown = none ∧ res.wanted = none) ∧
      (pieces ≠ [] → res.shown = some ⟨a, rect, pieces⟩ ∧ res.wanted = r.wants rect)))

/-- R59, R60: SET_VARIANT adds a variant, taking its postures from the others and dropping those left empty, and answers with the
record's count and the free pool entries; it is refused with BAD_VALUE for a value out of range and with NO_ROOM past 4 variants or
an empty pool. CLEAR_VARIANTS empties the list. A change re-resolves the record, and is answered ACCEPTED or OK as R50 gives. -/
def Obligations.VariantRequests : Prop :=
  (∀ (s : State) (h : HandleField) (postures target fallback : Byte) (rect : Option RectField),
    s.turn (.setVariant h postures target fallback rect) →
    (s.checkHandle h = none → Answers (.setVariant h postures target fallback rect) s (s.answered .badHandle [])) ∧
    (∀ i, s.checkHandle h = some i → (∀ r, s.entry i = .used r → r.state = .retiring) →
      Answers (.setVariant h postures target fallback rect) s (s.answered .retiring [])) ∧
    (∀ i r, s.checkHandle h = some i → s.entry i = .used r → r.state ≠ .retiring →
      (postureByteBad postures = true ∨ 5 ≤ target.toNat ∨ 2 ≤ fallback.toNat ∨
          (∃ f, rect = some f ∧ rectBad (rectOf f) = true) →
        Answers (.setVariant h postures target fallback rect) s (s.answered .badValue [])) ∧
      (∀ t fb kept, postureByteBad postures = false → target = Target.code t → fallback = Fallback.code fb →
        (∀ f, rect = some f → rectBad (rectOf f) = false) →
        kept = ((r.variants.map fun v =>
          { v with postures := v.postures.without (PostureSet.ofByte postures) }).filter fun v => !v.postures.isEmpty) →
        (4 ≤ kept.length ∨ s.freeVariants = 0 ∧ kept.length = r.variants.length →
          Answers (.setVariant h postures target fallback rect) s (s.answered .noRoom [])) ∧
        (kept.length < 4 → 0 < s.freeVariants ∨ kept.length < r.variants.length →
          ∀ (v : State) (e : Ev), e = (Ev.start v).reresolve i →
            v = (s.handed (.setVariant h postures target fallback rect)).setEntry i (.used { r with
              variants := kept ++ [⟨PostureSet.ofByte postures, t, rect.map rectOf, fb⟩] }) →
            v.EngineFrame e.done ∧
            Answers (.setVariant h postures target fallback rect) s
              (e.answer [byteOf (kept.length + 1), byteOf e.done.freeVariants]))))) ∧
  (∀ (s : State) (h : HandleField), s.turn (.clearVariants h) →
    (s.checkHandle h = none → Answers (.clearVariants h) s (s.answered .badHandle [])) ∧
    (∀ i, s.checkHandle h = some i → (∀ r, s.entry i = .used r → r.state = .retiring) →
      Answers (.clearVariants h) s (s.answered .retiring [])) ∧
    (∀ i r, s.checkHandle h = some i → s.entry i = .used r → r.state ≠ .retiring →
      (r.variants = [] → Answers (.clearVariants h) s (s.answered .ok [])) ∧
      (∀ v : State, r.variants ≠ [] → v = (s.handed (.clearVariants h)).setEntry i (.used { r with variants := [] }) →
        v.EngineFrame ((Ev.start v).reresolve i).done ∧
        Answers (.clearVariants h) s (((Ev.start v).reresolve i).answer []))))

/-- R61, R62, R184: SET_FOCUS sets the focus register to the record named, or to none for 0xFFFF; the value in force is answered OK
with nothing changed; a handle that names no record is refused with BAD_HANDLE, a RETIRING or RETIRED record with RETIRING. A change
takes the focus mark from the slots of the old focus record and gives it to those of the new one, re-resolves both, the old one
first, and moves the new one's job to the head of the queue, the other jobs keeping their order (R101); it is answered ACCEPTED or
OK as R50 gives. -/
def Obligations.SetFocusRequest : Prop :=
  (∀ (s : State) (h : HandleField), s.turn (.setFocus h) →
    (handleNone h = false → s.checkHandle h = none → Answers (.setFocus h) s (s.answered .badHandle [])) ∧
    (∀ i, handleNone h = false → s.checkHandle h = some i → (∀ r, s.entry i = .used r → r.state = .retiring) →
      Answers (.setFocus h) s (s.answered .retiring [])) ∧
    (∀ new, handleNone h = true ∧ new = none ∨
        handleNone h = false ∧ (∃ i r, s.checkHandle h = some i ∧ s.entry i = .used r ∧ r.state ≠ .retiring ∧
          new = some ⟨s.gen i, i⟩) →
      (new = s.table.focus → Answers (.setFocus h) s (s.answered .ok [])) ∧
      (∀ e : Ev, new ≠ s.table.focus → e = (Ev.start (s.handed (.setFocus h))).changeFocus new →
        { s.handed (.setFocus h) with table := { s.table with focus := new } }.EngineFrame e.done ∧
        Answers (.setFocus h) s (e.answer [])))) ∧
  (∀ (e e0 e1 : Ev) (old new : Option Handle), old = e.s.table.focus →
    e0 = { e with s := { e.s with table := { e.s.table with focus := new } } } →
    e1 = (match old, new with
      | none, none => e0
      | some a, none => e0.restage a.index fun c => { c with focus := false }
      | none, some b => e0.restage b.index fun c => { c with focus := true }
      | some a, some b => (e0.restage a.index fun c => { c with focus := false }).restage b.index fun c =>
          { c with focus := true }) →
    (new = none → e.changeFocus new = (match old with
      | none => e1
      | some a => e1.reresolve a.index)) ∧
    (∀ b e2, new = some b → e2 = (match old with
        | none => e1.reresolve b.index
        | some a => (e1.reresolve a.index).reresolve b.index) →
      e.changeFocus new = { e2 with s := { e2.s with queue :=
        (e2.s.queue.filter fun j => decide (j.handle.index = b.index)) ++
          (e2.s.queue.filter fun j => decide (j.handle.index ≠ b.index)) } } ∧
      (∀ j, e2.s.job? b.index = some j → (e.changeFocus new).s.queue.head? = some j)))

/-- R65, R66, R67: retirement clears the focus register if it names the record, empties its variants, override, wanted size and
resolution-pending mark, drops its job, frees the slots it had only claimed and stages a removal on each slot it has LIVE; the
record is RETIRING while it owns a slot, and otherwise RETIRED with the tag of its latest buffer, or the released tag it held where
it has no buffer, and the marks RETIRED and RELEASED, RELEASED where it holds a buffer or had the mark. A RETIRING record that owns
no slot becomes RETIRED in the same way. RETIRE_SURFACE retires one record and RETIRE_OWNER every record of an owner that is not
RETIRING, in ascending index, and answers with their count. -/
def Obligations.Retirement : Prop :=
  (∀ (e : Ev) (i : Fin 40) (r : Record) (latest : Option Buffer) (gone : TableSlot), e.s.entry i = .used r →
    latest = (match r.pending with
      | some b => some b
      | none => r.current) →
    gone = .retired (match latest with
      | some b => some b.desc.tag
      | none => r.released) {
        placement := false, wanted := false, stale := false, evicted := false
        released := latest.isSome || r.marks.released, retired := true } →
    (e.retire i).s.job? i = none ∧ (e.retire i).s.isFocus i = false ∧
    (∀ k, (e.retire i).s.slot k = (match e.s.slot k with
      | .claimed o st => if o.index = i ∧ (e.s.job? i).isSome then .free else .claimed o st
      | .live o cfg st => if o.index = i then (match st with
          | some (.removal due) => .live o cfg (some (.removal due))
          | _ => .live o cfg (some (.removal false))) else .live o cfg st
      | .free => .free)) ∧
    ((e.retire i).s.ownedSlots i = [] → (e.retire i).s.entry i = gone) ∧
    ((e.retire i).s.ownedSlots i ≠ [] → ∃ r', (e.retire i).s.entry i = .used r' ∧
      r' = { r with
        state := .retiring, variants := [], moveTo := none, wanted := none, resPending := false
        current := r'.current, pending := r'.pending, released := r'.released, staleContent := r'.staleContent
        marks := { r.marks with released := r'.marks.released } } ∧
      (e.s.job? i = none ∨ r.pending = none ∨ r.state = .retiring → r' = { r with
        state := .retiring, variants := [], moveTo := none, wanted := none, resPending := false }) ∧
      (match r'.pending with
        | some b => some b
        | none => r'.current) = latest) ∧
    (∀ j, j ≠ i → (e.retire i).s.entry j = e.s.entry j) ∧
    (r.state = .retiring → e.s.ownedSlots i = [] → e.s.checkRetired i = e.s.setEntry i gone) ∧
    (r.state ≠ .retiring ∨ e.s.ownedSlots i ≠ [] → e.s.checkRetired i = e.s)) ∧
  (∀ (s : State) (h : HandleField), s.turn (.retireSurface h) →
    (s.checkHandle h = none → Answers (.retireSurface h) s (s.answered .badHandle [])) ∧
    (∀ i, s.checkHandle h = some i → (∀ r, s.entry i = .used r → r.state = .retiring) →
      Answers (.retireSurface h) s (s.answered .retiring [])) ∧
    (∀ i r e, s.checkHandle h = some i → s.entry i = .used r → r.state ≠ .retiring →
      e = (Ev.start (s.handed (.retireSurface h))).retire i →
      e.s.EngineFrame e.done ∧
        Answers (.retireSurface h) s (e.done.answered (if e.s.isRetiring i then .accepted else .ok) []))) ∧
  (∀ (s : State) (owner : Half) (l : List (Fin 40)) (e : Ev), s.turn (.retireOwner owner) →
    (∀ i, i ∈ l ↔ ∃ r, s.entry i = .used r ∧ r.owner = owner ∧ r.state ≠ .retiring) → l.Pairwise (· < ·) →
    e = l.foldl Ev.retire (Ev.start (s.handed (.retireOwner owner))) →
    e.s.EngineFrame e.done ∧
      Answers (.retireOwner owner) s
        (e.done.answered (if l.any e.s.isRetiring then .accepted else .ok) [byteOf l.length]))

/-! ### Requests of the resolver's inputs and the panels -/

/-- R74, R143, R144: WRITE_RULE stores a whole entry, its deadline clamped to 200 steps, and refuses a value out of range;
SET_LENDING takes a setting when every slot it moves is FREE, answers the one in force, and is otherwise refused with BUSY;
SET_PANEL_GEOMETRY is taken while both panels are OFF or OFFLINE and refused with BUSY otherwise. Values out of range are refused
with BAD_VALUE. A rule taken and a geometry changed re-resolve every record, the focus record first and the rest in ascending index
(R92), and are answered ACCEPTED or OK as R50 gives; a geometry re-resolves by the event's mark, once after its other effects (log
16). A lending taken is followed by one grant walk. -/
def Obligations.RuleGeometryAndLending : Prop :=
  (∀ (s : State) (index : Byte) (e : RuleField), s.turn (.writeRule index e) →
    (16 ≤ index.toNat ∨ 2 ≤ e.valid.toNat ∨ (∃ n : Fin 5, 5 ≤ (e.targets[n]).toNat) ∨
        (∃ n : Fin 5, 2 ≤ (e.fits[n]).toNat) ∨ 2 ≤ e.fallback.toNat ∨ 2 ≤ e.mode.toNat →
      Answers (.writeRule index e) s (s.answered .badValue [])) ∧
    (∀ (n : Fin 16) (r : Rule), n.val = index.toNat → e.valid = bitByte r.valid → e.base = r.base → e.mask = r.mask →
      e.targets.toList = r.targets.list.map Target.code → e.fits.toList = r.fits.list.map Fit.code →
      e.fallback = r.fallback.code → e.mode = r.mode.code → r.deadline = min 200 e.deadline.toNat →
      ∀ v : State, v = { s.handed (.writeRule index e) with rules := s.rules.set n.val r } →
        v.EngineFrame (Ev.start v).reresolveAll.done ∧
        Answers (.writeRule index e) s ((Ev.start v).reresolveAll.answer [byteOf r.deadline]))) ∧
  (∀ (s : State) (b count : Byte) (report : PanelId → Nat → List Byte), s.turn (.setLending b count) →
    (∀ p n, report p n = [panelCode p, byteOf n, byteOf (if p = .p0 then 8 - n else 8 + n),
      byteOf (if p = .p1 then 8 - n else 8 + n)]) →
    ((∀ p, b ≠ panelCode p) ∨ (count ≠ 0 ∧ count ≠ 2 ∧ count ≠ 4 ∧ count ≠ 6) →
      Answers (.setLending b count) s (s.answered .badValue [])) ∧
    (∀ p, b = panelCode p → (count = 0 ∨ count = 2 ∨ count = 4 ∨ count = 6) →
      (s.shared.lent = count.toNat ∧ (count = 0 ∨ s.shared.lender = p) →
        Answers (.setLending b count) s (s.answered .ok (report s.shared.lender s.shared.lent))) ∧
      (¬(s.shared.lent = count.toNat ∧ (count = 0 ∨ s.shared.lender = p)) →
        ((∃ k, usingPanel p count.toNat k ≠ s.user k ∧ s.slot k ≠ .free) →
          Answers (.setLending b count) s (s.answered .busy [])) ∧
        (∀ v : State, (∀ k, usingPanel p count.toNat k ≠ s.user k → s.slot k = .free) →
          v = { s.handed (.setLending b count) with shared := { s.shared with lender := p, lent := count.toNat } } →
          v.EngineFrame { Ev.start v with walk := true }.done ∧
          Answers (.setLending b count) s
            ({ Ev.start v with walk := true }.done.answered .ok (report p count.toNat)))))) ∧
  (∀ (s : State) (w h g : Half), s.turn (.setPanelGeometry w h g) →
    (¬(480 ≤ w.toNat ∧ w.toNat ≤ 2560 ∧ 480 ≤ h.toNat ∧ h.toNat ≤ 2560 ∧ g.toNat ≤ 96) →
      Answers (.setPanelGeometry w h g) s (s.answered .badValue [])) ∧
    (480 ≤ w.toNat ∧ w.toNat ≤ 2560 ∧ 480 ≤ h.toNat ∧ h.toNat ≤ 2560 ∧ g.toNat ≤ 96 →
      ((∃ p, (s.panel p).mode ≠ .off ∧ (s.panel p).mode ≠ .offline) →
        Answers (.setPanelGeometry w h g) s (s.answered .busy [])) ∧
      ((∀ p, (s.panel p).mode = .off ∨ (s.panel p).mode = .offline) →
        ∀ (v : State) (e : Ev), v = { s.handed (.setPanelGeometry w h g) with
            shared := { s.shared with width := w.toNat, height := h.toNat, seam := g.toNat } } →
          e = { Ev.start v with resolveAll :=
            !(decide (s.shared.width = w.toNat) && decide (s.shared.height = h.toNat) &&
              decide (s.shared.seam = g.toNat)) } →
          v.EngineFrame e.done ∧ Answers (.setPanelGeometry w h g) s (e.answer [])))) ∧
  (∀ e : Ev, ∃ l : List (Fin 40), e.reresolveAll = l.foldl Ev.reresolve e ∧ l.Nodup ∧ (∀ i, i ∈ l) ∧
    l.Pairwise fun i j => e.s.isFocus j = false ∧ (e.s.isFocus i = true ∨ i < j)) ∧
  (∀ e : Ev, (e.resolveAll = false → e.resolveDue = e) ∧
    (e.resolveAll = true → e.resolveDue = { e.reresolveAll with resolveAll := false }))

/-- R93, R129, R130, R146, R160: PANEL_ENABLE stores the setting and acts on a change of lit demand, answered ACCEPTED for one and
OK otherwise; PANEL_RECOVER clears the attempts, and takes an OFFLINE panel to OFF with its quiet timer stopped, answered ACCEPTED.
A code out of range is refused with BAD_VALUE. A demand changed outside OFFLINE, and a panel that leaves OFFLINE with its lit demand
on, re-resolve every record (`resolveAll`, log 16). -/
def Obligations.PanelRequests : Prop :=
  (∀ (s : State) (b v : Byte), s.turn (.panelEnable b v) →
    ((∀ p, b ≠ panelCode p) ∨ 2 ≤ v.toNat → Answers (.panelEnable b v) s (s.answered .badValue [])) ∧
    (∀ (p : PanelId) (on : Bool) (e : Ev) (u : State), b = panelCode p → v = bitByte on →
      e = (Ev.start (s.handed (.panelEnable b v))).changeDemand p (fun x => { x with enabled := on }) →
      u = { e with resolveAll := e.resolveAll || decide ((s.panel p).planLit = true ∧ (s.panel p).enabled ≠ on ∧
        (s.panel p).mode ≠ PanelMode.offline) }.done →
      e.s.EngineFrame u ∧
      (u.panel p).enabled = on ∧ (u.panel (otherPanel p)).enabled = (s.panel (otherPanel p)).enabled ∧
      Answers (.panelEnable b v) s (u.answered
        (if (s.panel p).planLit = true ∧ (s.panel p).enabled ≠ on then .accepted else .ok) []))) ∧
  (∀ (s : State) (b : Byte), s.turn (.panelRecover b) →
    ((∀ p, b ≠ panelCode p) → Answers (.panelRecover b) s (s.answered .badValue [])) ∧
    (∀ p, b = panelCode p → (s.panel p).mode ≠ .offline → Answers (.panelRecover b) s
      ((s.modPanel p fun x => { x with attempts := 0 }).answered .ok [(s.panel p).mode.code, 0])) ∧
    (∀ p x, b = panelCode p → (s.panel p).mode = .offline →
      x = { s.panel p with attempts := 0, quietTimer := none, mode := .off } →
      ∀ w u : State, w = (s.handed (.panelRecover b)).setPanel p (if x.litDemand = true ∧ x.offTimer = none then
          { x with
            mode := .poweringUp .rail, seqTimer := some (s.now + s.shared.tRail * 1000)
            health := 0, warning := false, linkError := .none } else x) →
        u = { Ev.start w with resolveAll := x.litDemand }.done →
        w.EngineFrame u ∧ Answers (.panelRecover b) s (u.answered .accepted [(u.panel p).mode.code, 0])))

/-! ### Events of the sensor line and the switch -/

/-- R1: the sensor line. An idle line makes IDLE_WAIT ready; a start cell shorter than 2 µs begins a frame; 32 cells are taken, a 1
when low for 2 µs or more, and a stop cell that is a 1 ends a frame of those bits, the first the most significant. A wrong start or
stop cell is a framing error. No cell is taken while the input is DISABLED or a reset is under way. The model's choice (log 29): a
cell is one instant, at which its low time is known, and from which the 12 µs and the silent timer run. -/
def Obligations.SensorLine : Prop :=
  (∀ s : State, s.hinge.enabled = true → s.link.state ≠ .resetting →
    (s.hinge.recv = .idleWait → Answers .lineIdle s { s with hinge := { s.hinge with recv := .ready } } ∧
      ∀ n, Answers (.hsnsCell n) s s) ∧
    (s.hinge.recv ≠ .idleWait → Answers .lineIdle s s) ∧
    (∀ n, s.hinge.recv = .ready → n < 2000 → Answers (.hsnsCell n) s
      { s with hinge := { s.hinge with recv := .inFrame [], cellTimer := some (s.now + 12) } }) ∧
    (∀ n, s.hinge.recv = .ready → 2000 ≤ n →
      ∃ t, Answers (.frameArrival .framingError) s t ∧ Answers (.hsnsCell n) s t) ∧
    (∀ n bits, s.hinge.recv = .inFrame bits → bits.length < 32 → Answers (.hsnsCell n) s
      { s with hinge := { s.hinge with
        recv := .inFrame (bits ++ [decide (2000 ≤ n)]), cellTimer := some (s.now + 12) } }) ∧
    (∀ n bits w, s.hinge.recv = .inFrame bits → bits.length = 32 → 2000 ≤ n →
      (∀ i : Fin 32, w.getLsbD (31 - i.val) = bits.getD i.val false) →
      ∃ t, Answers (.frameArrival (.frame w)) s t ∧ Answers (.hsnsCell n) s t) ∧
    (∀ n bits, s.hinge.recv = .inFrame bits → bits.length = 32 → n < 2000 →
      ∃ t, Answers (.frameArrival .framingError) s t ∧ Answers (.hsnsCell n) s t)) ∧
  (∀ s : State, s.hinge.enabled = false ∨ s.link.state = .resetting →
    Answers .lineIdle s s ∧ Answers .cellTimeout s s ∧ (∀ n, Answers (.hsnsCell n) s s) ∧
      ∀ r, Answers (.frameArrival r) s s)

/-- R5, R6, R7, R11, R12, R15, R17: a good frame, whole. The gap, the streaks, the marginal flag, the raw code and the corrected
angle are taken; four good frames in a row enter TRACKING; in TRACKING the filter is re-seeded or stepped and the motion window
re-filled or sampled; HINGE is set at the onset of a marginal field and at the return from LOST; and the classifier evaluates a
frame taken in TRACKING. -/
def Obligations.GoodFrame : Prop :=
  ∀ (s : State) (w : BitVec 32) (raw field a : Nat) (count gap : Fin 16) (good : Nat) (tracking full : Bool),
    s.hinge.enabled = true → s.link.state ≠ .resetting → s.hinge.recv ≠ .idleWait → receptionBadCause (.frame w) = none →
    raw = (w.toNat / 2 ^ 10) % 2 ^ 14 → field = (w.toNat / 2 ^ 8) % 4 → count.val = (w.toNat / 2 ^ 4) % 16 →
    a = correctedAngle s.hinge.cal raw → gap = s.hinge.expected.elim 0 (fun x => count - x) →
    good = min 255 (s.hinge.good + 1) →
    (tracking = true ↔ s.hinge.input = .tracking ∨
      (s.hinge.input = .acquiring ∨ s.hinge.input = .lost) ∧ good = 4) →
    (full = true ↔ s.hinge.input ≠ .tracking ∨ s.hinge.reseedPending = true ∨
      s.hinge.expected.isSome = true ∧ 4 ≤ gap.val) →
    ∃ (e : Ev) (t : State) (h : Hinge),
      t = { s with
        hinge := h
        attn := { s.attn with flags := { s.attn.flags with
          hinge := s.attn.flags.hinge || (decide (field ≠ 0) && !s.hinge.marginal) ||
            (decide (s.hinge.input = .lost) && tracking) } } } ∧
      e = (if tracking then (Ev.start t).evaluate else Ev.start t) ∧ e.s.EngineFrame e.done ∧
      Answers (.frameArrival (.frame w)) s e.done ∧
      h.recv = .ready ∧ h.cellTimer = none ∧ h.silentTimer = some (s.now + s.hinge.silentMs * 1000) ∧
      h.lastGap = gap ∧ h.expected = some (count + 1) ∧ h.marginal = decide (field ≠ 0) ∧ h.good = good ∧ h.bad = 0 ∧
      h.lastCause = s.hinge.lastCause ∧ h.lastRaw = raw ∧ h.angle = a ∧ h.reseedPending = false ∧
      h.refillPending = false ∧ h.enabled = true ∧
      h.input = (if tracking then .tracking else s.hinge.input) ∧
      h.cal = s.hinge.cal ∧ h.shift = s.hinge.shift ∧ h.interval = s.hinge.interval ∧
      h.threshold = s.hinge.threshold ∧ h.silentMs = s.hinge.silentMs ∧ h.badLimit = s.hinge.badLimit ∧
      (tracking = false → h.acc = s.hinge.acc ∧ h.filtered = s.hinge.filtered ∧ h.window = s.hinge.window ∧
        h.divider = s.hinge.divider ∧ h.motion = s.hinge.motion ∧ h.swinging = s.hinge.swinging) ∧
      (tracking = true → full = true → h.acc = 16 * a ∧ h.filtered = a ∧ h.window = Vector.replicate 8 a ∧
        h.divider = 0 ∧ h.motion = 0 ∧ h.swinging = false) ∧
      (tracking = true → full = false →
        h.acc = ((s.hinge.acc : Int) + (16 * a - s.hinge.acc : Int) / 2 ^ s.hinge.shift).toNat ∧
        h.filtered = (h.acc + 8) / 16 ∧
        h.motion = ((h.filtered : Int) - h.window[0]).natAbs ∧ h.swinging = decide (s.hinge.threshold ≤ h.motion) ∧
        (s.hinge.refillPending = true → h.window = Vector.replicate 8 h.filtered ∧ h.divider = 0) ∧
        (s.hinge.refillPending = false → s.hinge.divider + 1 = s.hinge.interval →
          (∀ n : Fin 7, h.window[n.val] = s.hinge.window[n.val + 1]) ∧ h.window[7] = h.filtered ∧ h.divider = 0) ∧
        (s.hinge.refillPending = false → s.hinge.divider + 1 ≠ s.hinge.interval →
          h.window = s.hinge.window ∧ h.divider = s.hinge.divider + 1))

/-- R2, R3, R4, R11, R29: a frame that fails a check, a cell that comes too late and an expiry of the silent timer are bad events:
the good streak is 0, the bad streak rises to at most 255, the cause is recorded, and in TRACKING a bad streak at the limit makes
the input LOST, with HINGE set, the dwell dropped and the fold switch check made. The angle and the filter are held. The model's
choice (log 4): an expiry of a stopped timer changes nothing. -/
def Obligations.BadEvents : Prop :=
  (∀ (s : State) (r : Reception) (c : BadCause) (h : Hinge), s.hinge.enabled = true → s.link.state ≠ .resetting →
    s.hinge.recv ≠ .idleWait →
    (r = .framingError ∧ c = .framing ∨ ∃ w : BitVec 32, r = .frame w ∧
      (w.extractLsb' 24 8 ≠ 0xB4#8 ∧ c = .sync ∨
        w.extractLsb' 24 8 = 0xB4#8 ∧ frameNibbleSum w ≠ 15 ∧ c = .check ∨
        w.extractLsb' 24 8 = 0xB4#8 ∧ frameNibbleSum w = 15 ∧ w.extractLsb' 8 2 = 3 ∧ c = .field)) →
    h = { s.hinge with
      recv := (match r with
        | .frame _ => .ready
        | .framingError => .idleWait)
      cellTimer := none, silentTimer := some (s.now + s.hinge.silentMs * 1000)
      good := 0, bad := min 255 (s.hinge.bad + 1), lastCause := c } →
    (s.hinge.input ≠ .tracking ∨ h.bad < h.badLimit → ∀ w : State, w = { s with hinge := h } →
      w.EngineFrame w.settled ∧ Answers (.frameArrival r) s w.settled) ∧
    (s.hinge.input = .tracking → h.badLimit ≤ h.bad → ∀ e : Ev, e = (Ev.start { s with
        hinge := { h with input := .lost, swinging := false }
        posture := { s.posture with dwell := .idle, candidate := s.posture.committed }
        attn := { s.attn with flags := { s.attn.flags with hinge := true } } }).foldCheck →
      e.s.EngineFrame e.done ∧ Answers (.frameArrival r) s e.done)) ∧
  (∀ (s : State) (bits : List Bool) (t : Nat), s.hinge.enabled = true → s.link.state ≠ .resetting →
    s.hinge.recv = .inFrame bits → s.hinge.cellTimer = some t →
    ∃ u, Answers (.frameArrival .framingError) (s.elapse (t - s.now)) u ∧ Answers .cellTimeout s u) ∧
  (∀ (s v : State) (t : Nat) (h : Hinge), s.hinge.silentTimer = some t → v = s.elapse (t - s.now) →
    h = { s.hinge with
      silentTimer := some (v.now + s.hinge.silentMs * 1000)
      good := 0, bad := min 255 (s.hinge.bad + 1), lastCause := .silent } →
    (s.hinge.input ≠ .tracking ∨ h.bad < h.badLimit → ∀ w : State, w = { v with hinge := h } →
      w.EngineFrame w.settled ∧ Answers .silentExpiry s w.settled) ∧
    (s.hinge.input = .tracking → h.badLimit ≤ h.bad → ∀ e : Ev, e = (Ev.start { v with
        hinge := { h with input := .lost, swinging := false }
        posture := { s.posture with dwell := .idle, candidate := s.posture.committed }
        attn := { s.attn with flags := { s.attn.flags with hinge := true } } }).foldCheck →
      e.s.EngineFrame e.done ∧ Answers .silentExpiry s e.done)) ∧
  (∀ s : State, (s.hinge.silentTimer = none → Answers .silentExpiry s s) ∧
    (s.hinge.cellTimer = none → Answers .cellTimeout s s))

/-- R28, R33, R34, R36: an edge of the FOLD pin starts the debounce timer for 8 ms, none during a reset; at its expiry the debounced
level takes the raw level, an assertion making the fold switch check and a release clearing the disagreement; a dwell's expiry
commits its candidate when the hinge is not swinging and defers it otherwise. An edge during a reset is recorded and starts no timer
(R181). The model's choice (log 4): a level that is no edge, and an expiry of a stopped timer or dwell, change nothing. -/
def Obligations.PostureEvents : Prop :=
  (∀ (s : State) (level : Bool),
    (level = s.posture.rawLevel → Answers (.foldEdge level) s s) ∧
    (level ≠ s.posture.rawLevel → s.link.state ≠ .resetting → Answers (.foldEdge level) s
      { s with posture := { s.posture with rawLevel := level, debounceTimer := some (s.now + 8000) } }) ∧
    (level ≠ s.posture.rawLevel → s.link.state = .resetting → Answers (.foldEdge level) s
      { s with posture := { s.posture with rawLevel := level } })) ∧
  (∀ s : State, s.posture.debounceTimer = none → Answers .debounceExpiry s s) ∧
  (∀ (s v : State) (t : Nat), s.posture.debounceTimer = some t → v = s.elapse (t - s.now) →
    (∀ w : State, s.posture.rawLevel = s.posture.debounced → w = { v with posture := { s.posture with debounceTimer := none } } →
      w.EngineFrame w.settled ∧ Answers .debounceExpiry s w.settled) ∧
    (∀ e : Ev, s.posture.rawLevel = true → s.posture.debounced = false →
      e = (Ev.start { v with posture := { s.posture with debounceTimer := none, debounced := true } }).foldCheck →
      e.s.EngineFrame e.done ∧ Answers .debounceExpiry s e.done) ∧
    (∀ w : State, s.posture.rawLevel = false → s.posture.debounced = true → w = { v with posture := { s.posture with
        debounceTimer := none, debounced := false, disagreement := false } } →
      w.EngineFrame w.settled ∧ Answers .debounceExpiry s w.settled)) ∧
  (∀ (s v : State) (t : Nat), s.posture.dwell = .running t → v = s.elapse (t - s.now) →
    (∀ w : State, s.hinge.swinging = true → w = { v with posture := { s.posture with dwell := .deferred } } →
      w.EngineFrame w.settled ∧ Answers .dwellExpiry s w.settled) ∧
    (∀ e : Ev, s.hinge.swinging = false →
      e = (Ev.start { v with posture := { s.posture with dwell := .idle } }).commit s.posture.candidate →
      e.s.EngineFrame e.done ∧ Answers .dwellExpiry s e.done)) ∧
  (∀ s : State, (∀ t, s.posture.dwell ≠ .running t) → Answers .dwellExpiry s s)

/-! ### Events of the panels -/

/-- R93, R123 to R130: the power sequence. The rail stage ends in the reset stage and that in training; a training that does not end
enters OFFLINE; a power-down ends in OFF with the off-time started; a panel that is OFF, wanted lit and past its off-time powers up.
The lit demand turned off takes a panel from POWERING_UP or service to POWERING_DOWN. Each panel state drives the lines of R123,
which the model holds as a function of the state (log 20). The model's choice (log 4): a stage end of another stage and an expiry of
a stopped off-time timer change nothing. The training's expiry re-resolves every record (R129, R93). The lit demand changes by the
enable setting or by the plan, and either way is acted on at once; a panel in service whose demand turns off leaves service (R129,
stated under the health thresholds) without EVICTED. -/
def Obligations.PowerSequence : Prop :=
  (∀ (s v : State) (p : PanelId) (t : Nat), (s.panel p).seqTimer = some t → v = s.elapse (t - s.now) →
    ((s.panel p).mode = .poweringUp .rail → Answers (.railStageEnd p) s (v.setPanel p { s.panel p with
      mode := .poweringUp .reset, seqTimer := some (v.now + s.shared.tRst * 1000) })) ∧
    ((s.panel p).mode = .poweringUp .reset → Answers (.resetStageEnd p) s (v.setPanel p { s.panel p with
      mode := .poweringUp .training, seqTimer := some (v.now + s.shared.tTrain * 1000) })) ∧
    (∀ w : State, (s.panel p).mode = .poweringUp .training → w = (v.setPanel p { s.panel p with
        mode := .offline, seqTimer := none
        offTimer := if s.shared.tOff = 0 then none else some (v.now + s.shared.tOff * 1000)
        fault := captureFault (s.panel p).capture (s.panel p).fault .trainFail
        quietTimer := if (s.panel p).recovery = .auto ∧ (s.panel p).attempts < 3 then
          some (v.now + s.shared.tQuiet * 1000) else none }).raise .panel →
      w.EngineFrame { Ev.start w with resolveAll := true }.done ∧
      Answers (.trainingExpiry p) s { Ev.start w with resolveAll := true }.done) ∧
    (∀ x, (s.panel p).mode = .poweringDown → x = { s.panel p with
        mode := .off, seqTimer := none
        offTimer := if s.shared.tOff = 0 then none else some (v.now + s.shared.tOff * 1000) } →
      Answers (.powerDownEnd p) s (v.setPanel p (if x.litDemand = true ∧ s.shared.tOff = 0 then
        { x with
          mode := .poweringUp .rail, seqTimer := some (v.now + s.shared.tRail * 1000)
          health := 0, warning := false, linkError := .none } else x)))) ∧
  (∀ (s v : State) (p : PanelId) (t : Nat), (s.panel p).offTimer = some t → v = s.elapse (t - s.now) →
    Answers (.offTimeExpiry p) s (v.setPanel p (if (v.panel p).mode = .off ∧ (v.panel p).litDemand = true then
      { v.panel p with
        offTimer := none, mode := .poweringUp .rail, seqTimer := some (v.now + s.shared.tRail * 1000)
        health := 0, warning := false, linkError := .none }
      else { v.panel p with offTimer := none }))) ∧
  (∀ (s : State) (p : PanelId),
    ((s.panel p).offTimer = none → Answers (.offTimeExpiry p) s s) ∧
    ((s.panel p).mode ≠ .poweringUp .rail → Answers (.railStageEnd p) s s) ∧
    ((s.panel p).mode ≠ .poweringUp .reset → Answers (.resetStageEnd p) s s) ∧
    ((s.panel p).mode ≠ .poweringUp .training → Answers (.trainingExpiry p) s s) ∧
    ((s.panel p).mode ≠ .poweringDown → Answers (.powerDownEnd p) s s) ∧
    s.lines p = (match (s.panel p).mode with
      | .off | .offline => ⟨false, false, .idle⟩
      | .poweringUp .rail | .poweringDown => ⟨true, false, .idle⟩
      | .poweringUp .reset => ⟨true, true, .idle⟩
      | .poweringUp .training => ⟨true, true, .training⟩
      | .on | .degraded => ⟨true, true, .frames⟩)) ∧
  (∀ (e : Ev) (p : PanelId) (f : Panel → Panel) (x : Panel) (on : Bool), x = f (e.s.panel p) →
    (∀ y : Panel, f y = { y with enabled := on }) ∨ (∀ y : Panel, f y = { y with planLit := on }) →
    (x.litDemand = (e.s.panel p).litDemand → e.changeDemand p f = { e with s := e.s.setPanel p x }) ∧
    (x.litDemand = true → (e.s.panel p).litDemand = false →
      e.changeDemand p f = { e with s := (e.s.setPanel p
        (if x.mode = .off ∧ x.offTimer = none then
          { x with
            mode := .poweringUp .rail, seqTimer := some (e.s.now + e.s.shared.tRail * 1000)
            health := 0, warning := false, linkError := .none } else x)) }) ∧
    (x.litDemand = false → (e.s.panel p).litDemand = true →
      ((x.mode = .off ∨ x.mode = .poweringDown ∨ x.mode = .offline) →
        e.changeDemand p f = { e with s := e.s.setPanel p x }) ∧
      ((∃ st, x.mode = .poweringUp st) →
        e.changeDemand p f = { e with s := (e.s.setPanel p
          { x with mode := .poweringDown, seqTimer := some (e.s.now + e.s.shared.tDown * 1000) }) }) ∧
      (∀ e' : Ev, (x.mode = .on ∨ x.mode = .degraded) → e' = e.changeDemand p f →
        e' = { e with s := e.s.setPanel p { x with
          mode := .poweringDown, seqTimer := some (e.s.now + e.s.shared.tDown * 1000) } }.leaveService p false ∧
        e'.s.panel p = { x with
          mode := .poweringDown, seqTimer := some (e.s.now + e.s.shared.tDown * 1000), counter := 0, effective := 0
          cutoffDone := false, ackOwed := false, stableTimer := none, stack := [] } ∧
        (∀ k, e.s.user k = p → e'.s.slot k = .free) ∧ e'.s.shared = { e.s.shared with joined := .notJoined } ∧
        e'.resolveAll = true ∧ e'.walk = true)))

/-- R107, R126, R127, R135, R150, R159, R186: TRAIN_OK in training enters ON with an immediate frame start of the panel alone
(FrameTiming), whose stack is that of its live slots, empty where it uses none; then every job in PREPARING is examined in queue
order, with one grant walk after, and the joined mode conditions are evaluated. FRAME_OK and FRAME_BAD settle an acknowledgement
that is owed, lowering the health counter by 1 or raising it by 6, with the threshold checks at once; a byte of another kind counts
as FRAME_BAD, and one with its stop bit low holds the path until it has been high for a byte time; that one with its stop bit high
holds none is the model's choice (log 28). Nothing is read during a reset or from a held path. What an examination does: a job in
PREPARING with its buffer settled and its target panels all in service enters SLOT_WAIT, and a walk is due. -/
def Obligations.Acknowledgements : Prop :=
  (∀ (s : State) (p : PanelId), s.link.state ≠ .resetting → (s.panel p).pathHeld = false →
    (∀ (v u : State) (e1 e2 e : Ev), (s.panel p).mode = .poweringUp .training → (s.panel p).ackOwed = false →
      v = s.setPanel p { s.panel p with mode := .on, seqTimer := none, stableTimer := some (s.now + 2000000) } →
      e1 = (Ev.start v).soloFrame p → e2 = (e1.s.queue.map fun j => j.handle.index).foldl Ev.examine e1 →
      e = e2.evalJoined → u = e.done →
      e.s.EngineFrame u ∧ Answers (.trainOk p) s u ∧ s.SameBlocks u ∧
      u.panel (otherPanel p) = s.panel (otherPanel p) ∧
      u.panel p = { s.panel p with
        mode := .on, seqTimer := none, stableTimer := some (s.now + 2000000), counter := 0, cutoffDone := false
        period := (s.panel p).pendPeriod.getD (s.panel p).period, lead := (s.panel p).pendLead.getD (s.panel p).lead
        pendPeriod := none, pendLead := none
        effective := (s.panel p).pendPeriod.getD (s.panel p).period, ackOwed := true, stack := u.stackOf p } ∧
      (∀ k, (u.slot k).live? = if s.user k = p then (s.slot k).liveNext else (s.slot k).live?) ∧
      ((∀ k, s.user k = p → s.slot k = .free) → u.stackOf p = []) ∧
      u.shared = { s.shared with joined :=
        if s.posture.committed = .flat ∧ s.posture.span = true ∧ (s.panel (otherPanel p)).inService = true then
          (if s.shared.joined = .notJoined then .lockPending else s.shared.joined)
        else .notJoined }) ∧
    ((s.panel p).mode ≠ .poweringUp .training → Answers (.trainOk p) s s) ∧
    (∀ good bad : Ev, (s.panel p).ackOwed = true →
      good = (Ev.start (s.modPanel p fun x => { x with health := x.health - 1, ackOwed := false })).checkHealth p →
      bad = (Ev.start (s.modPanel p fun x =>
        { x with health := min 255 (x.health + 6), linkError := .ackError, ackOwed := false })).checkHealth p →
      good.s.EngineFrame good.done ∧ Answers (.frameOk p) s good.done ∧
      bad.s.EngineFrame bad.done ∧ Answers (.frameBad p) s bad.done) ∧
    ((s.panel p).ackOwed = false → Answers (.frameOk p) s s ∧ Answers (.frameBad p) s s) ∧
    (∀ code, code ≠ 0x5A#8 → code ≠ 0x3C#8 → code ≠ 0xC3#8 →
      ∃ u, Answers (.frameBad p) s u ∧ Answers (.unknownAckCode p code true) s u) ∧
    (∀ code, (s.panel p).ackOwed = false → Answers (.unknownAckCode p code false) s
      (s.modPanel p fun x => { x with pathHeld := true })) ∧
    (∀ (code : Byte) (e : Ev), (s.panel p).ackOwed = true → e = (Ev.start (s.modPanel p fun x =>
        { x with
          pathHeld := true, health := min 255 (x.health + 6), linkError := .ackError
          ackOwed := false })).checkHealth p →
      e.s.EngineFrame e.done ∧ Answers (.unknownAckCode p code false) s e.done)) ∧
  (∀ (e : Ev) (i : Fin 40),
    ((∀ j, e.s.job? i = some j → j.phase ≠ .preparing ∨ j.waiting = true ∨
      (∃ t ∈ j.target.pieces, (e.s.panel t.panel).inService = false)) → e.examine i = e) ∧
    (∀ j, e.s.job? i = some j → j.phase = .preparing → j.waiting = false →
      (∀ t ∈ j.target.pieces, (e.s.panel t.panel).inService = true) →
      e.examine i = { e with
        s := { e.s with queue := e.s.queue.map fun x => if x.handle.index = i then { x with phase := .slotWait } else x }
        walk := true })) ∧
  (∀ (s : State) (p : PanelId), s.link.state = .resetting ∨ (s.panel p).pathHeld = true →
    Answers (.trainOk p) s s ∧ Answers (.frameOk p) s s ∧ Answers (.frameBad p) s s ∧
      ∀ code stop, Answers (.unknownAckCode p code stop) s s) ∧
  (∀ (s : State) (p : PanelId), Answers (.ackPathIdle p) s (s.modPanel p fun x => { x with pathHeld := false }))

/-- R49, R55, R66, R129, R135, R152 to R156: after a change of the health counter the warning stands from 48 up, with PANEL at each
upward crossing; an ON panel from 96 is DEGRADED and a DEGRADED one up to 64 ON again, with PANEL; from 192 a panel in service
enters OFFLINE, its cause captured, its slots freed, its acknowledgement withdrawn and its recovery begun. A record loses its pieces
there and keeps its current rectangle; a PLACED one left with none becomes PARKED (R49), and one that owned a LIVE slot there
carries EVICTED, unless it is RETIRING. Capture mode FIRST keeps the cause of a set that is not empty, and ALL adds to it. A
departure from service, whole (R129): the frames stop, the joined mode conditions, which fail, are evaluated, the slots are freed
and reported one by one, and the re-resolution of every record and the grant walk are due. A report takes the piece from the record,
then makes the check that turns a RETIRING record with no slot left into RETIRED (R66) and the currency check (R55). -/
def Obligations.HealthThresholds : Prop :=
  (∀ (e : Ev) (p : PanelId) (x : Panel), x = e.s.panel p →
    (x.inService = false ∨ x.mode = .on ∧ x.health < 96 ∨ x.mode = .degraded ∧ 64 < x.health ∧ x.health < 192 →
      e.checkHealth p = { e with s := { e.s.setPanel p { x with warning := decide (48 ≤ x.health) } with
        attn := { e.s.attn with flags := { e.s.attn.flags with
          panel := e.s.attn.flags.panel || (decide (48 ≤ x.health) && !x.warning) } } } }) ∧
    (x.mode = .on → 96 ≤ x.health → x.health < 192 →
      e.checkHealth p = { e with s := (e.s.setPanel p { x with warning := true, mode := .degraded }).raise .panel }) ∧
    (x.mode = .degraded → x.health ≤ 64 →
      e.checkHealth p =
        { e with s := (e.s.setPanel p { x with warning := decide (48 ≤ x.health), mode := .on }).raise .panel }) ∧
    (x.inService = true → 192 ≤ x.health →
      (e.checkHealth p).s.panel p = { x with
        warning := true, mode := .offline, seqTimer := none
        offTimer := if e.s.shared.tOff = 0 then none else some (e.s.now + e.s.shared.tOff * 1000)
        fault := captureFault x.capture x.fault
          (if x.linkError = .ackTimeout then .ackTimeout else .ackError)
        quietTimer := if x.recovery = .auto ∧ x.attempts < 3 then some (e.s.now + e.s.shared.tQuiet * 1000) else none
        counter := 0, effective := 0, cutoffDone := false, ackOwed := false, stableTimer := none, stack := [] } ∧
      (e.checkHealth p).s.attn.flags.panel = true ∧ (∀ k, e.s.user k = p → (e.checkHealth p).s.slot k = .free) ∧
      (e.checkHealth p).resolveAll = true ∧ (e.checkHealth p).walk = true ∧ e.s.SameBlocks (e.checkHealth p).s ∧
      (e.checkHealth p).s.panel (otherPanel p) = e.s.panel (otherPanel p) ∧
      (e.checkHealth p).s.shared = { e.s.shared with joined := .notJoined } ∧
      ∀ y : Panel, y = { x with
          warning := true, mode := .offline, seqTimer := none
          offTimer := if e.s.shared.tOff = 0 then none else some (e.s.now + e.s.shared.tOff * 1000)
          fault := captureFault x.capture x.fault
            (if x.linkError = .ackTimeout then .ackTimeout else .ackError)
          quietTimer := if x.recovery = .auto ∧ x.attempts < 3 then
            some (e.s.now + e.s.shared.tQuiet * 1000) else none } →
        e.checkHealth p = Ev.leaveService { e with s := (e.s.setPanel p y).raise .panel } p true)) ∧
  (∀ (e : Ev) (p : PanelId) (evict : Bool), (e.s.panel p).inService = false → ∃ v : State,
    v = { e.s.setPanel p { e.s.panel p with
        counter := 0, effective := 0, cutoffDone := false, ackOwed := false, stableTimer := none, stack := [] } with
      shared := { e.s.shared with joined := .notJoined }, slots := v.slots } ∧
    (∀ k, v.slot k = if e.s.user k = p then .free else e.s.slot k) ∧
    e.leaveService p evict = { ((allSlots.filter fun k => decide (e.s.user k = p)).foldl (Ev.reportLoss evict e.s)
      { e with s := v }) with walk := true, resolveAll := true }) ∧
  (∀ (evict : Bool) (before : State) (e : Ev) (k : Fin 16),
    ((before.slot k).owner? = none → Ev.reportLoss evict before e k = e) ∧
    (∀ (o : Handle) (r : Record) (v : State), (before.slot k).owner? = some o → e.s.entry o.index = .used r →
      v = e.s.setEntry o.index (.used { r with
        pieces := r.pieces.filter fun q => decide (q.slot ≠ k)
        state := if r.state = .placed ∧ (r.pieces.filter fun q => decide (q.slot ≠ k)) = [] then .parked else r.state
        marks := if evict = true ∧ (before.slot k).isLive = true ∧ r.state ≠ .retiring then
          { r.marks with evicted := true } else r.marks }) →
      ∃ q, Ev.reportLoss evict before e k =
          { e with s := { (v.checkRetired o.index).checkCurrency o.index with queue := q } } ∧
        q.map Job.handle = e.s.queue.map Job.handle ∧
        ∀ i, i ≠ o.index → (Ev.reportLoss evict before e k).s.job? i = e.s.job? i)) ∧
  (∀ (e : Ev) (p : PanelId) (i : Fin 40) (r : Record) (lost : Fin 16 → Prop), (e.s.panel p).inService = true →
    192 ≤ (e.s.panel p).health → e.s.entry i = .used r →
    (∀ k, lost k ↔ e.s.user k = p ∧ ∃ o, (e.s.slot k).owner? = some o ∧ o.index = i) →
    (r.state ≠ .retiring → ∃ r', (e.checkHealth p).s.entry i = .used r' ∧ r'.rect = r.rect ∧
      (∀ q, q ∈ r'.pieces ↔ q ∈ r.pieces ∧ ¬lost q.slot) ∧
      (r'.marks.evicted = true ↔ r.marks.evicted = true ∨ ∃ k, lost k ∧ (e.s.slot k).isLive = true) ∧
      ((r.state = .placed ∧ r'.pieces = [] ∧ ∃ k, lost k) → r'.state = .parked) ∧
      (¬(r.state = .placed ∧ r'.pieces = [] ∧ ∃ k, lost k) → r'.state = r.state)) ∧
    (r.state = .retiring → ((e.checkHealth p).s.entry i).marks.evicted = true → r.marks.evicted = true) ∧
    (r.state = .retiring → (∃ k, lost k) →
      ((∀ k, (e.s.slot k).ownedBy i = true → lost k) → (e.checkHealth p).s.entry i = .retired (match r.pending with
          | some b => some b.desc.tag
          | none => (match r.current with
            | some b => some b.desc.tag
            | none => r.released)) {
          placement := false, wanted := false, stale := false, evicted := false
          released := r.pending.isSome || r.current.isSome || r.marks.released, retired := true }) ∧
      ((∃ k, (e.s.slot k).ownedBy i = true ∧ ¬lost k) → ∃ l, (∀ q, q ∈ l ↔ q ∈ r.pieces ∧ ¬lost q.slot) ∧
        (e.checkHealth p).s.entry i = .used { r with pieces := l }))) ∧
  (∀ (f : FaultSet) (c : FaultCause) (one : FaultSet),
    one = ⟨decide (c = .trainFail), decide (c = .ackError), decide (c = .ackTimeout)⟩ →
    captureFault .first f c = (if f = ⟨false, false, false⟩ then one else f) ∧
    captureFault .all f c =
      ⟨f.trainFail || one.trainFail, f.ackError || one.ackError, f.ackTimeout || one.ackTimeout⟩)

/-- R48, R55, R66, R131, R132, R133, R136, R139, R140, R151: a frame start at compare A, whole. Outside joined mode, and for panel 1
alone in LOCK_PENDING, the panel frame-starts alone; in JOINED both do as one event, and at panel 0's in LOCK_PENDING they lock: the
state becomes JOINED, panel 1's owed acknowledgement is withdrawn and the mark is set by which the event re-resolves every record
once (`resolveAll`, log 16). A panel that frame-starts adopts its pending values, fixes its effective period, applies the due
configurations of the slots it uses, orders its live slots into the stack, owes an acknowledgement, and counts a timeout for one
still owed, with the threshold checks; one that reaches 192 enters OFFLINE and leaves joined mode. A reported slot's piece enters or
leaves its record's placement, panel 0 first (R48), and its action counts as settled; the report is followed by the currency check
of R55, for a freed slot after the check that turns a RETIRING record with no slot into RETIRED (R66). The reports go slot by slot,
in joined mode panel 0's first, the steps that ended with them end after them, and the timeouts' checks come last (log 16). The
staging cutoff makes every staged configuration on the panel's slots due. The model's choices: out of service, and at a second
cutoff in one frame, nothing happens (log 4, log 17). -/
def Obligations.FrameTiming : Prop :=
  (∀ (s v : State) (p : PanelId) (lock joint : Bool) (runs owed : PanelId → Bool) (period effective health : PanelId → Nat),
    (s.panel p).inService = true →
    lock = (decide (s.shared.joined = .lockPending) && decide (p = .p0)) →
    joint = (decide (s.shared.joined = .joined) || lock) →
    (joint = true → (s.panel (otherPanel p)).inService = true) →
    v = s.elapse ((s.panel p).effective - (s.panel p).counter) →
    (∀ q, runs q = (joint || decide (q = p))) →
    (∀ q, owed q = ((s.panel q).ackOwed && !(lock && decide (q = .p1)))) →
    (∀ q, period q = (s.panel q).pendPeriod.getD (s.panel q).period) →
    (∀ q, effective q =
      if joint then (if (s.panel .p0).mode = .degraded ∨ (s.panel .p1).mode = .degraded then 2 * period .p0 else period .p0)
      else if (s.panel q).mode = .degraded then 2 * period q else period q) →
    (∀ q, health q = if owed q then min 255 ((s.panel q).health + 6) else (s.panel q).health) →
    ∃ (e : Ev) (u : State), e = (Ev.start v).frameStart p ∧ u = e.done ∧ Answers (.frameStart p) s u ∧ v.SameBlocks u ∧
      (∀ q, runs q = false → u.panel q = v.panel q) ∧
      ((∀ q, runs q = true → owed q = true → health q < 192) →
        u.shared = { s.shared with joined := if joint then .joined else s.shared.joined } ∧ e.resolveAll = lock ∧
        (∀ k, (u.slot k).live? = if runs (s.user k) then (s.slot k).liveNext else (s.slot k).live?) ∧
        ∀ q, runs q = true → u.panel q = { s.panel q with
          period := period q, lead := (s.panel q).pendLead.getD (s.panel q).lead, pendPeriod := none, pendLead := none
          effective := effective q, counter := 0, cutoffDone := false, ackOwed := true, stack := u.stackOf q
          health := health q
          linkError := if owed q then .ackTimeout else (s.panel q).linkError
          warning := if owed q then decide (48 ≤ health q) else (s.panel q).warning
          mode :=
            if owed q = true ∧ (s.panel q).mode = .on ∧ 96 ≤ health q then .degraded
            else if owed q = true ∧ (s.panel q).mode = .degraded ∧ health q ≤ 64 then .on
            else (s.panel q).mode }) ∧
      (∀ q, runs q = true → owed q = true → 192 ≤ health q →
        u.panel q = { s.panel q with
          period := period q, lead := (s.panel q).pendLead.getD (s.panel q).lead, pendPeriod := none, pendLead := none
          effective := 0, counter := 0, cutoffDone := false, ackOwed := false, stack := [], stableTimer := none
          seqTimer := none, health := health q, linkError := .ackTimeout, warning := true, mode := .offline
          offTimer := if s.shared.tOff = 0 then none else some (v.now + s.shared.tOff * 1000)
          fault := captureFault (s.panel q).capture (s.panel q).fault .ackTimeout
          quietTimer := if (s.panel q).recovery = .auto ∧ (s.panel q).attempts < 3 then
            some (v.now + s.shared.tQuiet * 1000) else none } ∧
        (∀ k, s.user k = q → u.slot k = .free) ∧ u.shared = { s.shared with joined := .notJoined } ∧
        u.attn.flags.panel = true ∧ e.resolveAll = true)) ∧
  (∀ (e : Ev) (before : State) (p : PanelId) (k : Fin 16) (o : Handle) (r : Record), (before.slot k).owner? = some o →
    e.s.entry o.index = .used r →
    (∃ (l : List Piece) (v : State) (q : List Job), v = e.s.setEntry o.index (.used { r with pieces := l }) ∧
      (∀ c, (e.s.slot k).cfg? = some c →
        (∀ q, q ∈ l ↔ q = ⟨p, k, c.dest, c.srcX, c.srcY, c.rotated⟩ ∨ q ∈ r.pieces ∧ q.panel ≠ p) ∧
        Ev.reportApplied p before e k = { e with s := { v.checkCurrency o.index with queue := q } }) ∧
      ((e.s.slot k).cfg? = none → (∀ q, q ∈ l ↔ q ∈ r.pieces ∧ q.slot ≠ k) ∧
        Ev.reportApplied p before e k =
          { e with s := { (v.checkRetired o.index).checkCurrency o.index with queue := q }, walk := true }) ∧
      ((r.pieces.Pairwise fun a b => a.panel = .p0 ∧ b.panel = .p1) →
        l.Pairwise fun a b => a.panel = .p0 ∧ b.panel = .p1) ∧
      (r.state ≠ .retiring → r.pending = none →
        (Ev.reportApplied p before e k).s.entry o.index = .used { r with pieces := l }) ∧
      q.map Job.handle = e.s.queue.map Job.handle ∧
      ∀ i, i ≠ o.index → (Ev.reportApplied p before e k).s.job? i = e.s.job? i) ∧
    (∀ j, e.s.job? o.index = some j → (Ev.reportApplied p before e k).s.job? o.index = some { j with
      outstanding := j.outstanding.filter fun a => decide (a.slot ≠ k) })) ∧
  (∀ (e : Ev) (w : State) (due : PanelId → List (Fin 16)) (opened : Ev),
    (∀ p, due p = allSlots.filter fun k => decide (e.s.user k = p) && (match e.s.slot k with
      | .claimed _ (some (.full _ d)) => d
      | .live _ _ (some (.full _ d)) => d
      | .live _ _ (some (.removal d)) => d
      | _ => false)) →
    (∀ p, w = (e.s.modPanel p fun x => x.adopt.beginFrame x.adopt.soloPeriod) → opened = { e with s := w.openFrame p } →
      e.soloFrame p = Ev.checkTimeout p w ((due p).foldl (Ev.reportApplied p w) opened).endSteps) ∧
    (w.panels = ⟨(e.s.panel .p0).adopt.beginFrame
          ((e.s.modPanel .p0 Panel.adopt).modPanel .p1 Panel.adopt).jointPeriod,
        (e.s.panel .p1).adopt.beginFrame ((e.s.modPanel .p0 Panel.adopt).modPanel .p1 Panel.adopt).jointPeriod⟩ →
      w = { e.s with panels := w.panels } → opened = { e with s := (w.openFrame .p0).openFrame .p1 } →
      e.jointFrame = Ev.checkTimeout .p1 w (Ev.checkTimeout .p0 w
        ((due .p1).foldl (Ev.reportApplied .p1 w) ((due .p0).foldl (Ev.reportApplied .p0 w) opened)).endSteps))) ∧
  (∀ (s v : State) (p : PanelId), (s.panel p).inService = true → (s.panel p).cutoffDone = false →
    v = s.elapse ((s.panel p).effective - (s.panel p).lead - (s.panel p).counter) → ∃ t : State,
    Answers (.stagingCutoff p) s t ∧ t = { v.modPanel p fun x => { x with cutoffDone := true } with slots := t.slots } ∧
    ∀ k, t.slot k = if s.user k = p then (match s.slot k with
      | .claimed o (some (.full c _)) => .claimed o (some (.full c true))
      | .claimed o (some (.removal _)) => .claimed o (some (.removal true))
      | .live o c (some (.full c' _)) => .live o c (some (.full c' true))
      | .live o c (some (.removal _)) => .live o c (some (.removal true))
      | x => x) else s.slot k) ∧
  (∀ (s : State) (p : PanelId),
    ((s.panel p).inService = false → Answers (.frameStart p) s s ∧ Answers (.stagingCutoff p) s s) ∧
    ((s.panel p).cutoffDone = true → Answers (.stagingCutoff p) s s))

/-- R102, R103, R105, R107, R157, R159, R160: the quiet timer's expiry counts an attempt and takes an OFFLINE panel to OFF, where it
powers up if it is wanted lit and past its off-time, and re-resolves every record when the panel stops being dark (`resolveAll`, log
16); the stability timer's clears the attempts; a job's deadline ends its buffer wait: the wanted size is gone, the record holds
STALE and STALE_CONTENT, and the job goes on. A job that enters PREPARING waits for a buffer when its target wants one, keeping a
wait for the same size that is running, and a deadline of 0 expires at once; with no buffer to wait for and every target panel in
service it enters SLOT_WAIT, and a grant walk follows. The model's choice (log 4): an expiry of a stopped timer changes nothing. -/
def Obligations.RecoveryAndDeadlineTimers : Prop :=
  (∀ (s v w : State) (p : PanelId) (t : Nat) (x : Panel), (s.panel p).mode = .offline → (s.panel p).quietTimer = some t →
    v = s.elapse (t - s.now) →
    x = { s.panel p with attempts := (s.panel p).attempts + 1, quietTimer := none, mode := .off } →
    w = v.setPanel p (if x.litDemand = true ∧ x.offTimer = none then
      { x with
        mode := .poweringUp .rail, seqTimer := some (v.now + s.shared.tRail * 1000)
        health := 0, warning := false, linkError := .none } else x) →
    w.EngineFrame { Ev.start w with resolveAll := x.litDemand }.done ∧
    Answers (.quietExpiry p) s { Ev.start w with resolveAll := x.litDemand }.done) ∧
  (∀ (s v : State) (p : PanelId) (t : Nat), (s.panel p).stableTimer = some t → v = s.elapse (t - s.now) →
    Answers (.stabilityExpiry p) s (v.modPanel p fun x => { x with stableTimer := none, attempts := 0 })) ∧
  (∀ (s : State) (p : PanelId), ((s.panel p).mode ≠ .offline ∨ (s.panel p).quietTimer = none →
      Answers (.quietExpiry p) s s) ∧
    ((s.panel p).stableTimer = none → Answers (.stabilityExpiry p) s s)) ∧
  (∀ (s v : State) (i : Fin 40) (j : Job) (r : Record) (t : Nat), s.job? i = some j → j.expiry = some t →
    s.entry i = .used r → v = s.elapse (t - s.now) → ∃ (e : Ev) (u : State),
    e = (Ev.start v).expireWait i ∧ u = (e.examine i).done ∧ Answers (.deadlineExpiry i) s u ∧ v.EngineFrame u ∧
    e.s.record? i = some { r with wanted := none, staleContent := true, marks := { r.marks with stale := true } } ∧
    e.s.job? i = some { j with waiting := false, expiry := none } ∧
    (s.QueueOk → j.next = none → r.resPending = false →
      (∃ r', u.entry i = .used r' ∧ r'.wanted = none ∧ r'.staleContent = true ∧ r'.marks.stale = true) ∧
      ∀ j', u.job? i = some j' → j'.waiting = false ∧ j'.expiry = none)) ∧
  (∀ (s : State) (i : Fin 40), (∀ j, s.job? i = some j → j.expiry = none) → Answers (.deadlineExpiry i) s s) ∧
  (∀ (e : Ev) (i : Fin 40) (j j0 : Job) (r : Record) (next : Phase), e.s.job? i = some j → e.s.entry i = .used r →
    j0 = { j with stepOne := [], stepTwo := [], outstanding := [] } →
    next = (if j.target.pieces.all fun q => (e.s.panel q.panel).inService then .slotWait else .preparing) →
    (j.target.wanted = none →
      (e.prepare i).s.job? i = some { j0 with waiting := false, expiry := none, phase := next } ∧
      (e.prepare i).s.entry i = .used { r with wanted := none }) ∧
    (∀ z, j.target.wanted = some z → r.wanted = some z → j.expiry ≠ none →
      (e.prepare i).s.job? i = some { j0 with waiting := true, phase := .preparing } ∧
      (e.prepare i).s.entry i = .used r) ∧
    (∀ z, j.target.wanted = some z → r.wanted ≠ some z ∨ j.expiry = none →
      (0 < j.target.deadlineMs →
        (e.prepare i).s.job? i = some { j0 with
          waiting := true, expiry := some (e.s.now + j.target.deadlineMs * 1000), phase := .preparing } ∧
        (e.prepare i).s.entry i = .used { r with wanted := some z, marks := { r.marks with wanted := true } }) ∧
      (j.target.deadlineMs = 0 →
        (e.prepare i).s.job? i = some { j0 with waiting := false, expiry := none, phase := next } ∧
        (e.prepare i).s.entry i = .used { r with
          wanted := none, staleContent := true, marks := { r.marks with wanted := true, stale := true } })) ∧
    ((e.prepare i).walk = true ↔ e.walk = true ∨ ∃ j', (e.prepare i).s.job? i = some j' ∧ j'.phase = .slotWait))

/-! ### Operations -/

/-- R13: the corrected angle of a raw code, whole: its formula, its bounds, the default table, and where the largest code of a
segment lands. -/
def Obligations.CorrectedAngleRule : Prop :=
  (∀ (cal : Vector Nat 9) (r : Nat) (k : Fin 8) (f : Nat), k.val = r / 2048 → f = r % 2048 →
    (∀ n : Fin 8, cal[n.val] ≤ cal[n.val + 1]) →
    correctedAngle cal r = cal[k.val] + ((cal[k.val + 1] - cal[k.val]) * f + 1024) / 2048 ∧
    cal[k.val] ≤ correctedAngle cal r ∧ correctedAngle cal r ≤ cal[k.val + 1] ∧
    cal[0] ≤ correctedAngle cal r ∧ correctedAngle cal r ≤ cal[8] ∧
    (cal[k.val + 1] = cal[k.val] → correctedAngle cal r = cal[k.val]) ∧
    (f = 2047 → cal[k.val + 1] ≤ 3600 →
      (cal[k.val + 1] - cal[k.val] ≤ 1024 → correctedAngle cal r = cal[k.val + 1]) ∧
      (1024 < cal[k.val + 1] - cal[k.val] → cal[k.val + 1] - cal[k.val] ≤ 3072 →
        correctedAngle cal r + 1 = cal[k.val + 1]) ∧
      (3072 < cal[k.val + 1] - cal[k.val] → correctedAngle cal r + 2 = cal[k.val + 1]))) ∧
  (∀ k : Fin 9, State.reset.hinge.cal[k] = 450 * k.val) ∧
  correctedAngle State.reset.hinge.cal 0 = 0 ∧ correctedAngle State.reset.hinge.cal 16383 = 3600

/-- R24: the candidate for an angle, whole: the committed posture while the angle lies in its widened band, and otherwise the
angle's plain band; the default margin is 40, and with a margin of 0 the widened band is the plain band. -/
def Obligations.CandidateRule : Prop :=
  (∀ (c : Classifier) (f : Nat), c.Ok → f ≤ 3600 →
    (c.committed = .closed → (f < c.b1 + c.margin → c.candidateFor f = .closed) ∧
      (c.b1 + c.margin ≤ f → c.candidateFor f = c.plainBand f)) ∧
    (c.committed = .book → (c.b1 - c.margin ≤ f → f < c.b2 + c.margin → c.candidateFor f = .book) ∧
      (f < c.b1 - c.margin ∨ c.b2 + c.margin ≤ f → c.candidateFor f = c.plainBand f)) ∧
    (c.committed = .flat → (c.b2 - c.margin ≤ f → f < c.b3 + c.margin → c.candidateFor f = .flat) ∧
      (f < c.b2 - c.margin ∨ c.b3 + c.margin ≤ f → c.candidateFor f = c.plainBand f)) ∧
    (c.committed = .tent → (c.b3 - c.margin ≤ f → f < c.b4 + c.margin → c.candidateFor f = .tent) ∧
      (f < c.b3 - c.margin ∨ c.b4 + c.margin ≤ f → c.candidateFor f = c.plainBand f)) ∧
    (c.committed = .folded → (c.b4 - c.margin ≤ f → c.candidateFor f = .folded) ∧
      (f < c.b4 - c.margin → c.candidateFor f = c.plainBand f)) ∧
    (c.plainBand f = .closed ↔ f < c.b1) ∧ (c.plainBand f = .book ↔ c.b1 ≤ f ∧ f < c.b2) ∧
    (c.plainBand f = .flat ↔ c.b2 ≤ f ∧ f < c.b3) ∧ (c.plainBand f = .tent ↔ c.b3 ≤ f ∧ f < c.b4) ∧
    (c.plainBand f = .folded ↔ c.b4 ≤ f) ∧
    (c.margin = 0 → c.candidateFor f = c.plainBand f)) ∧
  State.reset.posture.margin = 40 ∧
  (∀ c : Classifier, c.committed = .book → c.b1 = 150 → c.b2 = 1550 → c.b3 = 2050 → c.b4 = 3300 → c.margin = 40 →
    c.candidateFor 1580 = .book ∧ c.candidateFor 1590 = .flat ∧ c.candidateFor 105 = .closed)

/-- R83 to R87, R141: the pieces of a target rectangle show exactly the part of it that lies on the panels. A panel position is
covered by a piece just when its point of the area is in the rectangle: the position itself on a panel, turned about the panel's
centre on a rotated one, moved right by W + G on panel 1 of the canvas. Each piece lies within its panel, is not empty, and its
source offset is its distance from the rectangle's left and top. What a panel shows at a position (log 20): the topmost live slot of
its stack that covers it shows its fill colour in FILL mode, with no buffer or beyond its buffer, and otherwise the buffer pixel of
R87, counted from the other end on a rotated piece; with no slot covering it, the background. -/
def Obligations.PiecesShowTheRectangle : Prop :=
  (∀ (g : Shared) (rotated : Option PanelId) (a : Area) (r : Rect) (q : PanelId) (px py x y : Int) (turned : Bool),
    (∀ p, rotated = some p → a ≠ .canvas) →
    (turned = true ↔ a = .panel q ∧ rotated = some q) →
    x = (if turned then g.width - 1 - px else px) + (if a = .canvas ∧ q = .p1 then (g.width + g.seam : Int) else 0) →
    y = (if turned then g.height - 1 - py else py) →
    ((∃ t ∈ piecesOf g rotated a r, t.panel = q ∧ t.dest.covers px py = true) ↔
      (a = .canvas ∨ a = .panel q) ∧ 0 ≤ px ∧ px < g.width ∧ 0 ≤ py ∧ py < g.height ∧ r.covers x y = true) ∧
    (∀ t ∈ piecesOf g rotated a r, t.panel = q →
      0 ≤ t.dest.x ∧ t.dest.x + t.dest.w ≤ g.width ∧ 0 ≤ t.dest.y ∧ t.dest.y + t.dest.h ≤ g.height ∧
      0 < t.dest.w ∧ 0 < t.dest.h ∧ t.rotated = turned ∧ t.slot = none ∧
      (t.dest.covers px py = true →
        (t.srcX : Int) + logicalOffset turned t.dest.w (px - t.dest.x).toNat = x - r.x ∧
        (t.srcY : Int) + logicalOffset turned t.dest.h (py - t.dest.y).toNat = y - r.y)) ∧
    ((piecesOf g rotated a r).map TargetPiece.panel).Pairwise (fun p p' => p = .p0 ∧ p' = .p1)) ∧
  (∀ (s : State) (p : PanelId) (x y : Int) (covers : SlotConfig → Prop),
    (∀ c, covers c ↔ c.dest.x ≤ x ∧ x < c.dest.x + c.dest.w ∧ c.dest.y ≤ y ∧ y < c.dest.y + c.dest.h) →
    ((∀ k ∈ (s.panel p).stack, ∀ o c st, s.slot k = .live o c st → ¬covers c) → s.shown p x y = .background) ∧
    (∀ (below above : List (Fin 16)) (k : Fin 16) (o : Handle) (c : SlotConfig) (st : Option Staged) (u v : Nat),
      (s.panel p).stack = below ++ k :: above → s.slot k = .live o c st → covers c →
      (∀ m ∈ above, ∀ o' c' st', s.slot m = .live o' c' st' → ¬covers c') →
      (u : Int) = c.srcX + (if c.rotated then c.dest.w - 1 - (x - c.dest.x) else x - c.dest.x) →
      (v : Int) = c.srcY + (if c.rotated then c.dest.h - 1 - (y - c.dest.y) else y - c.dest.y) →
      (c.fetch = .fill ∨ c.buffer = none → s.shown p x y = .colour c.fill) ∧
      (∀ b, c.fetch ≠ .fill → c.buffer = some b →
        (u < b.desc.width.toNat → v < b.desc.height.toNat →
          s.shown p x y = .memory (b.desc.address.toNat + v * b.desc.stride.toNat + 4 * u)) ∧
        (¬(u < b.desc.width.toNat ∧ v < b.desc.height.toNat) → s.shown p x y = .colour c.fill))))

/-- R140, R142: at a frame start a panel's stack holds each live slot it uses once, ordered by focus mark, then z rank, then owner
index; and the lending setting gives each panel its usable count of slots: 8 less those it lends and 8 more those it borrows. A
grant walk takes the jobs in queue order (R109). A job in SLOT_WAIT is granted when every target panel has a slot its record owns or
a free usable one, and nothing otherwise; it takes the owned slot, or the lowest free one, which becomes CLAIMED (R110). Its attach
step acts on each target piece and its detach step removes the slots on panels without one (R111); MAKE takes the attach step first
and BREAK the detach step (R112), and the first step is staged at once, a piece with the record's buffer, z rank, fill colour and
focus mark (R113, R54). What is left of an event is done at its end: the due re-resolution, then each step that ended, the backlog,
and last the grant walk (R109, R114, R117), at most 400 of them (log 24), and NOTICE (R166). -/
def Obligations.StackAndLending : Prop :=
  (∀ (s : State) (p : PanelId),
    (s.stackOf p).Nodup ∧ (∀ k, k ∈ s.stackOf p ↔ s.user k = p ∧ (s.slot k).isLive = true) ∧
    (s.stackOf p).Pairwise fun k m => ∀ a b, (s.slot k).cfg? = some a → (s.slot m).cfg? = some b →
      (a.focus = false ∧ b.focus = true) ∨ a.focus = b.focus ∧
        (a.z.toNat < b.z.toNat ∨ a.z = b.z ∧ a.owner.index ≤ b.owner.index)) ∧
  (∀ (lender p : PanelId) (n : Nat) (k : Fin 16), n = 0 ∨ n = 2 ∨ n = 4 ∨ n = 6 →
    (usingPanel lender n k = .p0 ↔
      k.val < 8 ∧ (lender = .p1 ∨ k.val + n < 8) ∨ 8 ≤ k.val ∧ lender = .p1 ∧ 16 ≤ k.val + n) ∧
    (allSlots.countP fun k => usingPanel lender n k = p) = if lender = p then 8 - n else 8 + n) ∧
  (∀ e : Ev, e.grantWalk = (e.s.queue.map fun j => j.handle.index).foldl Ev.grantOne { e with walk := false }) ∧
  (∀ (e w : Ev) (n : Nat) (walks : Bool) (ended : Job → Bool),
    (∀ j, ended j = (decide (j.phase = .stepOne ∨ j.phase = .stepTwo) && decide (j.outstanding = []))) →
    (w = Ev.settle true 400 e.resolveDue →
      e.finish = { w with s := { w.s with attn := { w.s.attn with
        marked := allRecords.countP fun i => (w.s.entry i).marks ≠ .empty
        wantedInd := allRecords.any fun i => (w.s.entry i).marks.wanted
        flags := { w.s.attn.flags with
          notice := decide (w.s.attn.threshold ≤ allRecords.countP fun i => (w.s.entry i).marks ≠ .empty) ||
            allRecords.any fun i => (w.s.entry i).marks.wanted } } } }) ∧
    e.endSteps = Ev.settle false 400 e ∧ Ev.settle walks 0 e = e ∧
    (∀ j, e.s.queue.find? ended = some j → Ev.settle walks (n + 1) e = Ev.settle walks n (e.endStep j)) ∧
    (e.s.queue.find? ended = none →
      (e.left ≠ 0 → Ev.settle walks (n + 1) e = Ev.settle walks n e.takeUp) ∧
      (e.left = 0 → walks = true → e.walk = true → Ev.settle walks (n + 1) e = Ev.settle walks n e.grantWalk) ∧
      (e.left = 0 → walks = false ∨ e.walk = false → Ev.settle walks (n + 1) e = e))) ∧
  (∀ (e : Ev) (i : Fin 40) (j : Job) (own usable : PanelId → Fin 16 → Prop), e.s.job? i = some j →
    (∀ p k, own p k ↔ e.s.user k = p ∧ (e.s.slot k).ownedBy i = true) →
    (∀ p k, usable p k ↔ e.s.user k = p ∧ e.s.slot k = .free ∧ (e.s.panel p).inService = true) →
    (j.phase ≠ .slotWait ∨ (∃ t ∈ j.target.pieces, ∀ k, ¬own t.panel k ∧ ¬usable t.panel k) → e.grantOne i = e) ∧
    (j.phase = .slotWait → (∀ t ∈ j.target.pieces, ∃ k, own t.panel k ∨ usable t.panel k) →
      ∃ (pieces : List TargetPiece) (attach detach : List SlotAction) (j' : Job),
        (e.grantOne i).s.job? i = some j' ∧
        j' = { j with
          phase := .stepOne, stepOne := j'.stepOne, stepTwo := j'.stepTwo, outstanding := j'.stepOne
          target := { j.target with shown := j.target.shown.map fun x => { x with pieces := pieces } } } ∧
        (j.target.mode = .make → j'.stepOne = attach ∧ j'.stepTwo = detach) ∧
        (j.target.mode = .brk → j'.stepOne = detach ∧ j'.stepTwo = attach) ∧
        List.Forall₂ (fun t t' => ∃ k, t' = { t with slot := some k } ∧
          (own t.panel k ∧ (∀ m < k, ¬own t.panel m) ∨
            (∀ m, ¬own t.panel m) ∧ usable t.panel k ∧ ∀ m < k, ¬usable t.panel m)) j.target.pieces pieces ∧
        List.Forall₂ (fun t a => t.slot = some a.slot ∧
          a.kind = if e.s.slot a.slot = .free then .attach else .restage) pieces attach ∧
        (∀ a, a ∈ detach ↔ a.kind = .removal ∧ (e.s.slot a.slot).ownedBy i = true ∧
          ∀ t ∈ j.target.pieces, t.panel ≠ e.s.user a.slot) ∧
        detach.Pairwise (fun a b => a.slot < b.slot) ∧
        (∀ (k : Fin 16) (r : Record), e.s.entry i = .used r → (j.target.pieces.map TargetPiece.panel).Nodup →
          (∀ t ∈ pieces, t.slot = some k → ∀ x : Staged, x = .full {
              owner := ⟨e.s.gen i, i⟩, dest := t.dest, srcX := t.srcX, srcY := t.srcY, rotated := t.rotated
              buffer := (match r.pending with
                | some b => some b
                | none => r.current)
              fetch := if r.pending = none ∧ r.current = none then .fill else if t.rotated then .decrement else .increment
              fill := r.fill, z := r.z, focus := e.s.isFocus i } false →
            (j.target.mode = .make → (e.grantOne i).s.slot k = (match e.s.slot k with
              | .free => .claimed ⟨e.s.gen i, i⟩ (some x)
              | .claimed o _ => .claimed o (some x)
              | .live o c _ => .live o c (some x))) ∧
            (j.target.mode = .brk → (e.grantOne i).s.slot k =
              if e.s.slot k = .free then .claimed ⟨e.s.gen i, i⟩ none else e.s.slot k)) ∧
          ((∀ t ∈ pieces, t.slot ≠ some k) → (e.grantOne i).s.slot k =
            if j.target.mode = .brk ∧ ⟨.removal, k⟩ ∈ detach then (match e.s.slot k with
              | .free => .free
              | .claimed o _ => .claimed o (some (.removal false))
              | .live o c _ => .live o c (some (.removal false))) else e.s.slot k))))

/-- R96 to R100: what the engine does with a resolution passed for a record. With no job, a free queue entry makes one, at the head
for the focus record and at the tail otherwise, and the record MOVING; a full queue sets the resolution-pending mark and BACKLOG. A
job that has not begun its steps takes the resolution as its target; one that has keeps it as its next target, or drops the next
target when the resolution equals its target. When two are equal (R91). What the end of a step does: a job with a next target and a
second step is redirected (R115); otherwise the second step is staged, or the job completes, with the pieces whose slots are LIVE
and its record's, and takes up its next target or leaves the queue (R116). A freed entry is offered to the lowest-index marked
record (R117). A slot lost to a panel leaving service settles or drops its action and drops its target piece, and no resolution
equals a target that has lost every piece, so the job of a record that lost them all holds a next target (R118, R116, log 14). -/
def Obligations.ResolutionPassed : Prop :=
  (∀ (e : Ev) (i : Fin 40) (r : Record) (res : Resolution), e.s.entry i = .used r →
    (e.s.job? i = none → e.s.queue.length < 16 → r.resPending = false ∨ res.samePlacement r = false →
      ((e.pass i r res).s.queue.map Job.handle = if e.s.isFocus i then e.s.handle i :: e.s.queue.map Job.handle
        else e.s.queue.map Job.handle ++ [e.s.handle i]) ∧
      ((e.pass i r res).s.record? i).map Record.state = some .moving ∧
      ((e.pass i r res).s.record? i).map Record.resPending = some false ∧
      (∃ j, (e.pass i r res).s.job? i = some j ∧ j.target = res ∧ j.next = none) ∧ (e.pass i r res).changed = true) ∧
    (e.s.job? i = none → 16 ≤ e.s.queue.length → r.resPending = false →
      e.pass i r res = { e with
        changed := true
        s := { e.s.setEntry i (.used { r with resPending := true }) with
          attn := { e.s.attn with flags := { e.s.attn.flags with backlog := true } } } }) ∧
    (e.s.job? i = none → r.resPending = true → res.samePlacement r = true →
      e.pass i r res = { e with s := e.s.setEntry i (.used { r with resPending := false }) }) ∧
    (e.s.job? i = none → 16 ≤ e.s.queue.length → r.resPending = true → res.samePlacement r = false →
      e.pass i r res = e) ∧
    (∀ j, e.s.job? i = some j → j.phase = .preparing ∨ j.phase = .slotWait →
      (e.pass i r res).s.queue.map Job.handle = e.s.queue.map Job.handle ∧ (e.pass i r res).changed = true ∧
      ∃ j', (e.pass i r res).s.job? i = some j' ∧ j'.target = res ∧ j'.handle = j.handle ∧
        (j'.phase = .preparing ∨ j'.phase = .slotWait)) ∧
    (∀ j, e.s.job? i = some j → j.phase = .stepOne ∨ j.phase = .stepTwo →
      (e.pass i r res).changed = true ∧ (e.pass i r res).s.slots = e.s.slots ∧
      (e.pass i r res).s.queue.map Job.handle = e.s.queue.map Job.handle ∧
      (e.pass i r res).s.job? i = some { j with next := if res.sameTarget j.target then none else some res })) ∧
  (∀ (a b : Resolution) (r : Record) (key : TargetPiece → PanelId × Rect × Nat × Nat × Bool)
      (shown : Piece → PanelId × Rect × Nat × Nat × Bool),
    (∀ t, key t = (t.panel, t.dest, t.srcX, t.srcY, t.rotated)) →
    (∀ q, shown q = (q.panel, q.dest, q.srcX, q.srcY, q.rotated)) →
    (a.sameTarget b = true ↔ a.shown = none ∧ b.shown = none ∨ ∃ x y, a.shown = some x ∧ b.shown = some y ∧
      x.rect = y.rect ∧ x.pieces.map key = y.pieces.map key) ∧
    (a.samePlacement r = true ↔ a.shown = none ∧ r.pieces = [] ∨ ∃ x, a.shown = some x ∧ r.pieces ≠ [] ∧
      r.rect = some x.rect ∧ x.pieces.map key = r.pieces.map shown)) ∧
  (∀ (e : Ev) (i : Fin 40) (j : Job) (r : Record), e.s.job? i = some j → e.s.entry i = .used r →
    (∀ n, j.phase = .stepOne → j.stepTwo ≠ [] → j.next = some n → ∃ e' : Ev, e.endStep j = e'.prepare i ∧
      e'.s.job? i = some { j with target := n, next := none } ∧ e'.s.queue.map Job.handle = e.s.queue.map Job.handle ∧
      e'.s.table = e.s.table ∧ (∀ k, e'.s.slot k = (match e.s.slot k with
        | .claimed o st => if j.stepTwo.any fun a => decide (a.slot = k) then .free else .claimed o st
        | x => x)) ∧
      (e'.walk = true ↔ e.walk = true ∨ ∃ a ∈ j.stepTwo, ∃ o st, e.s.slot a.slot = .claimed o st)) ∧
    (j.phase = .stepOne → j.stepTwo ≠ [] → j.next = none →
      (e.endStep j).s.job? i = some { j with phase := .stepTwo, outstanding := j.stepTwo } ∧
      (e.endStep j).s.slots = (j.stepTwo.foldl (fun s a => s.stageAction i j.target.pieces a) e.s).slots ∧
      (e.endStep j).s.table = e.s.table) ∧
    (∀ (l : List Piece) (r' : Record), j.phase = .stepTwo ∨ j.phase = .stepOne ∧ j.stepTwo = [] →
      l = ((j.target.pieces.filter fun t => t.slot.any fun k => (e.s.slot k).isLive && (e.s.slot k).ownedBy i).map fun t =>
        ⟨t.panel, t.slot.getD 0, t.dest, t.srcX, t.srcY, t.rotated⟩) →
      r' = { r with
        pieces := l, marks := { r.marks with placement := true }
        rect := (match j.target.shown with
          | some x => some x.rect
          | none => r.rect) } →
      (j.next = none → (e.endStep j).s.job? i = none ∧ (e.endStep j).left = e.left + 1 ∧
        (e.endStep j).s.slots = e.s.slots ∧
        (e.endStep j).s.entry i = .used { r' with state := if l = [] then .parked else .placed }) ∧
      (∀ n, j.next = some n → ∃ e' : Ev, e.endStep j = e'.prepare i ∧ e'.s.slots = e.s.slots ∧ e'.s.entry i = .used r' ∧
        e'.s.job? i = some { j with target := n, next := none } ∧
        e'.s.queue.map Job.handle = e.s.queue.map Job.handle))) ∧
  (∀ (e : Ev) (marked : Ev → Fin 40 → Prop), (∀ d i, marked d i ↔ ∃ r, d.s.entry i = .used r ∧ r.resPending = true) →
    ((∀ i, ¬marked e i) → e.takeUp = { e with left := 0 }) ∧
    (∀ i d, marked e i → (∀ m < i, ¬marked e m) → d = e.reresolve i →
      (marked d i → e.takeUp = { d with left := 0 }) ∧
      (¬marked d i → e.s.queue.length < d.s.queue.length → e.takeUp = { d with left := d.left - 1 }) ∧
      (¬marked d i → d.s.queue.length ≤ e.s.queue.length → e.takeUp = d))) ∧
  (∀ (e : Ev) (before : State) (k : Fin 16) (o : Handle) (j : Job) (evict : Bool), (before.slot k).owner? = some o →
    e.s.job? o.index = some j → (Ev.reportLoss evict before e k).s.job? o.index = some { j with
      stepOne := j.stepOne.filter fun a => decide (a.slot ≠ k)
      stepTwo := j.stepTwo.filter fun a => decide (a.slot ≠ k)
      outstanding := j.outstanding.filter fun a => decide (a.slot ≠ k)
      target := { j.target with shown := j.target.shown.map fun x =>
        { x with pieces := x.pieces.filter fun t => decide (t.slot ≠ some k) } } }) ∧
  (∀ (s : State) (i : Fin 40) (r : Record) (t : Resolution) (x : ShownTarget), t.shown = some x → x.pieces = [] →
    (s.resolve i r).sameTarget t = false)
end

