-- ==== Sys2Proof/Laws/State.lean ====
section
/-! SUPPORT. One lemma per field that an update of the state leaves alone, and what the updates do to the field they change. -/

namespace Sys2Proof.Machine

variable (s : State)

/-! ### setPanel -/

@[simp] theorem State.setPanel_hinge (p : PanelId) (x : Panel) : (s.setPanel p x).hinge = s.hinge := rfl
@[simp] theorem State.setPanel_posture (p : PanelId) (x : Panel) : (s.setPanel p x).posture = s.posture := rfl
@[simp] theorem State.setPanel_table (p : PanelId) (x : Panel) : (s.setPanel p x).table = s.table := rfl
@[simp] theorem State.setPanel_rules (p : PanelId) (x : Panel) : (s.setPanel p x).rules = s.rules := rfl
@[simp] theorem State.setPanel_queue (p : PanelId) (x : Panel) : (s.setPanel p x).queue = s.queue := rfl
@[simp] theorem State.setPanel_shared (p : PanelId) (x : Panel) : (s.setPanel p x).shared = s.shared := rfl
@[simp] theorem State.setPanel_slots (p : PanelId) (x : Panel) : (s.setPanel p x).slots = s.slots := rfl
@[simp] theorem State.setPanel_attn (p : PanelId) (x : Panel) : (s.setPanel p x).attn = s.attn := rfl
@[simp] theorem State.setPanel_link (p : PanelId) (x : Panel) : (s.setPanel p x).link = s.link := rfl
@[simp] theorem State.setPanel_now (p : PanelId) (x : Panel) : (s.setPanel p x).now = s.now := rfl
@[simp] theorem State.setPanel_offers (p : PanelId) (x : Panel) : (s.setPanel p x).offers = s.offers := rfl
@[simp] theorem State.setPanel_pending (p : PanelId) (x : Panel) : (s.setPanel p x).pending = s.pending := rfl

/-! ### modPanel -/

@[simp] theorem State.modPanel_hinge (p : PanelId) (f : Panel → Panel) : (s.modPanel p f).hinge = s.hinge := rfl
@[simp] theorem State.modPanel_posture (p : PanelId) (f : Panel → Panel) : (s.modPanel p f).posture = s.posture := rfl
@[simp] theorem State.modPanel_table (p : PanelId) (f : Panel → Panel) : (s.modPanel p f).table = s.table := rfl
@[simp] theorem State.modPanel_rules (p : PanelId) (f : Panel → Panel) : (s.modPanel p f).rules = s.rules := rfl
@[simp] theorem State.modPanel_queue (p : PanelId) (f : Panel → Panel) : (s.modPanel p f).queue = s.queue := rfl
@[simp] theorem State.modPanel_shared (p : PanelId) (f : Panel → Panel) : (s.modPanel p f).shared = s.shared := rfl
@[simp] theorem State.modPanel_slots (p : PanelId) (f : Panel → Panel) : (s.modPanel p f).slots = s.slots := rfl
@[simp] theorem State.modPanel_attn (p : PanelId) (f : Panel → Panel) : (s.modPanel p f).attn = s.attn := rfl
@[simp] theorem State.modPanel_link (p : PanelId) (f : Panel → Panel) : (s.modPanel p f).link = s.link := rfl
@[simp] theorem State.modPanel_now (p : PanelId) (f : Panel → Panel) : (s.modPanel p f).now = s.now := rfl
@[simp] theorem State.modPanel_offers (p : PanelId) (f : Panel → Panel) : (s.modPanel p f).offers = s.offers := rfl
@[simp] theorem State.modPanel_pending (p : PanelId) (f : Panel → Panel) : (s.modPanel p f).pending = s.pending := rfl

/-! ### elapse -/

@[simp] theorem State.elapse_hinge (us : Nat) : (s.elapse us).hinge = s.hinge := rfl
@[simp] theorem State.elapse_posture (us : Nat) : (s.elapse us).posture = s.posture := rfl
@[simp] theorem State.elapse_table (us : Nat) : (s.elapse us).table = s.table := rfl
@[simp] theorem State.elapse_rules (us : Nat) : (s.elapse us).rules = s.rules := rfl
@[simp] theorem State.elapse_queue (us : Nat) : (s.elapse us).queue = s.queue := rfl
@[simp] theorem State.elapse_shared (us : Nat) : (s.elapse us).shared = s.shared := rfl
@[simp] theorem State.elapse_slots (us : Nat) : (s.elapse us).slots = s.slots := rfl
@[simp] theorem State.elapse_attn (us : Nat) : (s.elapse us).attn = s.attn := rfl
@[simp] theorem State.elapse_link (us : Nat) : (s.elapse us).link = s.link := rfl
@[simp] theorem State.elapse_offers (us : Nat) : (s.elapse us).offers = s.offers := rfl
@[simp] theorem State.elapse_pending (us : Nat) : (s.elapse us).pending = s.pending := rfl

/-! ### reach -/

@[simp] theorem State.reach_hinge (t : Nat) : (s.reach t).hinge = s.hinge := rfl
@[simp] theorem State.reach_posture (t : Nat) : (s.reach t).posture = s.posture := rfl
@[simp] theorem State.reach_table (t : Nat) : (s.reach t).table = s.table := rfl
@[simp] theorem State.reach_rules (t : Nat) : (s.reach t).rules = s.rules := rfl
@[simp] theorem State.reach_queue (t : Nat) : (s.reach t).queue = s.queue := rfl
@[simp] theorem State.reach_shared (t : Nat) : (s.reach t).shared = s.shared := rfl
@[simp] theorem State.reach_slots (t : Nat) : (s.reach t).slots = s.slots := rfl
@[simp] theorem State.reach_attn (t : Nat) : (s.reach t).attn = s.attn := rfl
@[simp] theorem State.reach_link (t : Nat) : (s.reach t).link = s.link := rfl
@[simp] theorem State.reach_offers (t : Nat) : (s.reach t).offers = s.offers := rfl
@[simp] theorem State.reach_pending (t : Nat) : (s.reach t).pending = s.pending := rfl

/-! ### setEntry -/

@[simp] theorem State.setEntry_hinge (i : Fin 40) (e : TableSlot) : (s.setEntry i e).hinge = s.hinge := rfl
@[simp] theorem State.setEntry_posture (i : Fin 40) (e : TableSlot) : (s.setEntry i e).posture = s.posture := rfl
@[simp] theorem State.setEntry_rules (i : Fin 40) (e : TableSlot) : (s.setEntry i e).rules = s.rules := rfl
@[simp] theorem State.setEntry_queue (i : Fin 40) (e : TableSlot) : (s.setEntry i e).queue = s.queue := rfl
@[simp] theorem State.setEntry_panels (i : Fin 40) (e : TableSlot) : (s.setEntry i e).panels = s.panels := rfl
@[simp] theorem State.setEntry_shared (i : Fin 40) (e : TableSlot) : (s.setEntry i e).shared = s.shared := rfl
@[simp] theorem State.setEntry_slots (i : Fin 40) (e : TableSlot) : (s.setEntry i e).slots = s.slots := rfl
@[simp] theorem State.setEntry_attn (i : Fin 40) (e : TableSlot) : (s.setEntry i e).attn = s.attn := rfl
@[simp] theorem State.setEntry_link (i : Fin 40) (e : TableSlot) : (s.setEntry i e).link = s.link := rfl
@[simp] theorem State.setEntry_now (i : Fin 40) (e : TableSlot) : (s.setEntry i e).now = s.now := rfl
@[simp] theorem State.setEntry_offers (i : Fin 40) (e : TableSlot) : (s.setEntry i e).offers = s.offers := rfl
@[simp] theorem State.setEntry_pending (i : Fin 40) (e : TableSlot) : (s.setEntry i e).pending = s.pending := rfl

/-! ### mapRecords -/

@[simp] theorem State.mapRecords_hinge (f : Record → Record) : (s.mapRecords f).hinge = s.hinge := by simp only [State.mapRecords]
@[simp] theorem State.mapRecords_posture (f : Record → Record) : (s.mapRecords f).posture = s.posture := by simp only [State.mapRecords]
@[simp] theorem State.mapRecords_rules (f : Record → Record) : (s.mapRecords f).rules = s.rules := by simp only [State.mapRecords]
@[simp] theorem State.mapRecords_queue (f : Record → Record) : (s.mapRecords f).queue = s.queue := by simp only [State.mapRecords]
@[simp] theorem State.mapRecords_panels (f : Record → Record) : (s.mapRecords f).panels = s.panels := by simp only [State.mapRecords]
@[simp] theorem State.mapRecords_shared (f : Record → Record) : (s.mapRecords f).shared = s.shared := by simp only [State.mapRecords]
@[simp] theorem State.mapRecords_slots (f : Record → Record) : (s.mapRecords f).slots = s.slots := by simp only [State.mapRecords]
@[simp] theorem State.mapRecords_attn (f : Record → Record) : (s.mapRecords f).attn = s.attn := by simp only [State.mapRecords]
@[simp] theorem State.mapRecords_link (f : Record → Record) : (s.mapRecords f).link = s.link := by simp only [State.mapRecords]
@[simp] theorem State.mapRecords_now (f : Record → Record) : (s.mapRecords f).now = s.now := by simp only [State.mapRecords]
@[simp] theorem State.mapRecords_offers (f : Record → Record) : (s.mapRecords f).offers = s.offers := by simp only [State.mapRecords]
@[simp] theorem State.mapRecords_pending (f : Record → Record) : (s.mapRecords f).pending = s.pending := by simp only [State.mapRecords]

/-! ### advanceGen -/

@[simp] theorem State.advanceGen_hinge (i : Fin 40) : (s.advanceGen i).hinge = s.hinge := rfl
@[simp] theorem State.advanceGen_posture (i : Fin 40) : (s.advanceGen i).posture = s.posture := rfl
@[simp] theorem State.advanceGen_rules (i : Fin 40) : (s.advanceGen i).rules = s.rules := rfl
@[simp] theorem State.advanceGen_queue (i : Fin 40) : (s.advanceGen i).queue = s.queue := rfl
@[simp] theorem State.advanceGen_panels (i : Fin 40) : (s.advanceGen i).panels = s.panels := rfl
@[simp] theorem State.advanceGen_shared (i : Fin 40) : (s.advanceGen i).shared = s.shared := rfl
@[simp] theorem State.advanceGen_slots (i : Fin 40) : (s.advanceGen i).slots = s.slots := rfl
@[simp] theorem State.advanceGen_attn (i : Fin 40) : (s.advanceGen i).attn = s.attn := rfl
@[simp] theorem State.advanceGen_link (i : Fin 40) : (s.advanceGen i).link = s.link := rfl
@[simp] theorem State.advanceGen_now (i : Fin 40) : (s.advanceGen i).now = s.now := rfl
@[simp] theorem State.advanceGen_offers (i : Fin 40) : (s.advanceGen i).offers = s.offers := rfl
@[simp] theorem State.advanceGen_pending (i : Fin 40) : (s.advanceGen i).pending = s.pending := rfl

/-! ### setSlot -/

@[simp] theorem State.setSlot_hinge (k : Fin 16) (x : LayerSlot) : (s.setSlot k x).hinge = s.hinge := rfl
@[simp] theorem State.setSlot_posture (k : Fin 16) (x : LayerSlot) : (s.setSlot k x).posture = s.posture := rfl
@[simp] theorem State.setSlot_table (k : Fin 16) (x : LayerSlot) : (s.setSlot k x).table = s.table := rfl
@[simp] theorem State.setSlot_rules (k : Fin 16) (x : LayerSlot) : (s.setSlot k x).rules = s.rules := rfl
@[simp] theorem State.setSlot_queue (k : Fin 16) (x : LayerSlot) : (s.setSlot k x).queue = s.queue := rfl
@[simp] theorem State.setSlot_panels (k : Fin 16) (x : LayerSlot) : (s.setSlot k x).panels = s.panels := rfl
@[simp] theorem State.setSlot_shared (k : Fin 16) (x : LayerSlot) : (s.setSlot k x).shared = s.shared := rfl
@[simp] theorem State.setSlot_attn (k : Fin 16) (x : LayerSlot) : (s.setSlot k x).attn = s.attn := rfl
@[simp] theorem State.setSlot_link (k : Fin 16) (x : LayerSlot) : (s.setSlot k x).link = s.link := rfl
@[simp] theorem State.setSlot_now (k : Fin 16) (x : LayerSlot) : (s.setSlot k x).now = s.now := rfl
@[simp] theorem State.setSlot_offers (k : Fin 16) (x : LayerSlot) : (s.setSlot k x).offers = s.offers := rfl
@[simp] theorem State.setSlot_pending (k : Fin 16) (x : LayerSlot) : (s.setSlot k x).pending = s.pending := rfl

/-! ### stageAt -/

@[simp] theorem State.stageAt_hinge (k : Fin 16) (st : Staged) : (s.stageAt k st).hinge = s.hinge := rfl
@[simp] theorem State.stageAt_posture (k : Fin 16) (st : Staged) : (s.stageAt k st).posture = s.posture := rfl
@[simp] theorem State.stageAt_table (k : Fin 16) (st : Staged) : (s.stageAt k st).table = s.table := rfl
@[simp] theorem State.stageAt_rules (k : Fin 16) (st : Staged) : (s.stageAt k st).rules = s.rules := rfl
@[simp] theorem State.stageAt_queue (k : Fin 16) (st : Staged) : (s.stageAt k st).queue = s.queue := rfl
@[simp] theorem State.stageAt_panels (k : Fin 16) (st : Staged) : (s.stageAt k st).panels = s.panels := rfl
@[simp] theorem State.stageAt_shared (k : Fin 16) (st : Staged) : (s.stageAt k st).shared = s.shared := rfl
@[simp] theorem State.stageAt_attn (k : Fin 16) (st : Staged) : (s.stageAt k st).attn = s.attn := rfl
@[simp] theorem State.stageAt_link (k : Fin 16) (st : Staged) : (s.stageAt k st).link = s.link := rfl
@[simp] theorem State.stageAt_now (k : Fin 16) (st : Staged) : (s.stageAt k st).now = s.now := rfl
@[simp] theorem State.stageAt_offers (k : Fin 16) (st : Staged) : (s.stageAt k st).offers = s.offers := rfl
@[simp] theorem State.stageAt_pending (k : Fin 16) (st : Staged) : (s.stageAt k st).pending = s.pending := rfl

/-! ### modJob -/

@[simp] theorem State.modJob_hinge (i : Fin 40) (f : Job → Job) : (s.modJob i f).hinge = s.hinge := rfl
@[simp] theorem State.modJob_posture (i : Fin 40) (f : Job → Job) : (s.modJob i f).posture = s.posture := rfl
@[simp] theorem State.modJob_table (i : Fin 40) (f : Job → Job) : (s.modJob i f).table = s.table := rfl
@[simp] theorem State.modJob_rules (i : Fin 40) (f : Job → Job) : (s.modJob i f).rules = s.rules := rfl
@[simp] theorem State.modJob_panels (i : Fin 40) (f : Job → Job) : (s.modJob i f).panels = s.panels := rfl
@[simp] theorem State.modJob_shared (i : Fin 40) (f : Job → Job) : (s.modJob i f).shared = s.shared := rfl
@[simp] theorem State.modJob_slots (i : Fin 40) (f : Job → Job) : (s.modJob i f).slots = s.slots := rfl
@[simp] theorem State.modJob_attn (i : Fin 40) (f : Job → Job) : (s.modJob i f).attn = s.attn := rfl
@[simp] theorem State.modJob_link (i : Fin 40) (f : Job → Job) : (s.modJob i f).link = s.link := rfl
@[simp] theorem State.modJob_now (i : Fin 40) (f : Job → Job) : (s.modJob i f).now = s.now := rfl
@[simp] theorem State.modJob_offers (i : Fin 40) (f : Job → Job) : (s.modJob i f).offers = s.offers := rfl
@[simp] theorem State.modJob_pending (i : Fin 40) (f : Job → Job) : (s.modJob i f).pending = s.pending := rfl

/-! ### dropJob -/

@[simp] theorem State.dropJob_hinge (i : Fin 40) : (s.dropJob i).hinge = s.hinge := rfl
@[simp] theorem State.dropJob_posture (i : Fin 40) : (s.dropJob i).posture = s.posture := rfl
@[simp] theorem State.dropJob_table (i : Fin 40) : (s.dropJob i).table = s.table := rfl
@[simp] theorem State.dropJob_rules (i : Fin 40) : (s.dropJob i).rules = s.rules := rfl
@[simp] theorem State.dropJob_panels (i : Fin 40) : (s.dropJob i).panels = s.panels := rfl
@[simp] theorem State.dropJob_shared (i : Fin 40) : (s.dropJob i).shared = s.shared := rfl
@[simp] theorem State.dropJob_slots (i : Fin 40) : (s.dropJob i).slots = s.slots := rfl
@[simp] theorem State.dropJob_attn (i : Fin 40) : (s.dropJob i).attn = s.attn := rfl
@[simp] theorem State.dropJob_link (i : Fin 40) : (s.dropJob i).link = s.link := rfl
@[simp] theorem State.dropJob_now (i : Fin 40) : (s.dropJob i).now = s.now := rfl
@[simp] theorem State.dropJob_offers (i : Fin 40) : (s.dropJob i).offers = s.offers := rfl
@[simp] theorem State.dropJob_pending (i : Fin 40) : (s.dropJob i).pending = s.pending := rfl

/-! ### jobToHead -/

@[simp] theorem State.jobToHead_hinge (i : Fin 40) : (s.jobToHead i).hinge = s.hinge := rfl
@[simp] theorem State.jobToHead_posture (i : Fin 40) : (s.jobToHead i).posture = s.posture := rfl
@[simp] theorem State.jobToHead_table (i : Fin 40) : (s.jobToHead i).table = s.table := rfl
@[simp] theorem State.jobToHead_rules (i : Fin 40) : (s.jobToHead i).rules = s.rules := rfl
@[simp] theorem State.jobToHead_panels (i : Fin 40) : (s.jobToHead i).panels = s.panels := rfl
@[simp] theorem State.jobToHead_shared (i : Fin 40) : (s.jobToHead i).shared = s.shared := rfl
@[simp] theorem State.jobToHead_slots (i : Fin 40) : (s.jobToHead i).slots = s.slots := rfl
@[simp] theorem State.jobToHead_attn (i : Fin 40) : (s.jobToHead i).attn = s.attn := rfl
@[simp] theorem State.jobToHead_link (i : Fin 40) : (s.jobToHead i).link = s.link := rfl
@[simp] theorem State.jobToHead_now (i : Fin 40) : (s.jobToHead i).now = s.now := rfl
@[simp] theorem State.jobToHead_offers (i : Fin 40) : (s.jobToHead i).offers = s.offers := rfl
@[simp] theorem State.jobToHead_pending (i : Fin 40) : (s.jobToHead i).pending = s.pending := rfl

/-! ### raise -/

@[simp] theorem State.raise_hinge (f : AttnFlag) : (s.raise f).hinge = s.hinge := rfl
@[simp] theorem State.raise_posture (f : AttnFlag) : (s.raise f).posture = s.posture := rfl
@[simp] theorem State.raise_table (f : AttnFlag) : (s.raise f).table = s.table := rfl
@[simp] theorem State.raise_rules (f : AttnFlag) : (s.raise f).rules = s.rules := rfl
@[simp] theorem State.raise_queue (f : AttnFlag) : (s.raise f).queue = s.queue := rfl
@[simp] theorem State.raise_panels (f : AttnFlag) : (s.raise f).panels = s.panels := rfl
@[simp] theorem State.raise_shared (f : AttnFlag) : (s.raise f).shared = s.shared := rfl
@[simp] theorem State.raise_slots (f : AttnFlag) : (s.raise f).slots = s.slots := rfl
@[simp] theorem State.raise_link (f : AttnFlag) : (s.raise f).link = s.link := rfl
@[simp] theorem State.raise_now (f : AttnFlag) : (s.raise f).now = s.now := rfl
@[simp] theorem State.raise_offers (f : AttnFlag) : (s.raise f).offers = s.offers := rfl
@[simp] theorem State.raise_pending (f : AttnFlag) : (s.raise f).pending = s.pending := rfl

/-! ### refreshNotice -/

@[simp] theorem State.refreshNotice_hinge : (s.refreshNotice).hinge = s.hinge := rfl
@[simp] theorem State.refreshNotice_posture : (s.refreshNotice).posture = s.posture := rfl
@[simp] theorem State.refreshNotice_table : (s.refreshNotice).table = s.table := rfl
@[simp] theorem State.refreshNotice_rules : (s.refreshNotice).rules = s.rules := rfl
@[simp] theorem State.refreshNotice_queue : (s.refreshNotice).queue = s.queue := rfl
@[simp] theorem State.refreshNotice_panels : (s.refreshNotice).panels = s.panels := rfl
@[simp] theorem State.refreshNotice_shared : (s.refreshNotice).shared = s.shared := rfl
@[simp] theorem State.refreshNotice_slots : (s.refreshNotice).slots = s.slots := rfl
@[simp] theorem State.refreshNotice_link : (s.refreshNotice).link = s.link := rfl
@[simp] theorem State.refreshNotice_now : (s.refreshNotice).now = s.now := rfl
@[simp] theorem State.refreshNotice_offers : (s.refreshNotice).offers = s.offers := rfl
@[simp] theorem State.refreshNotice_pending : (s.refreshNotice).pending = s.pending := rfl

/-! ### respond -/

@[simp] theorem State.respond_hinge (r : Reply) : (s.respond r).hinge = s.hinge := rfl
@[simp] theorem State.respond_posture (r : Reply) : (s.respond r).posture = s.posture := rfl
@[simp] theorem State.respond_table (r : Reply) : (s.respond r).table = s.table := rfl
@[simp] theorem State.respond_rules (r : Reply) : (s.respond r).rules = s.rules := rfl
@[simp] theorem State.respond_queue (r : Reply) : (s.respond r).queue = s.queue := rfl
@[simp] theorem State.respond_panels (r : Reply) : (s.respond r).panels = s.panels := rfl
@[simp] theorem State.respond_shared (r : Reply) : (s.respond r).shared = s.shared := rfl
@[simp] theorem State.respond_slots (r : Reply) : (s.respond r).slots = s.slots := rfl
@[simp] theorem State.respond_attn (r : Reply) : (s.respond r).attn = s.attn := rfl
@[simp] theorem State.respond_now (r : Reply) : (s.respond r).now = s.now := rfl
@[simp] theorem State.respond_offers (r : Reply) : (s.respond r).offers = s.offers := rfl
@[simp] theorem State.respond_pending (r : Reply) : (s.respond r).pending = s.pending := rfl

/-! ### take -/

@[simp] theorem State.take_hinge (c : Instr) : (s.take c).hinge = s.hinge := rfl
@[simp] theorem State.take_posture (c : Instr) : (s.take c).posture = s.posture := rfl
@[simp] theorem State.take_table (c : Instr) : (s.take c).table = s.table := rfl
@[simp] theorem State.take_rules (c : Instr) : (s.take c).rules = s.rules := rfl
@[simp] theorem State.take_queue (c : Instr) : (s.take c).queue = s.queue := rfl
@[simp] theorem State.take_panels (c : Instr) : (s.take c).panels = s.panels := rfl
@[simp] theorem State.take_shared (c : Instr) : (s.take c).shared = s.shared := rfl
@[simp] theorem State.take_slots (c : Instr) : (s.take c).slots = s.slots := rfl
@[simp] theorem State.take_attn (c : Instr) : (s.take c).attn = s.attn := rfl
@[simp] theorem State.take_now (c : Instr) : (s.take c).now = s.now := rfl
@[simp] theorem State.take_offers (c : Instr) : (s.take c).offers = s.offers := rfl
@[simp] theorem State.take_pending (c : Instr) : (s.take c).pending = s.pending := rfl

/-! ### answered -/

@[simp] theorem State.answered_hinge (st : Status) (l : List Byte) : (s.answered st l).hinge = s.hinge := rfl
@[simp] theorem State.answered_posture (st : Status) (l : List Byte) : (s.answered st l).posture = s.posture := rfl
@[simp] theorem State.answered_table (st : Status) (l : List Byte) : (s.answered st l).table = s.table := rfl
@[simp] theorem State.answered_rules (st : Status) (l : List Byte) : (s.answered st l).rules = s.rules := rfl
@[simp] theorem State.answered_queue (st : Status) (l : List Byte) : (s.answered st l).queue = s.queue := rfl
@[simp] theorem State.answered_panels (st : Status) (l : List Byte) : (s.answered st l).panels = s.panels := rfl
@[simp] theorem State.answered_shared (st : Status) (l : List Byte) : (s.answered st l).shared = s.shared := rfl
@[simp] theorem State.answered_slots (st : Status) (l : List Byte) : (s.answered st l).slots = s.slots := rfl
@[simp] theorem State.answered_attn (st : Status) (l : List Byte) : (s.answered st l).attn = s.attn := rfl
@[simp] theorem State.answered_now (st : Status) (l : List Byte) : (s.answered st l).now = s.now := rfl
@[simp] theorem State.answered_offers (st : Status) (l : List Byte) : (s.answered st l).offers = s.offers := rfl
@[simp] theorem State.answered_pending (st : Status) (l : List Byte) : (s.answered st l).pending = s.pending := rfl

/-! ### setJoined -/

@[simp] theorem State.setJoined_hinge (j : JoinedMode) : (s.setJoined j).hinge = s.hinge := rfl
@[simp] theorem State.setJoined_posture (j : JoinedMode) : (s.setJoined j).posture = s.posture := rfl
@[simp] theorem State.setJoined_table (j : JoinedMode) : (s.setJoined j).table = s.table := rfl
@[simp] theorem State.setJoined_rules (j : JoinedMode) : (s.setJoined j).rules = s.rules := rfl
@[simp] theorem State.setJoined_queue (j : JoinedMode) : (s.setJoined j).queue = s.queue := rfl
@[simp] theorem State.setJoined_panels (j : JoinedMode) : (s.setJoined j).panels = s.panels := rfl
@[simp] theorem State.setJoined_slots (j : JoinedMode) : (s.setJoined j).slots = s.slots := rfl
@[simp] theorem State.setJoined_attn (j : JoinedMode) : (s.setJoined j).attn = s.attn := rfl
@[simp] theorem State.setJoined_link (j : JoinedMode) : (s.setJoined j).link = s.link := rfl
@[simp] theorem State.setJoined_now (j : JoinedMode) : (s.setJoined j).now = s.now := rfl
@[simp] theorem State.setJoined_offers (j : JoinedMode) : (s.setJoined j).offers = s.offers := rfl
@[simp] theorem State.setJoined_pending (j : JoinedMode) : (s.setJoined j).pending = s.pending := rfl

/-! ### restageAll -/

@[simp] theorem State.restageAll_hinge (i : Fin 40) (f : SlotConfig → SlotConfig) : (s.restageAll i f).hinge = s.hinge := by simp only [State.restageAll]
@[simp] theorem State.restageAll_posture (i : Fin 40) (f : SlotConfig → SlotConfig) : (s.restageAll i f).posture = s.posture := by simp only [State.restageAll]
@[simp] theorem State.restageAll_table (i : Fin 40) (f : SlotConfig → SlotConfig) : (s.restageAll i f).table = s.table := by simp only [State.restageAll]
@[simp] theorem State.restageAll_rules (i : Fin 40) (f : SlotConfig → SlotConfig) : (s.restageAll i f).rules = s.rules := by simp only [State.restageAll]
@[simp] theorem State.restageAll_queue (i : Fin 40) (f : SlotConfig → SlotConfig) : (s.restageAll i f).queue = s.queue := by simp only [State.restageAll]
@[simp] theorem State.restageAll_panels (i : Fin 40) (f : SlotConfig → SlotConfig) : (s.restageAll i f).panels = s.panels := by simp only [State.restageAll]
@[simp] theorem State.restageAll_shared (i : Fin 40) (f : SlotConfig → SlotConfig) : (s.restageAll i f).shared = s.shared := by simp only [State.restageAll]
@[simp] theorem State.restageAll_attn (i : Fin 40) (f : SlotConfig → SlotConfig) : (s.restageAll i f).attn = s.attn := by simp only [State.restageAll]
@[simp] theorem State.restageAll_link (i : Fin 40) (f : SlotConfig → SlotConfig) : (s.restageAll i f).link = s.link := by simp only [State.restageAll]
@[simp] theorem State.restageAll_now (i : Fin 40) (f : SlotConfig → SlotConfig) : (s.restageAll i f).now = s.now := by simp only [State.restageAll]
@[simp] theorem State.restageAll_offers (i : Fin 40) (f : SlotConfig → SlotConfig) : (s.restageAll i f).offers = s.offers := by simp only [State.restageAll]
@[simp] theorem State.restageAll_pending (i : Fin 40) (f : SlotConfig → SlotConfig) : (s.restageAll i f).pending = s.pending := by simp only [State.restageAll]

/-! ### freeSlotsOf -/

@[simp] theorem State.freeSlotsOf_hinge (p : PanelId) : (s.freeSlotsOf p).hinge = s.hinge := by simp only [State.freeSlotsOf]
@[simp] theorem State.freeSlotsOf_posture (p : PanelId) : (s.freeSlotsOf p).posture = s.posture := by simp only [State.freeSlotsOf]
@[simp] theorem State.freeSlotsOf_table (p : PanelId) : (s.freeSlotsOf p).table = s.table := by simp only [State.freeSlotsOf]
@[simp] theorem State.freeSlotsOf_rules (p : PanelId) : (s.freeSlotsOf p).rules = s.rules := by simp only [State.freeSlotsOf]
@[simp] theorem State.freeSlotsOf_queue (p : PanelId) : (s.freeSlotsOf p).queue = s.queue := by simp only [State.freeSlotsOf]
@[simp] theorem State.freeSlotsOf_panels (p : PanelId) : (s.freeSlotsOf p).panels = s.panels := by simp only [State.freeSlotsOf]
@[simp] theorem State.freeSlotsOf_shared (p : PanelId) : (s.freeSlotsOf p).shared = s.shared := by simp only [State.freeSlotsOf]
@[simp] theorem State.freeSlotsOf_attn (p : PanelId) : (s.freeSlotsOf p).attn = s.attn := by simp only [State.freeSlotsOf]
@[simp] theorem State.freeSlotsOf_link (p : PanelId) : (s.freeSlotsOf p).link = s.link := by simp only [State.freeSlotsOf]
@[simp] theorem State.freeSlotsOf_now (p : PanelId) : (s.freeSlotsOf p).now = s.now := by simp only [State.freeSlotsOf]
@[simp] theorem State.freeSlotsOf_offers (p : PanelId) : (s.freeSlotsOf p).offers = s.offers := by simp only [State.freeSlotsOf]
@[simp] theorem State.freeSlotsOf_pending (p : PanelId) : (s.freeSlotsOf p).pending = s.pending := by simp only [State.freeSlotsOf]

/-! ### applyDue -/

@[simp] theorem State.applyDue_hinge (p : PanelId) : (s.applyDue p).hinge = s.hinge := by simp only [State.applyDue]
@[simp] theorem State.applyDue_posture (p : PanelId) : (s.applyDue p).posture = s.posture := by simp only [State.applyDue]
@[simp] theorem State.applyDue_table (p : PanelId) : (s.applyDue p).table = s.table := by simp only [State.applyDue]
@[simp] theorem State.applyDue_rules (p : PanelId) : (s.applyDue p).rules = s.rules := by simp only [State.applyDue]
@[simp] theorem State.applyDue_queue (p : PanelId) : (s.applyDue p).queue = s.queue := by simp only [State.applyDue]
@[simp] theorem State.applyDue_panels (p : PanelId) : (s.applyDue p).panels = s.panels := by simp only [State.applyDue]
@[simp] theorem State.applyDue_shared (p : PanelId) : (s.applyDue p).shared = s.shared := by simp only [State.applyDue]
@[simp] theorem State.applyDue_attn (p : PanelId) : (s.applyDue p).attn = s.attn := by simp only [State.applyDue]
@[simp] theorem State.applyDue_link (p : PanelId) : (s.applyDue p).link = s.link := by simp only [State.applyDue]
@[simp] theorem State.applyDue_now (p : PanelId) : (s.applyDue p).now = s.now := by simp only [State.applyDue]
@[simp] theorem State.applyDue_offers (p : PanelId) : (s.applyDue p).offers = s.offers := by simp only [State.applyDue]
@[simp] theorem State.applyDue_pending (p : PanelId) : (s.applyDue p).pending = s.pending := by simp only [State.applyDue]

/-! ### freeClaims -/

@[simp] theorem State.freeClaims_hinge (l : List SlotAction) : (s.freeClaims l).hinge = s.hinge := by simp only [State.freeClaims]
@[simp] theorem State.freeClaims_posture (l : List SlotAction) : (s.freeClaims l).posture = s.posture := by simp only [State.freeClaims]
@[simp] theorem State.freeClaims_table (l : List SlotAction) : (s.freeClaims l).table = s.table := by simp only [State.freeClaims]
@[simp] theorem State.freeClaims_rules (l : List SlotAction) : (s.freeClaims l).rules = s.rules := by simp only [State.freeClaims]
@[simp] theorem State.freeClaims_queue (l : List SlotAction) : (s.freeClaims l).queue = s.queue := by simp only [State.freeClaims]
@[simp] theorem State.freeClaims_panels (l : List SlotAction) : (s.freeClaims l).panels = s.panels := by simp only [State.freeClaims]
@[simp] theorem State.freeClaims_shared (l : List SlotAction) : (s.freeClaims l).shared = s.shared := by simp only [State.freeClaims]
@[simp] theorem State.freeClaims_attn (l : List SlotAction) : (s.freeClaims l).attn = s.attn := by simp only [State.freeClaims]
@[simp] theorem State.freeClaims_link (l : List SlotAction) : (s.freeClaims l).link = s.link := by simp only [State.freeClaims]
@[simp] theorem State.freeClaims_now (l : List SlotAction) : (s.freeClaims l).now = s.now := by simp only [State.freeClaims]
@[simp] theorem State.freeClaims_offers (l : List SlotAction) : (s.freeClaims l).offers = s.offers := by simp only [State.freeClaims]
@[simp] theorem State.freeClaims_pending (l : List SlotAction) : (s.freeClaims l).pending = s.pending := by simp only [State.freeClaims]

/-! ### freeOwnClaims -/

@[simp] theorem State.freeOwnClaims_hinge (i : Fin 40) : (s.freeOwnClaims i).hinge = s.hinge := by simp only [State.freeOwnClaims]
@[simp] theorem State.freeOwnClaims_posture (i : Fin 40) : (s.freeOwnClaims i).posture = s.posture := by simp only [State.freeOwnClaims]
@[simp] theorem State.freeOwnClaims_table (i : Fin 40) : (s.freeOwnClaims i).table = s.table := by simp only [State.freeOwnClaims]
@[simp] theorem State.freeOwnClaims_rules (i : Fin 40) : (s.freeOwnClaims i).rules = s.rules := by simp only [State.freeOwnClaims]
@[simp] theorem State.freeOwnClaims_queue (i : Fin 40) : (s.freeOwnClaims i).queue = s.queue := by simp only [State.freeOwnClaims]
@[simp] theorem State.freeOwnClaims_panels (i : Fin 40) : (s.freeOwnClaims i).panels = s.panels := by simp only [State.freeOwnClaims]
@[simp] theorem State.freeOwnClaims_shared (i : Fin 40) : (s.freeOwnClaims i).shared = s.shared := by simp only [State.freeOwnClaims]
@[simp] theorem State.freeOwnClaims_attn (i : Fin 40) : (s.freeOwnClaims i).attn = s.attn := by simp only [State.freeOwnClaims]
@[simp] theorem State.freeOwnClaims_link (i : Fin 40) : (s.freeOwnClaims i).link = s.link := by simp only [State.freeOwnClaims]
@[simp] theorem State.freeOwnClaims_now (i : Fin 40) : (s.freeOwnClaims i).now = s.now := by simp only [State.freeOwnClaims]
@[simp] theorem State.freeOwnClaims_offers (i : Fin 40) : (s.freeOwnClaims i).offers = s.offers := by simp only [State.freeOwnClaims]
@[simp] theorem State.freeOwnClaims_pending (i : Fin 40) : (s.freeOwnClaims i).pending = s.pending := by simp only [State.freeOwnClaims]

/-! ### stageRemovals -/

@[simp] theorem State.stageRemovals_hinge (i : Fin 40) : (s.stageRemovals i).hinge = s.hinge := by simp only [State.stageRemovals]
@[simp] theorem State.stageRemovals_posture (i : Fin 40) : (s.stageRemovals i).posture = s.posture := by simp only [State.stageRemovals]
@[simp] theorem State.stageRemovals_table (i : Fin 40) : (s.stageRemovals i).table = s.table := by simp only [State.stageRemovals]
@[simp] theorem State.stageRemovals_rules (i : Fin 40) : (s.stageRemovals i).rules = s.rules := by simp only [State.stageRemovals]
@[simp] theorem State.stageRemovals_queue (i : Fin 40) : (s.stageRemovals i).queue = s.queue := by simp only [State.stageRemovals]
@[simp] theorem State.stageRemovals_panels (i : Fin 40) : (s.stageRemovals i).panels = s.panels := by simp only [State.stageRemovals]
@[simp] theorem State.stageRemovals_shared (i : Fin 40) : (s.stageRemovals i).shared = s.shared := by simp only [State.stageRemovals]
@[simp] theorem State.stageRemovals_attn (i : Fin 40) : (s.stageRemovals i).attn = s.attn := by simp only [State.stageRemovals]
@[simp] theorem State.stageRemovals_link (i : Fin 40) : (s.stageRemovals i).link = s.link := by simp only [State.stageRemovals]
@[simp] theorem State.stageRemovals_now (i : Fin 40) : (s.stageRemovals i).now = s.now := by simp only [State.stageRemovals]
@[simp] theorem State.stageRemovals_offers (i : Fin 40) : (s.stageRemovals i).offers = s.offers := by simp only [State.stageRemovals]
@[simp] theorem State.stageRemovals_pending (i : Fin 40) : (s.stageRemovals i).pending = s.pending := by simp only [State.stageRemovals]

/-! ### cutoff -/

@[simp] theorem State.cutoff_hinge (p : PanelId) : (s.cutoff p).hinge = s.hinge := by simp [State.cutoff]
@[simp] theorem State.cutoff_posture (p : PanelId) : (s.cutoff p).posture = s.posture := by simp [State.cutoff]
@[simp] theorem State.cutoff_table (p : PanelId) : (s.cutoff p).table = s.table := by simp [State.cutoff]
@[simp] theorem State.cutoff_rules (p : PanelId) : (s.cutoff p).rules = s.rules := by simp [State.cutoff]
@[simp] theorem State.cutoff_queue (p : PanelId) : (s.cutoff p).queue = s.queue := by simp [State.cutoff]
@[simp] theorem State.cutoff_shared (p : PanelId) : (s.cutoff p).shared = s.shared := by simp [State.cutoff]
@[simp] theorem State.cutoff_attn (p : PanelId) : (s.cutoff p).attn = s.attn := by simp [State.cutoff]
@[simp] theorem State.cutoff_link (p : PanelId) : (s.cutoff p).link = s.link := by simp [State.cutoff]
@[simp] theorem State.cutoff_now (p : PanelId) : (s.cutoff p).now = s.now := by simp [State.cutoff]
@[simp] theorem State.cutoff_offers (p : PanelId) : (s.cutoff p).offers = s.offers := by simp [State.cutoff]
@[simp] theorem State.cutoff_pending (p : PanelId) : (s.cutoff p).pending = s.pending := by simp [State.cutoff]

/-! ### openFrame -/

@[simp] theorem State.openFrame_hinge (p : PanelId) : (s.openFrame p).hinge = s.hinge := by simp [State.openFrame]
@[simp] theorem State.openFrame_posture (p : PanelId) : (s.openFrame p).posture = s.posture := by simp [State.openFrame]
@[simp] theorem State.openFrame_table (p : PanelId) : (s.openFrame p).table = s.table := by simp [State.openFrame]
@[simp] theorem State.openFrame_rules (p : PanelId) : (s.openFrame p).rules = s.rules := by simp [State.openFrame]
@[simp] theorem State.openFrame_queue (p : PanelId) : (s.openFrame p).queue = s.queue := by simp [State.openFrame]
@[simp] theorem State.openFrame_shared (p : PanelId) : (s.openFrame p).shared = s.shared := by simp [State.openFrame]
@[simp] theorem State.openFrame_attn (p : PanelId) : (s.openFrame p).attn = s.attn := by simp [State.openFrame]
@[simp] theorem State.openFrame_link (p : PanelId) : (s.openFrame p).link = s.link := by simp [State.openFrame]
@[simp] theorem State.openFrame_now (p : PanelId) : (s.openFrame p).now = s.now := by simp [State.openFrame]
@[simp] theorem State.openFrame_offers (p : PanelId) : (s.openFrame p).offers = s.offers := by simp [State.openFrame]
@[simp] theorem State.openFrame_pending (p : PanelId) : (s.openFrame p).pending = s.pending := by simp [State.openFrame]

/-! ### countOffer -/

@[simp] theorem State.countOffer_hinge : (s.countOffer).hinge = s.hinge := rfl
@[simp] theorem State.countOffer_posture : (s.countOffer).posture = s.posture := rfl
@[simp] theorem State.countOffer_table : (s.countOffer).table = s.table := rfl
@[simp] theorem State.countOffer_rules : (s.countOffer).rules = s.rules := rfl
@[simp] theorem State.countOffer_queue : (s.countOffer).queue = s.queue := rfl
@[simp] theorem State.countOffer_panels : (s.countOffer).panels = s.panels := rfl
@[simp] theorem State.countOffer_shared : (s.countOffer).shared = s.shared := rfl
@[simp] theorem State.countOffer_slots : (s.countOffer).slots = s.slots := rfl
@[simp] theorem State.countOffer_attn : (s.countOffer).attn = s.attn := rfl
@[simp] theorem State.countOffer_link : (s.countOffer).link = s.link := rfl
@[simp] theorem State.countOffer_now : (s.countOffer).now = s.now := rfl
@[simp] theorem State.countOffer_pending : (s.countOffer).pending = s.pending := rfl

/-! ### modRecord -/

@[simp] theorem State.modRecord_hinge (i : Fin 40) (f : Record → Record) : (s.modRecord i f).hinge = s.hinge := by
  unfold State.modRecord; split <;> rfl
@[simp] theorem State.modRecord_posture (i : Fin 40) (f : Record → Record) : (s.modRecord i f).posture = s.posture := by
  unfold State.modRecord; split <;> rfl
@[simp] theorem State.modRecord_rules (i : Fin 40) (f : Record → Record) : (s.modRecord i f).rules = s.rules := by
  unfold State.modRecord; split <;> rfl
@[simp] theorem State.modRecord_queue (i : Fin 40) (f : Record → Record) : (s.modRecord i f).queue = s.queue := by
  unfold State.modRecord; split <;> rfl
@[simp] theorem State.modRecord_panels (i : Fin 40) (f : Record → Record) : (s.modRecord i f).panels = s.panels := by
  unfold State.modRecord; split <;> rfl
@[simp] theorem State.modRecord_shared (i : Fin 40) (f : Record → Record) : (s.modRecord i f).shared = s.shared := by
  unfold State.modRecord; split <;> rfl
@[simp] theorem State.modRecord_slots (i : Fin 40) (f : Record → Record) : (s.modRecord i f).slots = s.slots := by
  unfold State.modRecord; split <;> rfl
@[simp] theorem State.modRecord_attn (i : Fin 40) (f : Record → Record) : (s.modRecord i f).attn = s.attn := by
  unfold State.modRecord; split <;> rfl
@[simp] theorem State.modRecord_link (i : Fin 40) (f : Record → Record) : (s.modRecord i f).link = s.link := by
  unfold State.modRecord; split <;> rfl
@[simp] theorem State.modRecord_now (i : Fin 40) (f : Record → Record) : (s.modRecord i f).now = s.now := by
  unfold State.modRecord; split <;> rfl
@[simp] theorem State.modRecord_offers (i : Fin 40) (f : Record → Record) : (s.modRecord i f).offers = s.offers := by
  unfold State.modRecord; split <;> rfl
@[simp] theorem State.modRecord_pending (i : Fin 40) (f : Record → Record) : (s.modRecord i f).pending = s.pending := by
  unfold State.modRecord; split <;> rfl

/-! ### checkCurrency -/

@[simp] theorem State.checkCurrency_hinge (i : Fin 40) : (s.checkCurrency i).hinge = s.hinge := by
  unfold State.checkCurrency; split
  · rfl
  · split
    · rfl
    · split <;> simp
@[simp] theorem State.checkCurrency_posture (i : Fin 40) : (s.checkCurrency i).posture = s.posture := by
  unfold State.checkCurrency; split
  · rfl
  · split
    · rfl
    · split <;> simp
@[simp] theorem State.checkCurrency_rules (i : Fin 40) : (s.checkCurrency i).rules = s.rules := by
  unfold State.checkCurrency; split
  · rfl
  · split
    · rfl
    · split <;> simp
@[simp] theorem State.checkCurrency_queue (i : Fin 40) : (s.checkCurrency i).queue = s.queue := by
  unfold State.checkCurrency; split
  · rfl
  · split
    · rfl
    · split <;> simp
@[simp] theorem State.checkCurrency_panels (i : Fin 40) : (s.checkCurrency i).panels = s.panels := by
  unfold State.checkCurrency; split
  · rfl
  · split
    · rfl
    · split <;> simp
@[simp] theorem State.checkCurrency_shared (i : Fin 40) : (s.checkCurrency i).shared = s.shared := by
  unfold State.checkCurrency; split
  · rfl
  · split
    · rfl
    · split <;> simp
@[simp] theorem State.checkCurrency_slots (i : Fin 40) : (s.checkCurrency i).slots = s.slots := by
  unfold State.checkCurrency; split
  · rfl
  · split
    · rfl
    · split <;> simp
@[simp] theorem State.checkCurrency_attn (i : Fin 40) : (s.checkCurrency i).attn = s.attn := by
  unfold State.checkCurrency; split
  · rfl
  · split
    · rfl
    · split <;> simp
@[simp] theorem State.checkCurrency_link (i : Fin 40) : (s.checkCurrency i).link = s.link := by
  unfold State.checkCurrency; split
  · rfl
  · split
    · rfl
    · split <;> simp
@[simp] theorem State.checkCurrency_now (i : Fin 40) : (s.checkCurrency i).now = s.now := by
  unfold State.checkCurrency; split
  · rfl
  · split
    · rfl
    · split <;> simp
@[simp] theorem State.checkCurrency_offers (i : Fin 40) : (s.checkCurrency i).offers = s.offers := by
  unfold State.checkCurrency; split
  · rfl
  · split
    · rfl
    · split <;> simp
@[simp] theorem State.checkCurrency_pending (i : Fin 40) : (s.checkCurrency i).pending = s.pending := by
  unfold State.checkCurrency; split
  · rfl
  · split
    · rfl
    · split <;> simp

/-! ### enterRetired -/

@[simp] theorem State.enterRetired_hinge (i : Fin 40) : (s.enterRetired i).hinge = s.hinge := by
  unfold State.enterRetired; split <;> rfl
@[simp] theorem State.enterRetired_posture (i : Fin 40) : (s.enterRetired i).posture = s.posture := by
  unfold State.enterRetired; split <;> rfl
@[simp] theorem State.enterRetired_rules (i : Fin 40) : (s.enterRetired i).rules = s.rules := by
  unfold State.enterRetired; split <;> rfl
@[simp] theorem State.enterRetired_queue (i : Fin 40) : (s.enterRetired i).queue = s.queue := by
  unfold State.enterRetired; split <;> rfl
@[simp] theorem State.enterRetired_panels (i : Fin 40) : (s.enterRetired i).panels = s.panels := by
  unfold State.enterRetired; split <;> rfl
@[simp] theorem State.enterRetired_shared (i : Fin 40) : (s.enterRetired i).shared = s.shared := by
  unfold State.enterRetired; split <;> rfl
@[simp] theorem State.enterRetired_slots (i : Fin 40) : (s.enterRetired i).slots = s.slots := by
  unfold State.enterRetired; split <;> rfl
@[simp] theorem State.enterRetired_attn (i : Fin 40) : (s.enterRetired i).attn = s.attn := by
  unfold State.enterRetired; split <;> rfl
@[simp] theorem State.enterRetired_link (i : Fin 40) : (s.enterRetired i).link = s.link := by
  unfold State.enterRetired; split <;> rfl
@[simp] theorem State.enterRetired_now (i : Fin 40) : (s.enterRetired i).now = s.now := by
  unfold State.enterRetired; split <;> rfl
@[simp] theorem State.enterRetired_offers (i : Fin 40) : (s.enterRetired i).offers = s.offers := by
  unfold State.enterRetired; split <;> rfl
@[simp] theorem State.enterRetired_pending (i : Fin 40) : (s.enterRetired i).pending = s.pending := by
  unfold State.enterRetired; split <;> rfl

/-! ### checkRetired -/

@[simp] theorem State.checkRetired_hinge (i : Fin 40) : (s.checkRetired i).hinge = s.hinge := by
  unfold State.checkRetired; split
  · split <;> simp
  · rfl
@[simp] theorem State.checkRetired_posture (i : Fin 40) : (s.checkRetired i).posture = s.posture := by
  unfold State.checkRetired; split
  · split <;> simp
  · rfl
@[simp] theorem State.checkRetired_rules (i : Fin 40) : (s.checkRetired i).rules = s.rules := by
  unfold State.checkRetired; split
  · split <;> simp
  · rfl
@[simp] theorem State.checkRetired_queue (i : Fin 40) : (s.checkRetired i).queue = s.queue := by
  unfold State.checkRetired; split
  · split <;> simp
  · rfl
@[simp] theorem State.checkRetired_panels (i : Fin 40) : (s.checkRetired i).panels = s.panels := by
  unfold State.checkRetired; split
  · split <;> simp
  · rfl
@[simp] theorem State.checkRetired_shared (i : Fin 40) : (s.checkRetired i).shared = s.shared := by
  unfold State.checkRetired; split
  · split <;> simp
  · rfl
@[simp] theorem State.checkRetired_slots (i : Fin 40) : (s.checkRetired i).slots = s.slots := by
  unfold State.checkRetired; split
  · split <;> simp
  · rfl
@[simp] theorem State.checkRetired_attn (i : Fin 40) : (s.checkRetired i).attn = s.attn := by
  unfold State.checkRetired; split
  · split <;> simp
  · rfl
@[simp] theorem State.checkRetired_link (i : Fin 40) : (s.checkRetired i).link = s.link := by
  unfold State.checkRetired; split
  · split <;> simp
  · rfl
@[simp] theorem State.checkRetired_now (i : Fin 40) : (s.checkRetired i).now = s.now := by
  unfold State.checkRetired; split
  · split <;> simp
  · rfl
@[simp] theorem State.checkRetired_offers (i : Fin 40) : (s.checkRetired i).offers = s.offers := by
  unfold State.checkRetired; split
  · split <;> simp
  · rfl
@[simp] theorem State.checkRetired_pending (i : Fin 40) : (s.checkRetired i).pending = s.pending := by
  unfold State.checkRetired; split
  · split <;> simp
  · rfl

/-! ### stageAction -/

@[simp] theorem State.stageAction_hinge (i : Fin 40) (l : List TargetPiece) (a : SlotAction) : (s.stageAction i l a).hinge = s.hinge := by
  unfold State.stageAction; split
  · rfl
  · split <;> rfl
@[simp] theorem State.stageAction_posture (i : Fin 40) (l : List TargetPiece) (a : SlotAction) : (s.stageAction i l a).posture = s.posture := by
  unfold State.stageAction; split
  · rfl
  · split <;> rfl
@[simp] theorem State.stageAction_table (i : Fin 40) (l : List TargetPiece) (a : SlotAction) : (s.stageAction i l a).table = s.table := by
  unfold State.stageAction; split
  · rfl
  · split <;> rfl
@[simp] theorem State.stageAction_rules (i : Fin 40) (l : List TargetPiece) (a : SlotAction) : (s.stageAction i l a).rules = s.rules := by
  unfold State.stageAction; split
  · rfl
  · split <;> rfl
@[simp] theorem State.stageAction_queue (i : Fin 40) (l : List TargetPiece) (a : SlotAction) : (s.stageAction i l a).queue = s.queue := by
  unfold State.stageAction; split
  · rfl
  · split <;> rfl
@[simp] theorem State.stageAction_panels (i : Fin 40) (l : List TargetPiece) (a : SlotAction) : (s.stageAction i l a).panels = s.panels := by
  unfold State.stageAction; split
  · rfl
  · split <;> rfl
@[simp] theorem State.stageAction_shared (i : Fin 40) (l : List TargetPiece) (a : SlotAction) : (s.stageAction i l a).shared = s.shared := by
  unfold State.stageAction; split
  · rfl
  · split <;> rfl
@[simp] theorem State.stageAction_attn (i : Fin 40) (l : List TargetPiece) (a : SlotAction) : (s.stageAction i l a).attn = s.attn := by
  unfold State.stageAction; split
  · rfl
  · split <;> rfl
@[simp] theorem State.stageAction_link (i : Fin 40) (l : List TargetPiece) (a : SlotAction) : (s.stageAction i l a).link = s.link := by
  unfold State.stageAction; split
  · rfl
  · split <;> rfl
@[simp] theorem State.stageAction_now (i : Fin 40) (l : List TargetPiece) (a : SlotAction) : (s.stageAction i l a).now = s.now := by
  unfold State.stageAction; split
  · rfl
  · split <;> rfl
@[simp] theorem State.stageAction_offers (i : Fin 40) (l : List TargetPiece) (a : SlotAction) : (s.stageAction i l a).offers = s.offers := by
  unfold State.stageAction; split
  · rfl
  · split <;> rfl
@[simp] theorem State.stageAction_pending (i : Fin 40) (l : List TargetPiece) (a : SlotAction) : (s.stageAction i l a).pending = s.pending := by
  unfold State.stageAction; split
  · rfl
  · split <;> rfl

/-! ### checkPowerUp -/

@[simp] theorem State.checkPowerUp_hinge (p : PanelId) : (s.checkPowerUp p).hinge = s.hinge := by
  simp only [State.checkPowerUp]; split <;> rfl
@[simp] theorem State.checkPowerUp_posture (p : PanelId) : (s.checkPowerUp p).posture = s.posture := by
  simp only [State.checkPowerUp]; split <;> rfl
@[simp] theorem State.checkPowerUp_table (p : PanelId) : (s.checkPowerUp p).table = s.table := by
  simp only [State.checkPowerUp]; split <;> rfl
@[simp] theorem State.checkPowerUp_rules (p : PanelId) : (s.checkPowerUp p).rules = s.rules := by
  simp only [State.checkPowerUp]; split <;> rfl
@[simp] theorem State.checkPowerUp_queue (p : PanelId) : (s.checkPowerUp p).queue = s.queue := by
  simp only [State.checkPowerUp]; split <;> rfl
@[simp] theorem State.checkPowerUp_shared (p : PanelId) : (s.checkPowerUp p).shared = s.shared := by
  simp only [State.checkPowerUp]; split <;> rfl
@[simp] theorem State.checkPowerUp_slots (p : PanelId) : (s.checkPowerUp p).slots = s.slots := by
  simp only [State.checkPowerUp]; split <;> rfl
@[simp] theorem State.checkPowerUp_attn (p : PanelId) : (s.checkPowerUp p).attn = s.attn := by
  simp only [State.checkPowerUp]; split <;> rfl
@[simp] theorem State.checkPowerUp_link (p : PanelId) : (s.checkPowerUp p).link = s.link := by
  simp only [State.checkPowerUp]; split <;> rfl
@[simp] theorem State.checkPowerUp_now (p : PanelId) : (s.checkPowerUp p).now = s.now := by
  simp only [State.checkPowerUp]; split <;> rfl
@[simp] theorem State.checkPowerUp_offers (p : PanelId) : (s.checkPowerUp p).offers = s.offers := by
  simp only [State.checkPowerUp]; split <;> rfl
@[simp] theorem State.checkPowerUp_pending (p : PanelId) : (s.checkPowerUp p).pending = s.pending := by
  simp only [State.checkPowerUp]; split <;> rfl

/-! ### enterOff -/

@[simp] theorem State.enterOff_hinge (p : PanelId) : (s.enterOff p).hinge = s.hinge := by
  simp [State.enterOff]
@[simp] theorem State.enterOff_posture (p : PanelId) : (s.enterOff p).posture = s.posture := by
  simp [State.enterOff]
@[simp] theorem State.enterOff_table (p : PanelId) : (s.enterOff p).table = s.table := by
  simp [State.enterOff]
@[simp] theorem State.enterOff_rules (p : PanelId) : (s.enterOff p).rules = s.rules := by
  simp [State.enterOff]
@[simp] theorem State.enterOff_queue (p : PanelId) : (s.enterOff p).queue = s.queue := by
  simp [State.enterOff]
@[simp] theorem State.enterOff_shared (p : PanelId) : (s.enterOff p).shared = s.shared := by
  simp [State.enterOff]
@[simp] theorem State.enterOff_slots (p : PanelId) : (s.enterOff p).slots = s.slots := by
  simp [State.enterOff]
@[simp] theorem State.enterOff_attn (p : PanelId) : (s.enterOff p).attn = s.attn := by
  simp [State.enterOff]
@[simp] theorem State.enterOff_link (p : PanelId) : (s.enterOff p).link = s.link := by
  simp [State.enterOff]
@[simp] theorem State.enterOff_now (p : PanelId) : (s.enterOff p).now = s.now := by
  simp [State.enterOff]
@[simp] theorem State.enterOff_offers (p : PanelId) : (s.enterOff p).offers = s.offers := by
  simp [State.enterOff]
@[simp] theorem State.enterOff_pending (p : PanelId) : (s.enterOff p).pending = s.pending := by
  simp [State.enterOff]

/-! ### Panels -/

@[simp] theorem otherPanel_otherPanel (p : PanelId) : otherPanel (otherPanel p) = p := by cases p <;> rfl

@[simp] theorem Panels.get_put_same (ps : Panels) (p : PanelId) (x : Panel) : (ps.put p x).get p = x := by
  cases p <;> rfl

@[simp] theorem Panels.get_put_other (ps : Panels) (p : PanelId) (x : Panel) :
    (ps.put p x).get (otherPanel p) = ps.get (otherPanel p) := by cases p <;> rfl

theorem Panels.get_put (ps : Panels) (p q : PanelId) (x : Panel) :
    (ps.put p x).get q = if q = p then x else ps.get q := by cases p <;> cases q <;> rfl

@[simp] theorem State.panel_setPanel_same (p : PanelId) (x : Panel) : (s.setPanel p x).panel p = x := by
  cases p <;> rfl

theorem State.panel_setPanel (p q : PanelId) (x : Panel) :
    (s.setPanel p x).panel q = if q = p then x else s.panel q := by cases p <;> cases q <;> rfl

@[simp] theorem State.panel_modPanel_same (p : PanelId) (f : Panel → Panel) :
    (s.modPanel p f).panel p = f (s.panel p) := by cases p <;> rfl

@[simp] theorem State.panel_modPanel_other (p : PanelId) (f : Panel → Panel) :
    (s.modPanel p f).panel (otherPanel p) = s.panel (otherPanel p) := by cases p <;> rfl

theorem State.panel_modPanel (p q : PanelId) (f : Panel → Panel) :
    (s.modPanel p f).panel q = if q = p then f (s.panel p) else s.panel q := by cases p <;> cases q <;> rfl

theorem State.panel_elapse (us : Nat) (p : PanelId) : (s.elapse us).panel p = (s.panel p).elapse us := by
  cases p <;> rfl

@[simp] theorem Panel.elapse_mode (x : Panel) (us : Nat) : (x.elapse us).mode = x.mode := by
  unfold Panel.elapse; split <;> rfl

/-! ### Records, slots and jobs -/

@[simp] theorem State.entry_setEntry_same (i : Fin 40) (e : TableSlot) : (s.setEntry i e).entry i = e := by
  simp [State.setEntry, State.entry]

theorem State.entry_setEntry (i j : Fin 40) (e : TableSlot) :
    (s.setEntry i e).entry j = if j = i then e else s.entry j := by
  by_cases h : j = i
  · subst h; simp
  · have h' : i.val ≠ j.val := fun e => h (Fin.ext e.symm)
    simp [State.setEntry, State.entry, h, h']

@[simp] theorem State.slot_setSlot_same (k : Fin 16) (x : LayerSlot) : (s.setSlot k x).slot k = x := by
  simp [State.setSlot, State.slot]

theorem State.slot_setSlot (k m : Fin 16) (x : LayerSlot) :
    (s.setSlot k x).slot m = if m = k then x else s.slot m := by
  by_cases h : m = k
  · subst h; simp
  · have h' : k.val ≠ m.val := fun e => h (Fin.ext e.symm)
    simp [State.setSlot, State.slot, h, h']

@[simp] theorem State.setEntry_gens (i : Fin 40) (e : TableSlot) : (s.setEntry i e).table.gens = s.table.gens := rfl
@[simp] theorem State.setEntry_focus (i : Fin 40) (e : TableSlot) : (s.setEntry i e).table.focus = s.table.focus := rfl
@[simp] theorem State.setEntry_cursor (i : Fin 40) (e : TableSlot) : (s.setEntry i e).table.cursor = s.table.cursor := rfl

/-- What `modRecord` does to the record slots. -/
theorem State.entry_modRecord (i j : Fin 40) (f : Record → Record) :
    (s.modRecord i f).entry j =
      if j = i then (match s.entry i with | .used r => .used (f r) | e => e) else s.entry j := by
  unfold State.modRecord State.record?
  by_cases h : j = i
  · subst h
    cases he : s.entry j <;> simp [TableSlot.record?, he]
  · cases he : s.entry i <;> simp [TableSlot.record?, h, State.entry_setEntry]

@[simp] theorem State.modRecord_gens (i : Fin 40) (f : Record → Record) :
    (s.modRecord i f).table.gens = s.table.gens := by unfold State.modRecord; split <;> rfl
@[simp] theorem State.modRecord_focus (i : Fin 40) (f : Record → Record) :
    (s.modRecord i f).table.focus = s.table.focus := by unfold State.modRecord; split <;> rfl
@[simp] theorem State.modRecord_cursor (i : Fin 40) (f : Record → Record) :
    (s.modRecord i f).table.cursor = s.table.cursor := by unfold State.modRecord; split <;> rfl

/-- What `mapRecords` does to the record slots. -/
theorem State.entry_mapRecords (f : Record → Record) (i : Fin 40) :
    (s.mapRecords f).entry i = (match s.entry i with | .used r => .used (f r) | e => e) := by
  simp only [State.mapRecords, State.entry]
  rw [Fin.getElem_fin, Vector.getElem_ofFn] <;> rfl

/-- The owner of a record slot's handle field, read from the slot. -/
theorem State.record?_eq_some {i : Fin 40} {r : Record} : s.record? i = some r ↔ s.entry i = .used r := by
  unfold State.record?
  cases s.entry i <;> simp [TableSlot.record?]

/-! ### Flags and link -/

@[simp] theorem State.raise_mask (f : AttnFlag) : (s.raise f).attn.mask = s.attn.mask := rfl
@[simp] theorem State.raise_threshold (f : AttnFlag) : (s.raise f).attn.threshold = s.attn.threshold := rfl
@[simp] theorem State.raise_flags (f : AttnFlag) : (s.raise f).attn.flags = s.attn.flags.put true f := rfl
@[simp] theorem State.refreshNotice_mask : s.refreshNotice.attn.mask = s.attn.mask := rfl
@[simp] theorem State.refreshNotice_threshold : s.refreshNotice.attn.threshold = s.attn.threshold := rfl

/-- R163: setting a flag sets that flag and no other. -/
theorem FlagSet.has_put (g : FlagSet) (b : Bool) (f x : AttnFlag) :
    (g.put b f).has x = if x = f then b else g.has x := by cases f <;> cases x <;> rfl

/-- The answer of an owner, as a state. -/
theorem State.respond_eq_answered (r : Reply) : s.respond r = s.answered r.status r.payload := rfl

@[simp] theorem State.answered_reset (st : Status) (l : List Byte) : (s.answered st l).link.reset = s.link.reset := rfl
@[simp] theorem State.answered_sdo (st : Status) (l : List Byte) : (s.answered st l).link.sdo = s.link.sdo := rfl

end Sys2Proof.Machine
end

