-- ==== Sys2Proof/Laws/Frame.lean ====
section
/-! SUPPORT. What re-resolution, the Handover Engine and the end of an event leave alone: every operation of an event keeps
`State.EngineFrame`, and one that the panels have a part in keeps `State.SameBlocks`. -/

namespace Sys2Proof.Machine

/-! ### The relations compose -/

theorem Record.SameCore.refl (a : Record) : a.SameCore a := by constructor <;> rfl

theorem Record.SameCore.trans {a b d : Record} (h : a.SameCore b) (k : b.SameCore d) : a.SameCore d := by
  constructor
  · exact k.cls.trans h.cls
  · exact k.owner.trans h.owner
  · exact k.home.trans h.home
  · exact k.z.trans h.z
  · exact k.redraw.trans h.redraw
  · exact k.placeholder.trans h.placeholder
  · exact k.fill.trans h.fill
  · exact k.current.trans h.current
  · exact k.pending.trans h.pending
  · exact k.released.trans h.released
  · exact k.variants.trans h.variants
  · exact k.moveTo.trans h.moveTo

theorem TableSlot.SameCore.refl (a : TableSlot) : a.SameCore a := by
  cases a
  · exact True.intro
  · exact Record.SameCore.refl _
  · exact ⟨rfl, rfl⟩

theorem TableSlot.SameCore.trans {a b d : TableSlot} (h : a.SameCore b) (k : b.SameCore d) : a.SameCore d := by
  cases a <;> cases b <;> cases d <;> simp only [TableSlot.SameCore] at *
  · exact Record.SameCore.trans h k
  · exact ⟨k.1.trans h.1, k.2.trans h.2⟩

theorem State.SameBlocks.refl (s : State) : s.SameBlocks s := by constructor <;> rfl

theorem State.SameBlocks.trans {s t u : State} (h : s.SameBlocks t) (k : t.SameBlocks u) : s.SameBlocks u where
  hinge := k.hinge.trans h.hinge
  posture := k.posture.trans h.posture
  rules := k.rules.trans h.rules
  link := k.link.trans h.link
  now := k.now.trans h.now
  offers := k.offers.trans h.offers
  waiting := k.waiting.trans h.waiting
  gens := k.gens.trans h.gens
  cursor := k.cursor.trans h.cursor
  focus := k.focus.trans h.focus
  mask := k.mask.trans h.mask
  threshold := k.threshold.trans h.threshold

theorem State.EngineFrame.refl (s : State) : s.EngineFrame s where
  blocks := State.SameBlocks.refl s
  panels := rfl
  shared := rfl
  cores := fun _ => TableSlot.SameCore.refl _
  live := fun _ => rfl
  posture := rfl
  hinge := rfl
  panel := rfl
  link := rfl
  resetDone := rfl

theorem State.EngineFrame.trans {s t u : State} (h : s.EngineFrame t) (k : t.EngineFrame u) : s.EngineFrame u where
  blocks := h.blocks.trans k.blocks
  panels := k.panels.trans h.panels
  shared := k.shared.trans h.shared
  cores := fun i => (h.cores i).trans (k.cores i)
  live := fun n => (k.live n).trans (h.live n)
  posture := k.posture.trans h.posture
  hinge := k.hinge.trans h.hinge
  panel := k.panel.trans h.panel
  link := k.link.trans h.link
  resetDone := k.resetDone.trans h.resetDone

/-! ### Updates of the state -/

/-- An update of the queue and the layer slots alone, that keeps the live configurations. -/
theorem State.EngineFrame.of_queue_slots (s : State) (q : List Job) (k : Vector LayerSlot 16)
    (h : ∀ n : Fin 16, (k[n]).live? = (s.slot n).live?) : s.EngineFrame { s with queue := q, slots := k } where
  blocks := by constructor <;> rfl
  panels := rfl
  shared := rfl
  cores := fun _ => TableSlot.SameCore.refl _
  live := h
  posture := rfl
  hinge := rfl
  panel := rfl
  link := rfl
  resetDone := rfl

theorem State.EngineFrame.of_queue (s : State) (q : List Job) : s.EngineFrame { s with queue := q } :=
  .of_queue_slots s q s.slots fun _ => rfl

theorem State.EngineFrame.of_slots (s : State) (k : Vector LayerSlot 16)
    (h : ∀ n : Fin 16, (k[n]).live? = (s.slot n).live?) : s.EngineFrame { s with slots := k } :=
  .of_queue_slots s s.queue k h

theorem State.modJob_frame (s : State) (i : Fin 40) (f : Job → Job) : s.EngineFrame (s.modJob i f) := .of_queue s _

theorem State.dropJob_frame (s : State) (i : Fin 40) : s.EngineFrame (s.dropJob i) := .of_queue s _

/-- A change of a slot that keeps its live configuration. -/
theorem State.setSlot_frame (s : State) (k : Fin 16) (x : LayerSlot) (h : x.live? = (s.slot k).live?) :
    s.EngineFrame (s.setSlot k x) :=
  .of_slots s _ fun n => by
    show ((s.setSlot k x).slot n).live? = _
    rw [State.slot_setSlot]
    split
    · next hn => rw [h, hn]
    · rfl

/-- Staging keeps the live configuration. -/
@[simp] theorem LayerSlot.live?_stage (st : Staged) (x : LayerSlot) : (x.stage st).live? = x.live? := by cases x <;> rfl

/-- A change of a record that keeps its core. -/
theorem State.modRecord_frame (s : State) (i : Fin 40) (f : Record → Record) (hf : ∀ r : Record, r.SameCore (f r)) :
    s.EngineFrame (s.modRecord i f) where
  blocks := by constructor <;> simp
  panels := by simp
  shared := by simp
  cores := fun j => by
    rw [State.entry_modRecord]
    split
    · next h =>
      subst h
      cases he : s.entry j with
      | free => exact True.intro
      | used r => exact hf r
      | retired a b => exact ⟨rfl, rfl⟩
    · exact TableSlot.SameCore.refl _
  live := fun k => by simp [State.slot]
  posture := by simp
  hinge := by simp
  panel := by simp
  link := by simp
  resetDone := by simp

theorem State.raise_backlog_frame (s : State) : s.EngineFrame (s.raise .backlog) where
  blocks := by constructor <;> rfl
  panels := rfl
  shared := rfl
  cores := fun _ => TableSlot.SameCore.refl _
  live := fun _ => rfl
  posture := rfl
  hinge := rfl
  panel := rfl
  link := rfl
  resetDone := rfl

theorem State.refreshNotice_frame (s : State) : s.EngineFrame s.refreshNotice where
  blocks := by constructor <;> rfl
  panels := rfl
  shared := rfl
  cores := fun _ => TableSlot.SameCore.refl _
  live := fun _ => rfl
  posture := rfl
  hinge := rfl
  panel := rfl
  link := rfl
  resetDone := rfl

/-! ### Operations of the engine within an event -/

/-- The engine's changes of a record keep its core. -/
theorem Record.complete_core (r : Record) (t : Resolution) (l : List Piece) : r.SameCore (r.complete t l) := by
  constructor <;> rfl

theorem Ev.modJob_frame (e : Ev) (i : Fin 40) (f : Job → Job) : e.s.EngineFrame (e.modJob i f).s := .of_queue e.s _

theorem Ev.modRecord_frame (e : Ev) (i : Fin 40) (f : Record → Record) (hf : ∀ r : Record, r.SameCore (f r)) :
    e.s.EngineFrame (e.modRecord i f).s := e.s.modRecord_frame i f hf

theorem Ev.examine_frame (e : Ev) (i : Fin 40) : e.s.EngineFrame (e.examine i).s := by
  unfold Ev.examine
  split
  · split
    · exact e.modJob_frame i _
    · exact .refl _
  · exact .refl _

theorem Ev.expireWait_frame (e : Ev) (i : Fin 40) : e.s.EngineFrame (e.expireWait i).s :=
  (e.modRecord_frame i _ fun r => by constructor <;> rfl).trans (Ev.modJob_frame _ i _)

theorem Ev.beginWait_frame (e : Ev) (i : Fin 40) (z : Size) (d : Nat) : e.s.EngineFrame (e.beginWait i z d).s := by
  simp only [Ev.beginWait]
  split
  · exact ((e.modRecord_frame i _ fun r => by constructor <;> rfl).trans (Ev.modJob_frame _ i _)).trans
      (Ev.expireWait_frame _ i)
  · exact (e.modRecord_frame i _ fun r => by constructor <;> rfl).trans (Ev.modJob_frame _ i _)

theorem Ev.bufferCondition_frame (e : Ev) (i : Fin 40) (j : Job) : e.s.EngineFrame (e.bufferCondition i j).s := by
  unfold Ev.bufferCondition
  split
  · exact (e.modRecord_frame i _ fun r => by constructor <;> rfl).trans (Ev.modJob_frame _ i _)
  · split
    · exact e.modJob_frame i _
    · exact e.beginWait_frame i _ _

theorem Ev.prepare_frame (e : Ev) (i : Fin 40) : e.s.EngineFrame (e.prepare i).s := by
  unfold Ev.prepare
  split
  · exact ((e.modJob_frame i _).trans (Ev.bufferCondition_frame _ i _)).trans (Ev.examine_frame _ i)
  · exact .refl _

theorem Ev.createJob_frame (e : Ev) (i : Fin 40) (res : Resolution) : e.s.EngineFrame (e.createJob i res).s := by
  refine (State.EngineFrame.of_queue e.s
    (if e.s.isFocus i then Job.fresh (e.s.handle i) res :: e.s.queue
      else e.s.queue ++ [Job.fresh (e.s.handle i) res])).trans ?_
  refine State.EngineFrame.trans ?_ (Ev.prepare_frame _ i)
  exact State.modRecord_frame _ i _ fun r => by constructor <;> rfl

theorem Ev.setPendingMark_frame (e : Ev) (i : Fin 40) : e.s.EngineFrame (e.setPendingMark i).s :=
  (e.modRecord_frame i _ fun r => by constructor <;> rfl).trans (State.raise_backlog_frame _)

theorem Ev.settleMark_frame (e : Ev) (i : Fin 40) (r : Record) (res : Resolution) :
    e.s.EngineFrame (e.settleMark i r res).s := by
  unfold Ev.settleMark
  split
  · exact e.modRecord_frame i _ fun r => by constructor <;> rfl
  · split
    · exact e.createJob_frame i res
    · exact .refl _

theorem Ev.redirectJob_frame (e : Ev) (i : Fin 40) (j : Job) (res : Resolution) :
    e.s.EngineFrame (e.redirectJob i j res).s := by
  unfold Ev.redirectJob
  split
  · exact State.EngineFrame.trans (e.modJob_frame i _) (Ev.prepare_frame { e.modJob i _ with changed := true } i)
  · exact State.EngineFrame.trans (e.modJob_frame i _) (Ev.prepare_frame { e.modJob i _ with changed := true } i)
  · exact e.modJob_frame i _
  · exact e.modJob_frame i _

theorem Ev.pass_frame (e : Ev) (i : Fin 40) (r : Record) (res : Resolution) : e.s.EngineFrame (e.pass i r res).s := by
  unfold Ev.pass
  split
  · exact e.redirectJob_frame i _ res
  · split
    · exact e.settleMark_frame i r res
    · split
      · exact e.createJob_frame i res
      · exact e.setPendingMark_frame i

theorem Ev.reresolve_frame (e : Ev) (i : Fin 40) : e.s.EngineFrame (e.reresolve i).s := by
  unfold Ev.reresolve
  split
  · exact .refl _
  · split
    · simp only
      split
      · exact .refl _
      · exact e.pass_frame i _ _
    · exact .refl _

/-- An operation made for each member of a list keeps the frame if one does. -/
theorem Ev.foldl_frame {α : Type} (f : Ev → α → Ev) (hf : ∀ (e : Ev) (a : α), e.s.EngineFrame (f e a).s) (l : List α) (e : Ev) :
    e.s.EngineFrame (l.foldl f e).s := by
  induction l generalizing e with
  | nil => exact .refl _
  | cons a l ih => exact (hf e a).trans (ih (f e a))

theorem Ev.reresolveAll_frame (e : Ev) : e.s.EngineFrame e.reresolveAll.s :=
  Ev.foldl_frame _ (fun e i => e.reresolve_frame i) _ e

theorem State.claim_frame (s : State) (i : Fin 40) (l : List TargetPiece) : s.EngineFrame (s.claim i l) := by
  induction l generalizing s with
  | nil => exact .refl _
  | cons t ts ih =>
    unfold State.claim
    split
    · split
      · next k _ hf =>
        refine (s.setSlot_frame k _ ?_).trans (ih _)
        cases hk : s.slot k <;> simp_all [LayerSlot.live?, LayerSlot.isFree]
      · exact ih _
    · exact ih _

theorem State.stageAction_frame (s : State) (i : Fin 40) (l : List TargetPiece) (a : SlotAction) :
    s.EngineFrame (s.stageAction i l a) := by
  unfold State.stageAction
  split
  · exact s.setSlot_frame _ _ (LayerSlot.live?_stage _ _)
  · split
    · exact s.setSlot_frame _ _ (LayerSlot.live?_stage _ _)
    · exact .refl _

theorem State.stageActions_frame (s : State) (i : Fin 40) (l : List TargetPiece) (as : List SlotAction) :
    s.EngineFrame (as.foldl (fun s a => s.stageAction i l a) s) := by
  induction as generalizing s with
  | nil => exact .refl _
  | cons a as ih => exact (s.stageAction_frame i l a).trans (ih _)

theorem Ev.stageStep_frame (e : Ev) (i : Fin 40) (l : List TargetPiece) (as : List SlotAction) :
    e.s.EngineFrame (e.stageStep i l as).s :=
  (e.s.stageActions_frame i l as).trans (State.modJob_frame _ i _)

theorem Ev.grantOne_frame (e : Ev) (i : Fin 40) : e.s.EngineFrame (e.grantOne i).s := by
  unfold Ev.grantOne
  split
  · split
    · split
      · refine State.EngineFrame.trans ?_ (Ev.stageStep_frame _ i _ _)
        exact (e.s.claim_frame i _).trans (State.modJob_frame _ i _)
      · exact .refl _
    · exact .refl _
  · exact .refl _

theorem Ev.grantWalk_frame (e : Ev) : e.s.EngineFrame e.grantWalk.s :=
  Ev.foldl_frame _ (fun e i => e.grantOne_frame i) _ { e with walk := false }

theorem State.freeClaims_frame (s : State) (l : List SlotAction) : s.EngineFrame (s.freeClaims l) := by
  unfold State.freeClaims
  refine .of_slots s _ fun n => ?_
  simp only [Fin.getElem_fin, Vector.getElem_ofFn, State.slot]
  split
  · next hx =>
    rw [hx]
    split <;> rfl
  · rfl

theorem Ev.redirect_frame (e : Ev) (i : Fin 40) (j : Job) (n : Resolution) : e.s.EngineFrame (e.redirect i j n).s := by
  unfold Ev.redirect
  refine State.EngineFrame.trans ?_ (Ev.prepare_frame _ i)
  exact (e.s.freeClaims_frame _).trans (State.modJob_frame _ i _)

theorem Ev.complete_frame (e : Ev) (i : Fin 40) (j : Job) : e.s.EngineFrame (e.complete i j).s := by
  have h : e.s.EngineFrame (e.modRecord i fun r => r.complete j.target (e.s.completed i j.target.pieces)).s :=
    e.modRecord_frame i _ fun r => r.complete_core _ _
  simp only [Ev.complete]
  split
  · exact (h.trans (Ev.modJob_frame _ i _)).trans (Ev.prepare_frame _ i)
  · exact (h.trans (Ev.modRecord_frame _ i _ fun r => by constructor <;> rfl)).trans (State.dropJob_frame _ i)

theorem Ev.endStep_frame (e : Ev) (j : Job) : e.s.EngineFrame (e.endStep j).s := by
  simp only [Ev.endStep]
  split
  · split
    · exact e.complete_frame _ j
    · exact e.redirect_frame _ j _
  · split
    · exact e.complete_frame _ j
    · exact (e.modJob_frame _ _).trans (Ev.stageStep_frame _ _ _ _)
  · exact e.complete_frame _ j

theorem Ev.takeUp_frame (e : Ev) : e.s.EngineFrame e.takeUp.s := by
  unfold Ev.takeUp
  split
  · exact .refl _
  · simp only
    split
    · exact e.reresolve_frame _
    · split <;> exact e.reresolve_frame _

theorem Ev.settle_frame (w : Bool) (n : Nat) (e : Ev) : e.s.EngineFrame (Ev.settle w n e).s := by
  induction n generalizing e with
  | zero => exact .refl _
  | succ n ih =>
    unfold Ev.settle
    split
    · exact (e.endStep_frame _).trans (ih _)
    · split
      · exact e.takeUp_frame.trans (ih _)
      · split
        · exact e.grantWalk_frame.trans (ih _)
        · exact .refl _

theorem Ev.resolveDue_frame (e : Ev) : e.s.EngineFrame e.resolveDue.s := by
  unfold Ev.resolveDue
  split
  · exact e.reresolveAll_frame
  · exact .refl _

/-- What the end of an event leaves alone. -/
theorem Ev.finish_frame (e : Ev) : e.s.EngineFrame e.finish.s :=
  (e.resolveDue_frame.trans (Ev.settle_frame true settleFuel _)).trans (State.refreshNotice_frame _)

theorem Ev.done_frame (e : Ev) : e.s.EngineFrame e.done := e.finish_frame

theorem State.settled_frame (s : State) : s.EngineFrame s.settled := (Ev.start s).done_frame

theorem Ev.endSteps_frame (e : Ev) : e.s.EngineFrame e.endSteps.s := Ev.settle_frame false settleFuel e

theorem Ev.examineAll_frame (e : Ev) : e.s.EngineFrame e.examineAll.s :=
  Ev.foldl_frame _ (fun e i => e.examine_frame i) _ e

end Sys2Proof.Machine
end

