-- ==== Sys2Proof/Laws/Blocks.lean ====
section
/-! SUPPORT. The operations in which the Panel Controllers, the records or the slot bank have a part leave every other block alone:
they keep `State.SameBlocks`. -/

namespace Sys2Proof.Machine

theorem State.EngineFrame.sameBlocks {s t : State} (h : s.EngineFrame t) : s.SameBlocks t := h.blocks

/-- An update of the panels, the shared panel state, the slot bank and the queue alone. -/
theorem State.SameBlocks.of_panels_shared_slots (s : State) (p : Panels) (g : Shared) (k : Vector LayerSlot 16)
    (q : List Job) : s.SameBlocks { s with panels := p, shared := g, slots := k, queue := q } := by constructor <;> rfl

theorem State.modPanel_blocks (s : State) (p : PanelId) (f : Panel → Panel) : s.SameBlocks (s.modPanel p f) := by
  constructor <;> rfl

theorem State.setJoined_blocks (s : State) (j : JoinedMode) : s.SameBlocks (s.setJoined j) := by constructor <;> rfl

theorem State.raise_blocks (s : State) (f : AttnFlag) : s.SameBlocks (s.raise f) := by constructor <;> rfl

theorem State.slots_blocks (s : State) (k : Vector LayerSlot 16) : s.SameBlocks { s with slots := k } := by
  constructor <;> rfl

theorem State.modRecord_blocks (s : State) (i : Fin 40) (f : Record → Record) : s.SameBlocks (s.modRecord i f) := by
  constructor <;> simp

theorem State.setEntry_blocks (s : State) (i : Fin 40) (e : TableSlot) : s.SameBlocks (s.setEntry i e) := by
  constructor <;> rfl

theorem State.checkCurrency_blocks (s : State) (i : Fin 40) : s.SameBlocks (s.checkCurrency i) := by
  unfold State.checkCurrency
  split
  · exact .refl _
  · split
    · exact .refl _
    · split
      · exact s.modRecord_blocks i _
      · exact .refl _

theorem State.enterRetired_blocks (s : State) (i : Fin 40) : s.SameBlocks (s.enterRetired i) := by
  unfold State.enterRetired
  split
  · exact s.setEntry_blocks i _
  · exact .refl _

theorem State.checkRetired_blocks (s : State) (i : Fin 40) : s.SameBlocks (s.checkRetired i) := by
  unfold State.checkRetired
  split
  · split
    · exact s.enterRetired_blocks i
    · exact .refl _
  · exact .refl _

theorem State.loseSlot_blocks (s : State) (i : Fin 40) (k : Fin 16) (b : Bool) : s.SameBlocks (s.loseSlot i k b) := by
  unfold State.loseSlot
  exact ((State.modRecord_blocks _ i _).trans (State.checkRetired_blocks _ i)).trans (State.checkCurrency_blocks _ i)

theorem State.freeSlotsOf_blocks (s : State) (p : PanelId) : s.SameBlocks (s.freeSlotsOf p) := by
  unfold State.freeSlotsOf
  exact s.slots_blocks _

theorem State.applyDue_blocks (s : State) (p : PanelId) : s.SameBlocks (s.applyDue p) := by
  unfold State.applyDue
  exact s.slots_blocks _

theorem State.openFrame_blocks (s : State) (p : PanelId) : s.SameBlocks (s.openFrame p) := by
  simp only [State.openFrame]
  exact (s.applyDue_blocks p).trans (State.modPanel_blocks _ p _)

theorem State.powerUp_blocks (s : State) (p : PanelId) : s.SameBlocks (s.powerUp p) := s.modPanel_blocks p _

theorem State.checkPowerUp_blocks (s : State) (p : PanelId) : s.SameBlocks (s.checkPowerUp p) := by
  simp only [State.checkPowerUp]
  split
  · exact s.powerUp_blocks p
  · exact .refl _

theorem State.enterOff_blocks (s : State) (p : PanelId) : s.SameBlocks (s.enterOff p) :=
  (s.modPanel_blocks p _).trans (State.checkPowerUp_blocks _ p)

/-- An operation made for each member of a list keeps the blocks if one does. -/
theorem Ev.foldl_blocks {α : Type} (f : Ev → α → Ev) (hf : ∀ (e : Ev) (a : α), e.s.SameBlocks (f e a).s) (l : List α)
    (e : Ev) : e.s.SameBlocks (l.foldl f e).s := by
  induction l generalizing e with
  | nil => exact .refl _
  | cons a l ih => exact (hf e a).trans (ih (f e a))

/-! ### Operations within an event -/

theorem Ev.modPanel_blocks (e : Ev) (p : PanelId) (f : Panel → Panel) : e.s.SameBlocks (e.modPanel p f).s :=
  e.s.modPanel_blocks p f

theorem Ev.raise_blocks (e : Ev) (f : AttnFlag) : e.s.SameBlocks (e.raise f).s := e.s.raise_blocks f

theorem Ev.evalJoined_blocks (e : Ev) : e.s.SameBlocks e.evalJoined.s := by
  unfold Ev.evalJoined
  split
  · exact e.s.setJoined_blocks _
  · exact e.s.setJoined_blocks _
  · exact e.s.setJoined_blocks _
  · exact .refl _

theorem Ev.reportLoss_blocks (b : Bool) (s : State) (e : Ev) (k : Fin 16) : e.s.SameBlocks (Ev.reportLoss b s e k).s := by
  unfold Ev.reportLoss
  split
  · exact .refl _
  · exact (State.loseSlot_blocks _ _ k _).trans (State.modJob_frame _ _ _).blocks

theorem Ev.leaveService_blocks (e : Ev) (p : PanelId) (b : Bool) : e.s.SameBlocks (e.leaveService p b).s := by
  simp only [Ev.leaveService]
  have h1 : e.s.SameBlocks (e.modPanel p Panel.stopFrames).evalJoined.s :=
    (e.modPanel_blocks p _).trans (Ev.evalJoined_blocks _)
  refine (h1.trans (State.freeSlotsOf_blocks _ p)).trans ?_
  exact Ev.foldl_blocks (Ev.reportLoss b (e.modPanel p Panel.stopFrames).evalJoined.s)
    (fun e k => Ev.reportLoss_blocks b _ e k) _ ((e.modPanel p Panel.stopFrames).evalJoined.mod fun s => s.freeSlotsOf p)

theorem Ev.powerDown_blocks (e : Ev) (p : PanelId) : e.s.SameBlocks (e.powerDown p).s := by
  simp only [Ev.powerDown]
  split
  · exact (e.modPanel_blocks p _).trans (Ev.leaveService_blocks _ p _)
  · exact e.modPanel_blocks p _

theorem Ev.demandOff_blocks (e : Ev) (p : PanelId) : e.s.SameBlocks (e.demandOff p).s := by
  unfold Ev.demandOff
  split
  · exact e.powerDown_blocks p
  · exact e.powerDown_blocks p
  · exact e.powerDown_blocks p
  · exact .refl _

theorem Ev.changeDemand_blocks (e : Ev) (p : PanelId) (f : Panel → Panel) : e.s.SameBlocks (e.changeDemand p f).s := by
  simp only [Ev.changeDemand]
  split
  · exact (e.modPanel_blocks p f).trans (State.checkPowerUp_blocks _ p)
  · exact (e.modPanel_blocks p f).trans (Ev.demandOff_blocks _ p)
  · exact e.modPanel_blocks p f

theorem Ev.applyPlan_blocks (e : Ev) : e.s.SameBlocks e.applyPlan.s := by
  simp only [Ev.applyPlan]
  exact ((e.changeDemand_blocks .p0 _).trans (Ev.changeDemand_blocks _ .p1 _)).trans (Ev.evalJoined_blocks _)

theorem Ev.goOffline_blocks (e : Ev) (p : PanelId) (c : FaultCause) : e.s.SameBlocks (e.goOffline p c).s := by
  simp only [Ev.goOffline]
  split
  · exact ((e.modPanel_blocks p _).trans (Ev.raise_blocks _ .panel)).trans (Ev.leaveService_blocks _ p _)
  · exact (e.modPanel_blocks p _).trans (Ev.raise_blocks _ .panel)

theorem Ev.checkWarning_blocks (e : Ev) (p : PanelId) : e.s.SameBlocks (e.checkWarning p).s := by
  simp only [Ev.checkWarning]
  split
  · split
    · exact .refl _
    · exact (e.modPanel_blocks p _).trans (Ev.raise_blocks _ .panel)
  · exact e.modPanel_blocks p _

theorem Ev.checkLevels_blocks (e : Ev) (p : PanelId) : e.s.SameBlocks (e.checkLevels p).s := by
  simp only [Ev.checkLevels]
  split
  · exact e.goOffline_blocks p _
  · split
    · exact (e.modPanel_blocks p _).trans (Ev.raise_blocks _ .panel)
    · split
      · exact (e.modPanel_blocks p _).trans (Ev.raise_blocks _ .panel)
      · exact .refl _

theorem Ev.checkHealth_blocks (e : Ev) (p : PanelId) : e.s.SameBlocks (e.checkHealth p).s :=
  (e.checkWarning_blocks p).trans (Ev.checkLevels_blocks _ p)

theorem Ev.reportApplied_blocks (p : PanelId) (s : State) (e : Ev) (k : Fin 16) :
    e.s.SameBlocks (Ev.reportApplied p s e k).s := by
  unfold Ev.reportApplied
  split
  · exact .refl _
  · simp only
    split
    · exact ((State.modRecord_blocks _ _ _).trans (State.checkCurrency_blocks _ _)).trans
        (State.modJob_frame _ _ _).blocks
    · exact (((State.modRecord_blocks _ _ _).trans (State.checkRetired_blocks _ _)).trans
        (State.checkCurrency_blocks _ _)).trans (State.modJob_frame _ _ _).blocks

theorem Ev.reportFrame_blocks (p : PanelId) (s : State) (e : Ev) : e.s.SameBlocks (Ev.reportFrame p s e).s :=
  Ev.foldl_blocks _ (fun e k => Ev.reportApplied_blocks p s e k) _ e

theorem Ev.checkTimeout_blocks (p : PanelId) (s : State) (e : Ev) : e.s.SameBlocks (Ev.checkTimeout p s e).s := by
  unfold Ev.checkTimeout
  split
  · exact e.checkHealth_blocks p
  · exact .refl _

theorem Ev.soloFrame_blocks (e : Ev) (p : PanelId) : e.s.SameBlocks (e.soloFrame p).s := by
  simp only [Ev.soloFrame]
  refine State.SameBlocks.trans ?_ (Ev.checkTimeout_blocks p _ _)
  refine State.SameBlocks.trans ?_ (Ev.endSteps_frame _).blocks
  refine State.SameBlocks.trans ?_ (Ev.reportFrame_blocks p _ _)
  exact (e.modPanel_blocks p _).trans (State.openFrame_blocks _ p)

theorem Ev.jointFrame_blocks (e : Ev) : e.s.SameBlocks e.jointFrame.s := by
  simp only [Ev.jointFrame]
  refine State.SameBlocks.trans ?_ (Ev.checkTimeout_blocks .p1 _ _)
  refine State.SameBlocks.trans ?_ (Ev.checkTimeout_blocks .p0 _ _)
  refine State.SameBlocks.trans ?_ (Ev.endSteps_frame _).blocks
  refine State.SameBlocks.trans ?_ (Ev.reportFrame_blocks .p1 _ _)
  refine State.SameBlocks.trans ?_ (Ev.reportFrame_blocks .p0 _ _)
  refine State.SameBlocks.trans ?_ (State.openFrame_blocks _ .p1)
  refine State.SameBlocks.trans ?_ (State.openFrame_blocks _ .p0)
  refine State.SameBlocks.trans ?_ (State.modPanel_blocks _ .p1 _)
  refine State.SameBlocks.trans ?_ (State.modPanel_blocks _ .p0 _)
  exact (e.modPanel_blocks .p0 _).trans (State.modPanel_blocks _ .p1 _)

theorem Ev.lockFrame_blocks (e : Ev) : e.s.SameBlocks e.lockFrame.s := by
  simp only [Ev.lockFrame]
  refine State.SameBlocks.trans ?_ (Ev.jointFrame_blocks _)
  exact (e.modPanel_blocks .p1 _).trans (State.setJoined_blocks _ _)

theorem Ev.frameStart_blocks (e : Ev) (p : PanelId) : e.s.SameBlocks (e.frameStart p).s := by
  unfold Ev.frameStart
  split
  · exact e.jointFrame_blocks
  · exact e.lockFrame_blocks
  · exact e.soloFrame_blocks _

theorem Ev.enterOn_blocks (e : Ev) (p : PanelId) : e.s.SameBlocks (e.enterOn p).s := by
  unfold Ev.enterOn
  refine State.SameBlocks.trans ?_ (Ev.evalJoined_blocks _)
  refine State.SameBlocks.trans ?_ (Ev.examineAll_frame _).blocks
  exact (e.modPanel_blocks p _).trans (Ev.soloFrame_blocks _ p)

theorem Ev.leaveOffline_blocks (e : Ev) (p : PanelId) : e.s.SameBlocks (e.leaveOffline p).s := by
  simp only [Ev.leaveOffline]
  exact (e.modPanel_blocks p _).trans (State.enterOff_blocks _ p)

theorem Ev.setEnable_blocks (e : Ev) (p : PanelId) (b : Bool) : e.s.SameBlocks (e.setEnable p b).s := by
  simp only [Ev.setEnable]
  exact e.changeDemand_blocks p _

theorem Ev.done_blocks (e : Ev) : e.s.SameBlocks e.done := e.finish_frame.blocks

end Sys2Proof.Machine
end

