-- ==== Sys2Proof/Laws/Link.lean ====
section
/-! SUPPORT. What the Request Link does with a request's command (R176, R179) and the frames it forms (R174, R177). -/

namespace Sys2Proof.Machine

variable (s : State) (c : Instr)

/-! ### The state an owner executes in -/

theorem State.handed_accepting (h : s.accepting) : s.handed c = s.take c := by
  rcases h with h | h <;> simp [State.handed, h]

theorem State.handed_executing (h : s.link.state = .executing) : s.handed c = s := by simp [State.handed, h]

/-- The state handed over differs from the one before in the link alone. -/
theorem State.handed_eq : s.handed c = { s with link := (s.handed c).link } := by
  unfold State.handed
  split <;> rfl

@[simp] theorem State.handed_hinge : (s.handed c).hinge = s.hinge := by rw [State.handed_eq]
@[simp] theorem State.handed_posture : (s.handed c).posture = s.posture := by rw [State.handed_eq]
@[simp] theorem State.handed_table : (s.handed c).table = s.table := by rw [State.handed_eq]
@[simp] theorem State.handed_rules : (s.handed c).rules = s.rules := by rw [State.handed_eq]
@[simp] theorem State.handed_queue : (s.handed c).queue = s.queue := by rw [State.handed_eq]
@[simp] theorem State.handed_panels : (s.handed c).panels = s.panels := by rw [State.handed_eq]
@[simp] theorem State.handed_shared : (s.handed c).shared = s.shared := by rw [State.handed_eq]
@[simp] theorem State.handed_slots : (s.handed c).slots = s.slots := by rw [State.handed_eq]
@[simp] theorem State.handed_attn : (s.handed c).attn = s.attn := by rw [State.handed_eq]
@[simp] theorem State.handed_now : (s.handed c).now = s.now := by rw [State.handed_eq]
@[simp] theorem State.handed_offers : (s.handed c).offers = s.offers := by rw [State.handed_eq]
@[simp] theorem State.handed_pending : (s.handed c).pending = s.pending := by rw [State.handed_eq]
@[simp] theorem State.handed_reset : (s.handed c).link.reset = s.link.reset := by
  unfold State.handed
  split <;> rfl
@[simp] theorem State.handed_sdo : (s.handed c).link.sdo = s.link.sdo := by
  unfold State.handed
  split <;> rfl

/-- Two states that differ in the link alone are answered alike when the two links agree on what an answer keeps. -/
theorem State.answered_link (l : Link) (hr : l.reset = s.link.reset) (hs : l.sdo = s.link.sdo) (st : Status)
    (payload : List Byte) : { s with link := l }.answered st payload = s.answered st payload := by
  simp only [State.answered, hr, hs]

@[simp] theorem State.handed_answered (st : Status) (payload : List Byte) :
    (s.handed c).answered st payload = s.answered st payload := by
  rw [State.handed_eq]
  exact s.answered_link _ (s.handed_reset c) (s.handed_sdo c) st payload

/-! ### A request's command -/

/-- In its turn, a request's owner executes it and its answer is placed in the buffer. -/
theorem State.runRequest_turn {s : State} {c : Instr} (h : s.turn c) (owner : State → State × Reply) :
    s.runRequest c owner = (owner (s.handed c)).1.answered (owner (s.handed c)).2.status (owner (s.handed c)).2.payload := by
  rcases h with h | ⟨h, he⟩
  · rw [State.handed_accepting s c h]
    rcases h with h | h <;> simp [State.runRequest, h, State.respond_eq_answered]
  · rw [State.handed_executing s c h]
    simp [State.runRequest, h, he, State.respond_eq_answered]

/-- A discarded frame sets LINK, or nothing while RST_N is low. -/
theorem State.discard_eq : s.discard = if s.rstLow then s else s.raise .link := rfl

/-- While RST_N is low, no frame is taken and nothing set. -/
theorem State.discard_low {s : State} (h : s.rstLow = true) : s.discard = s := by simp [State.discard, h]

/-- A frame discarded by a link that takes transactions sets LINK. -/
theorem State.discard_busy {s : State} (h : s.rstLow = false) : s.discard = s.raise .link := by simp [State.discard, h]

/-- RST_N is not low while the link takes frames. -/
theorem State.accepting.not_low {s : State} (h : s.accepting) : s.rstLow = false := by
  rcases h with h | h <;> simp [State.rstLow, h]

/-- R180: after an edge of RST_N the line is low until it has risen. -/
@[simp] theorem State.beginPowerOn_rstLow (risen : Bool) : (s.beginPowerOn risen).rstLow = !risen := by
  cases risen <;> rfl

/-- R180: until the end of the power-on reset every flag is clear, so ATTN_N is released. -/
@[simp] theorem State.beginPowerOn_flags (risen : Bool) : (s.beginPowerOn risen).attn.flags = .empty := rfl

/-- Out of its turn, its frame is discarded. -/
theorem State.runRequest_busy {s : State} {c : Instr} (h : ¬s.turn c) (owner : State → State × Reply) :
    s.runRequest c owner = s.discard := by
  unfold State.turn State.accepting at h
  unfold State.runRequest
  cases hl : s.link.state <;> simp_all

/-! ### Frames -/

theorem byteSum_append (a b : List Byte) : byteSum (a ++ b) = byteSum a + byteSum b := by
  induction a with
  | nil => simp [byteSum]
  | cons x a ih => simp [byteSum, ih, BitVec.add_assoc]

/-- R174: every frame the part forms sums to 0 modulo 256. -/
theorem byteSum_frameOf (first : Byte) (payload : List Byte) : byteSum (frameOf first payload) = 0 := by
  simp only [frameOf, byteSum_append, byteSum]
  bv_omega

theorem frameOf_length (first : Byte) (payload : List Byte) : (frameOf first payload).length = payload.length + 3 := by
  simp [frameOf]

end Sys2Proof.Machine
end

