-- ==== Sys2Proof/Tests/Slice0.lean ====
section
/-! SUPPORT. Tests of single steps against values the spec gives, the refusals of the well-formedness check, and for each
obligation with hypotheses a state that meets them. -/

namespace Sys2Proof.Tests
open Sys2Proof Sys2Proof.Machine

set_option Elab.async false

/-! ### Helpers -/

/-- The state a command leaves. -/
def after (c : Instr) (s : State) : State :=
  match exec c s with
  | .next t => t
  | .fault _ => s
  | .refused _ => s

/-- The response frame held after a command. -/
def answer (c : Instr) (s : State) : List Byte := (after c s).link.buffer.getD []

/-- The link in another state. -/
def inLink (l : LinkState) (s : State) : State := { s with link := { s.link with state := l } }

/-- A hinge input that tracks an angle, under a committed posture. -/
def tracking (f : Nat) (p : Posture) : State :=
  { State.reset with
    hinge := { State.reset.hinge with
      input := .tracking, recv := .ready, good := 4, expected := some 0, angle := f, acc := 16 * f, filtered := f
      window := Vector.replicate 8 f }
    posture := { State.reset.posture with committed := p, candidate := p } }

/-- A panel that is lit and in service. -/
def onPanel : Panel := { Panel.powerOn with mode := .on, planLit := true, effective := 16667, ackOwed := true }

/-- BOOK committed with both panels ON. -/
def lit : State := { tracking 1000 .book with panels := ⟨onPanel, onPanel⟩ }

/-- One panel of `lit` in another state. -/
def withPanel (s : State) (p : PanelId) (f : Panel → Panel) : State := s.modPanel p f

/-- A descriptor whose stride is four bytes a pixel. -/
def desc (w h tag : Nat) : Descriptor :=
  ⟨0x1000#32, BitVec.ofNat 16 ((4 * w + 63) / 64 * 64), BitVec.ofNat 16 w, BitVec.ofNat 16 h, BitVec.ofNat 16 tag⟩

/-- A record with the full buffer of panel 0, not shown. -/
def parkedRecord : Record where
  state := .parked
  cls := 0x0100
  owner := 0x0007
  home := .p0
  z := 5
  redraw := false
  placeholder := false
  fill := 0x11223344
  current := some ⟨0, desc 1440 1920 0x0101⟩
  pending := none
  wanted := none
  released := none
  pieces := []
  rect := none
  variants := []
  moveTo := none
  marks := .empty
  staleContent := false
  resPending := false

/-- The full rectangle of a panel. -/
def fullPanel : Rect := ⟨0, 0, 1440, 1920⟩

/-- The record shown whole on panel 0 by slot 0. -/
def placedRecord : Record :=
  { parkedRecord with state := .placed, pieces := [⟨.p0, 0, fullPanel, 0, 0, false⟩], rect := some fullPanel }

/-- The configuration that shows it. -/
def shownConfig : SlotConfig where
  owner := ⟨0, 0⟩
  dest := fullPanel
  srcX := 0
  srcY := 0
  rotated := false
  buffer := some ⟨0, desc 1440 1920 0x0101⟩
  fetch := .increment
  fill := 0x11223344
  z := 5
  focus := false

/-- `lit` with record 0 shown on panel 0. -/
def shown : State :=
  { (lit.setEntry 0 (.used placedRecord)).setSlot 0 (.live ⟨0, 0⟩ shownConfig none) with offers := 1 }

/-- `lit` with record 0 parked. -/
def parked : State := { lit.setEntry 0 (.used parkedRecord) with offers := 1 }

/-- The record set to RETIRING, its slot still live. -/
def retiring : State := shown.setEntry 0 (.used { placedRecord with state := .retiring })

/-- A target that shows the record whole on panel 0 with a redraw wanted. -/
def redrawTarget : Resolution :=
  ⟨some ⟨.panel .p0, fullPanel, [⟨.p0, fullPanel, 0, 0, false, none⟩]⟩, some ⟨1440, 1920⟩, .brk, 200⟩

/-- A job that waits for its buffer. -/
def waitingJob : Job := { Job.fresh ⟨0, 0⟩ redrawTarget with waiting := true, expiry := some 200000 }

/-- Record 0 MOVING, waiting for a buffer of 1440 by 1920 that is due at 200 ms. -/
def waiting : State :=
  { parked.setEntry 0 (.used { parkedRecord with
      state := .moving, redraw := true, wanted := some ⟨1440, 1920⟩, current := some ⟨0, desc 800 600 0x0101⟩ }) with
    queue := [waitingJob] }

/-- The handle of record 0. -/
def h0 : HandleField := ⟨0, 0⟩

/-- A sensor frame from its angle code, field status and rolling count, with its check nibble. -/
def frame (code field count check : Nat) : BitVec 32 :=
  BitVec.ofNat 32 (0xB4 * 2 ^ 24 + code * 2 ^ 10 + field * 2 ^ 8 + count * 2 ^ 4 + check)

/-! ### Well-formedness refuses -/

theorem test_wf_partial_byte : (Instr.writeTransaction [] 8).wf = false := by decide
theorem test_wf_ignored_opener : (Instr.ignoredTransaction (some 0xA1#8)).wf = false := by decide
theorem test_wf_known_ack : (Instr.unknownAckCode .p0 0x3C#8 true).wf = false := by decide
theorem test_wf_accepts :
    (Instr.writeTransaction [] 7).wf = true ∧ (Instr.ignoredTransaction (some 0xA3#8)).wf = true ∧
      (Instr.unknownAckCode .p0 0x3C#8 false).wf = true := by decide

/-! ### Frames of the request link -/

theorem test_decode_table_word : decodeTableWord 8 0x60 = none := by decide
theorem test_decode_set_lending : decodeRequest 0x54#8 [1, 2] = .ok (.setLending 1 2) := by decide
theorem test_decode_short_variant :
    decodeRequest 0x33#8 [1, 2, 4, 3, 1] = .ok (.setVariant ⟨1, 2⟩ 4 3 1 none) := by decide
theorem test_decode_move :
    decodeRequest 0x42#8 [0, 5, 1, 0xFF, 0xFE, 0, 3, 0, 16, 0x1F, 0xFF] =
      .ok (.moveSurface ⟨0, 5⟩ 1 (some ⟨0xFFFE, 3, 16, 0x1FFF⟩)) := by decide
theorem test_decode_bad_length : decodeRequest 0x54#8 [1] = .error .badLength := by decide
theorem test_decode_unknown : decodeRequest 0x26#8 [] = .error .unknownRequest := by decide
/-- R174: 0x60 + 0x00 + 0xA0 is 0 modulo 256. -/
theorem test_write_transaction :
    (after (.writeTransaction [0x60, 0x00, 0xA0] 0) State.reset).link.executing = some .readStatus := by decide +kernel
theorem test_write_partial :
    answer (.writeTransaction [0x60, 0x00, 0xA0] 3) State.reset = [0x12, 0x00, 0xEE] := by decide +kernel
theorem test_read_idle : (after (.readTransaction false 4) State.reset).link.sdo = [0x03, 0x00, 0xFD, 0x00] := by
  decide +kernel
theorem test_read_busy :
    (after (.readTransaction false 3) (inLink .resetting State.reset)).link.sdo = [0x02, 0x00, 0xFE] := by
  decide +kernel
/-- R173: 0x03 is 00000011, the most significant bit first. -/
theorem test_sdo_line :
    State.reset.sdoLine (.read false) (.byte 0 5) = .driven false ∧
      State.reset.sdoLine (.read false) (.byte 0 6) = .driven true ∧
      State.reset.sdoLine (.read false) .csHigh = .released := by decide +kernel
theorem test_ignored : after (.ignoredTransaction (some 0#8)) State.reset = State.reset := by decide +kernel

/-! ### Resets -/

theorem test_power_on_reset :
    (after .powerOnReset lit).rstLow = true ∧ (after .powerOnReset lit).attnLow = false ∧
      (after .powerOnReset (after .powerOnReset lit)).link.reset = some .powerOn := by decide +kernel
/-- R180: no transaction is taken while RST_N is low: no LINK flag, nothing on SDO. -/
theorem test_power_on_reset_held :
    let s := after .powerOnReset lit
    (after (.writeTransaction [0x60, 0x00, 0xA0] 0) s).attn.flags = .empty ∧ s.sdoLine (.read false) (.byte 0 0) = .released := by
  decide +kernel
theorem test_power_on_reset_end : after .powerOnResetEnd (after .powerOnReset (after .powerOnReset State.reset)) = State.reset := by
  decide +kernel
/-- R71, R149: the generation advances, the period is kept. -/
theorem test_reset :
    (after .reset shown).gen 0 = 1 ∧ (after .reset shown).gen 1 = 0 ∧
      ((after .reset shown).panel .p0).offTimer = some 100000 := by decide +kernel
theorem test_soft_reset_end :
    (after .softResetEnd (after .reset shown)).attn.flags = { FlagSet.empty with resetDone := true } := by decide +kernel

/-! ### Hinge -/

theorem test_hinge_enable_off :
    (after (.hingeEnable 0) (tracking 1000 .book)).hinge.input = .disabled ∧
      (after (.hingeEnable 0) (tracking 1000 .book)).hinge.filtered = 1000 := by decide +kernel
theorem test_hinge_enable_same : answer (.hingeEnable 1) State.reset = [0x00, 0x01, 0x01, 0xFE] := by decide +kernel
theorem test_read_hinge :
    (answer .readHinge (tracking 1000 .book)).take 9 = [0x00, 14, 2, 0, 0, 0x03, 0xE8, 0x03, 0xE8] := by decide +kernel
theorem test_set_calibration :
    (after (.setCalibration #v[0, 0, 0, 0, 0, 0, 0, 0, 3601]) State.reset).hinge = State.reset.hinge := by decide +kernel
theorem test_set_filter :
    (answer (.setFilter 9 0 0 1 99) State.reset).drop 2 = [5, 1, 1, 2, 32, 0xD2] := by decide +kernel
theorem test_line_idle : (after .lineIdle State.reset).hinge.recv = .ready := by decide +kernel
/-- R13, R15 with k = 2: S = 32000 and raw code 9300 give A = 2043, S = 32172 and F = 2011. -/
theorem test_frame_arrival_filter :
    let s := { tracking 2000 .flat with posture := { State.reset.posture with committed := .flat, candidate := .flat } }
    let t := after (.frameArrival (.frame (frame 9300 0 0 0))) s
    t.hinge.angle = 2043 ∧ t.hinge.acc = 32172 ∧ t.hinge.filtered = 2011 := by decide +kernel
theorem test_frame_arrival_bad_field :
    (after (.frameArrival (.frame (frame 0 3 0 12))) (tracking 2000 .flat)).hinge.lastCause = .field := by decide +kernel
theorem test_cell_timeout :
    let s := { State.reset with hinge := { State.reset.hinge with recv := .inFrame [true], cellTimer := some 12 } }
    (after .cellTimeout s).hinge.lastCause = .framing ∧ (after .cellTimeout s).hinge.recv = .idleWait := by decide +kernel
theorem test_silent_expiry :
    (after .silentExpiry State.reset).hinge.bad = 1 ∧
      (after .silentExpiry State.reset).hinge.silentTimer = some 10000 := by decide +kernel
theorem test_hsns_cell :
    let s := { State.reset with hinge := { State.reset.hinge with recv := .inFrame [] } }
    (after (.hsnsCell 2000) s).hinge.recv = .inFrame [true] ∧
      (after (.hsnsCell 1999) s).hinge.recv = .inFrame [false] := by decide +kernel

/-! ### Posture -/

theorem test_dwell_expiry :
    let s := { lit with posture := { lit.posture with candidate := .flat, dwell := .running 120000 } }
    (after .dwellExpiry s).posture.committed = .flat ∧ (after .dwellExpiry s).now = 120000 := by decide +kernel
theorem test_fold_edge : (after (.foldEdge true) State.reset).posture.debounceTimer = some 8000 := by decide +kernel
theorem test_debounce_expiry :
    (after .debounceExpiry (after (.foldEdge true) State.reset)).posture.committed = .closed := by decide +kernel
theorem test_read_posture :
    (answer .readPosture (tracking 1000 .book)).drop 2 = [2, 2, 0, 0, 0, 2, 0, 3, 0xE8, 0x06] := by decide +kernel
/-- R39: with H = 40 a band must be wider than 80. -/
theorem test_set_bands :
    (answer (.setBands 80 1550 2050 3300 40 120) State.reset).take 1 = [0x20] ∧
      (answer (.setBands 81 1550 2050 3300 40 120) State.reset).take 1 = [0x00] := by decide +kernel
theorem test_set_switch : (answer (.setSwitch 1 1000) State.reset).drop 2 = [1, 3, 0x84, 0x75] := by decide +kernel
theorem test_force_posture :
    answer (.forcePosture 2) State.reset = [0x24, 0x00, 0xDC] ∧
      (after (.forcePosture 4) (after (.hingeEnable 0) State.reset)).posture.committed = .tent := by decide +kernel
theorem test_set_front :
    answer (.setFront 1) State.reset = [0x01, 0x00, 0xFF] ∧ answer (.setFront 0) State.reset = [0x00, 0x00, 0x00] := by
  decide +kernel
/-- R42, R135: span on in FLAT with both panels ON begins the lock. -/
theorem test_set_span :
    (after (.setSpan 1) { lit with posture := { lit.posture with committed := .flat } }).shared.joined = .lockPending := by
  decide +kernel

/-! ### Surfaces -/

theorem test_create_surface :
    (answer (.createSurface 0x0100 7 1 5 3 0 none) shown).drop 2 = [0, 1, 0xFC] ∧
      ((after (.createSurface 0x0100 7 1 5 1 0 none) shown).record? 1).map Record.state = some .new := by decide +kernel
/-- R53 order 4: another size than the wanted one. -/
theorem test_offer_mismatch : (answer (.offerBuffer h0 (desc 1440 1900 2)) waiting).take 1 = [0x25] := by decide +kernel
/-- R53 order 7, R55: the slot shows the old buffer, so the new one is pending. -/
theorem test_offer_restage :
    answer (.offerBuffer h0 (desc 1440 1920 2)) shown = [0x01, 0x01, 2, 0xFC] ∧
      ((after (.offerBuffer h0 (desc 1440 1920 2)) shown).record? 0).map (·.current) =
        some placedRecord.current := by decide +kernel
theorem test_amend_surface :
    ((after (.amendSurface h0 1 9 0xFF 0 0 0xFF 0) shown).record? 0).map Record.z = some 9 ∧
      ((after (.amendSurface h0 1 9 0xFF 0 0 0xFF 0) shown).slot 0).staged?.isSome = true := by decide +kernel
theorem test_set_variant :
    (answer (.setVariant h0 0x04 3 0 none) parked).drop 2 = [1, 63, 0xBD] := by decide +kernel
theorem test_clear_variants : answer (.clearVariants h0) parked = [0, 0, 0] := by decide +kernel
theorem test_set_focus :
    (after (.setFocus h0) shown).table.focus = some ⟨0, 0⟩ ∧ answer (.setFocus ⟨0xFF, 0xFF⟩) shown = [0, 0, 0] := by
  decide +kernel
theorem test_lookup_surface :
    (answer (.lookupSurface h0) shown).length = 146 ∧
      (answer (.lookupSurface h0) shown).take 8 = [0x00, 143, 0, 0, 2, 0x11, 0x01, 0x00] := by decide +kernel
theorem test_find_surfaces :
    (answer (.findSurfaces 0 0x00070000 0) shown).take 6 = [0x00, 4, 1, 0, 0, 0xFF] := by decide +kernel
theorem test_retire_surface :
    (answer (.retireSurface h0) shown).take 1 = [0x01] ∧
      ((after (.retireSurface h0) parked).entry 0).isRetired = true := by decide +kernel
theorem test_retire_owner : (answer (.retireOwner 7) parked).drop 2 = [1, 0xFE] := by decide +kernel
theorem test_write_rule :
    (answer (.writeRule 0 ⟨1, 0x0200, 0xFF00, #v[4, 0, 4, 0, 4], #v[0, 0, 0, 0, 0], 1, 0, 255⟩) State.reset).drop 2 =
      [200, 0x37] := by decide +kernel
/-- R73: the built-in default rule. -/
theorem test_read_rule :
    (answer (.readRule 16) State.reset).drop 2 =
      [16, 1, 0, 0, 0, 0, 4, 0, 0, 0, 2, 0, 0, 0, 0, 0, 0, 1, 20, 0xC1] := by decide +kernel
/-- R81: panel 1's first usable slot is slot 8. -/
theorem test_move_surface :
    answer (.moveSurface h0 1 none) shown = [0x01, 0x00, 0xFF] ∧
      ((after (.moveSurface h0 1 none) shown).slot 0).staged? = some (.removal false) := by decide +kernel
/-- R105, R107: the wait ends, and the job goes on with the buffer it has. -/
theorem test_deadline_expiry :
    (after (.deadlineExpiry 0) waiting).now = 200000 ∧
      ((after (.deadlineExpiry 0) waiting).record? 0).map (fun r => (r.wanted, r.marks.stale)) = some (none, true) := by
  decide +kernel
theorem test_read_queue : (answer .readQueue waiting).drop 2 = [1, 0, 0, 0, 1, 0, 0, 200, 0x2E] := by decide +kernel

/-! ### Panels -/

/-- A panel that waits for its off-time with its lit demand on. -/
def offPanel : Panel := { Panel.powerOn with planLit := true, offTimer := some 100000 }

theorem test_off_time_expiry :
    let s := { lit with panels := ⟨offPanel, onPanel⟩ }
    ((after (.offTimeExpiry .p0) s).panel .p0).mode = .poweringUp .rail ∧
      ((after (.offTimeExpiry .p0) s).panel .p0).seqTimer = some 110000 := by decide +kernel

/-- A panel in a stage of its power-up that ends at 10 ms. -/
def stage (st : PowerStage) : State :=
  { lit with panels := ⟨{ Panel.powerOn with planLit := true, mode := .poweringUp st, seqTimer := some 10000 }, onPanel⟩ }

theorem test_rail_stage_end :
    ((after (.railStageEnd .p0) (stage .rail)).panel .p0).seqTimer = some 15000 := by decide +kernel
theorem test_reset_stage_end :
    ((after (.resetStageEnd .p0) (stage .reset)).panel .p0).seqTimer = some 60000 := by decide +kernel
theorem test_training_expiry :
    ((after (.trainingExpiry .p0) (stage .training)).panel .p0).mode = .offline ∧
      ((after (.trainingExpiry .p0) (stage .training)).panel .p0).fault = ⟨true, false, false⟩ := by decide +kernel
theorem test_power_down_end :
    let s := { lit with panels := ⟨{ Panel.powerOn with mode := .poweringDown, seqTimer := some 20000 }, onPanel⟩ }
    ((after (.powerDownEnd .p0) s).panel .p0).mode = .off ∧
      ((after (.powerDownEnd .p0) s).panel .p0).offTimer = some 120000 := by decide +kernel
theorem test_train_ok :
    ((after (.trainOk .p0) (stage .training)).panel .p0).mode = .on ∧
      ((after (.trainOk .p0) (stage .training)).panel .p0).effective = 16667 := by decide +kernel
theorem test_frame_ok :
    ((after (.frameOk .p1) (lit.modPanel .p1 fun x => { x with health := 96 })).panel .p1).health = 95 := by
  decide +kernel
/-- Chapter Worked Fold Sequences: 90 and a FRAME_BAD give 96 and DEGRADED. -/
theorem test_frame_bad :
    let t := after (.frameBad .p1) (lit.modPanel .p1 fun x => { x with health := 90 })
    (t.panel .p1).health = 96 ∧ (t.panel .p1).mode = .degraded ∧ t.attn.flags.panel = true := by decide +kernel
theorem test_unknown_ack_code :
    ((after (.unknownAckCode .p0 0x3C false) lit).panel .p0).pathHeld = true ∧
      ((after (.unknownAckCode .p0 0x3C false) lit).panel .p0).health = 6 := by decide +kernel
theorem test_ack_path_idle :
    ((after (.ackPathIdle .p0) (lit.modPanel .p0 fun x => { x with pathHeld := true })).panel .p0).pathHeld = false := by
  decide +kernel
/-- Chapter Worked Fold Sequences: at 186, with an acknowledgement owed, a frame start brings 192 and OFFLINE. -/
theorem test_frame_start_timeout :
    let s := lit.modPanel .p1 fun x => { x with health := 186, mode := .degraded, effective := 33334 }
    let t := after (.frameStart .p1) s
    (t.panel .p1).mode = .offline ∧ (t.panel .p1).fault = ⟨false, false, true⟩ := by decide +kernel
theorem test_staging_cutoff :
    (after (.stagingCutoff .p0) lit).now = 15167 ∧
      ((after (.stagingCutoff .p0) lit).panel .p0).cutoffDone = true := by decide +kernel

/-- Panel 1 OFFLINE with its quiet timer running. -/
def offline : State :=
  { lit with panels := ⟨onPanel, { Panel.powerOn with planLit := true, mode := .offline, quietTimer := some 500000 }⟩ }

theorem test_quiet_expiry :
    ((after (.quietExpiry .p1) offline).panel .p1).mode = .poweringUp .rail ∧
      ((after (.quietExpiry .p1) offline).panel .p1).attempts = 1 := by decide +kernel
theorem test_stability_expiry :
    let s := lit.modPanel .p1 fun x => { x with attempts := 2, stableTimer := some 2000000 }
    ((after (.stabilityExpiry .p1) s).panel .p1).attempts = 0 := by decide +kernel
theorem test_set_panel_geometry :
    (answer (.setPanelGeometry 1440 1920 32) lit).take 1 = [0x24] ∧
      (after (.setPanelGeometry 2560 480 96) State.reset).shared.width = 2560 := by decide +kernel
theorem test_set_refresh :
    (answer (.setRefresh 0 7999 4001) State.reset).drop 2 = [0x1F, 0x40, 0x0F, 0xA0, 0xEE] := by decide +kernel
theorem test_set_power_timing :
    (after (.setPowerTiming 0 0 0 0 9999 0) State.reset).shared = ⟨1440, 1920, 32, 1, 1, 10, 1, 2000, 100, .notJoined,
      .p0, 0⟩ := by decide +kernel
theorem test_panel_enable :
    ((after (.panelEnable 0 0) lit).panel .p0).mode = .poweringDown ∧
      (answer (.panelEnable 0 0) lit).take 1 = [0x01] := by decide +kernel
/-- R143: from lender 0, count 4 to lender 1, count 2. -/
theorem test_set_lending :
    (answer (.setLending 1 2) { lit with shared := { lit.shared with lent := 4 } }).drop 2 =
      [1, 2, 10, 6, 0xE9] := by decide +kernel
theorem test_read_panel :
    (answer (.readPanel 1) offline).take 4 = [0x00, 22, 5, 0x06] := by decide +kernel
theorem test_panel_recover :
    answer (.panelRecover 1) offline = [0x01, 0x02, 1, 0, 0xFC] := by decide +kernel
theorem test_set_recovery_mode :
    ((after (.setRecoveryMode 1 1 1) offline).panel .p1).quietTimer = none := by decide +kernel

/-! ### Attention -/

theorem test_read_status :
    (answer .readStatus shown).drop 2 = [0x40, 0x7F, 1, 2, 2, 2, 2, 0, 1, 0, 0x2D] := by decide +kernel
theorem test_ack_attention :
    (after (.ackAttention 0x40) State.reset).attn.flags = .empty ∧
      (answer (.ackAttention 0x80) State.reset).take 1 = [0x20] := by decide +kernel
theorem test_attn_enable :
    answer (.attnEnable 0x01) (after (.attnDisable 0x7F) State.reset) = [0x00, 0x01, 0x01, 0xFE] := by decide +kernel
theorem test_attn_disable :
    (after (.attnDisable 0x40) State.reset).attnLow = false := by decide +kernel
theorem test_set_notice_threshold : (answer (.setNoticeThreshold 9) State.reset).drop 2 = [8, 0xF7] := by decide +kernel
/-- R68, R171: a reported RETIRED record's slot is FREE, its generation advanced, and the cursor past it. -/
theorem test_read_notices :
    let t := after .readNotices (after (.retireSurface h0) parked)
    t.entry 0 = .free ∧ t.gen 0 = 1 ∧ t.table.cursor = 1 ∧ t.attn.flags.notice = false := by decide +kernel

/-! ### Operations -/

/-- R84: a canvas rectangle across the seam. -/
theorem test_pieces_across_seam :
    (piecesOf .powerOn none .canvas ⟨1200, 300, 600, 800⟩).map (fun t => (t.panel, t.dest, t.srcX)) =
      [(.p0, ⟨1200, 300, 240, 800⟩, 0), (.p1, ⟨0, 300, 328, 800⟩, 272)] := by decide +kernel
/-- R86: a piece on the rotated panel. -/
theorem test_pieces_rotated :
    (piecesOf .powerOn (some .p1) (.panel .p1) ⟨100, 0, 400, 500⟩).map (fun t => (t.dest, t.rotated)) =
      [(⟨940, 1420, 400, 500⟩, true)] := by decide +kernel

/-! ### States that meet the obligations' hypotheses: one theorem for each obligation, each clause at a boundary of its range -/

/-- An idle link takes any request. -/
theorem turn_of_idle {s : State} (h : s.link.state = .idle) (c : Instr) : s.turn c := .inl (.inl h)

/-- An EXECUTING link lets the request it took execute. -/
theorem turn_of_taken (s : State) (c : Instr) : (s.take c).turn c := .inr ⟨rfl, rfl⟩

/-- There is no panel 2. -/
theorem no_panel_two : ∀ p, (2 : Byte) ≠ panelCode p := by
  intro p
  cases p <;> decide

/-- `shown` with a response unread. -/
def held : State :=
  { shown with link := { shown.link with state := .responseReady, buffer := some [0x24, 0x00, 0xDC], readPos := 2 } }

/-- The switch in use and asserted, CLOSED committed, the angle at the agree limit. -/
def held250 : State :=
  { tracking 250 .closed with posture := { (tracking 250 .closed).posture with debounced := true } }

/-- A record with four variants. -/
def variedRecord : Record :=
  { parkedRecord with variants :=
    [⟨⟨true, false, false, false, false⟩, .home, none, .move⟩, ⟨⟨false, true, false, false, false⟩, .home, none, .move⟩,
      ⟨⟨false, false, true, false, false⟩, .span, none, .move⟩, ⟨⟨false, false, false, true, true⟩, .park, none, .park⟩] }

def varied : State := lit.setEntry 0 (.used variedRecord)

/-- FLAT with span on, both panels ON, joined. -/
def joined : State :=
  { lit with
    posture := { lit.posture with committed := .flat, candidate := .flat, span := true }
    shared := { lit.shared with joined := .joined } }

/-- FLAT with span on, both panels ON, waiting for panel 0's frame start. -/
def locking : State := { joined with shared := { joined.shared with joined := .lockPending } }

/-- Every record slot in use. -/
def full : State := { lit with table := { lit.table with slots := Vector.replicate 40 (.used parkedRecord) } }

/-- `shown` with record 0 RETIRED. -/
def retired : State := shown.setEntry 0 (.retired none .empty)

theorem panels_ok : ∀ p, (lit.panel p).Ok := by
  intro p
  cases p <;> constructor <;> decide

theorem waiting_queue_ok : waiting.QueueOk := by
  have h : ∀ i : Fin 40, ((waiting.record? i).any fun r => decide (r.state = .moving)) =
      waiting.queue.any fun j => decide (j.handle.index = i) := by decide +kernel
  refine ⟨by decide, by decide, fun i => ?_⟩
  have hi := congrArg (· = true) (h i)
  simpa [Option.any_eq_true] using hi

theorem witness_EveryStepEnds :
    State.reset.pending = [] ∧ State.reset.link.executing = none ∧
      (State.reset.take .readStatus).pending = [] ∧ (State.reset.take .readStatus).link.executing = some .readStatus := by
  decide
/-- RST_N held low. -/
def low : State := after .powerOnReset shown

theorem witness_PowerOnResetValues :
    (low.rstLow = true ∧ isRequest .readStatus = true) ∧
      (let s := after .powerOnReset (after .powerOnReset State.reset);
        s.link.state = .resetting ∧ s.link.reset = some .powerOn ∧ s.now = 0 ∧ s.posture.rawLevel = false ∧ s.pending = []) ∧
      ¬(low.link.state = .resetting ∧ low.link.reset = some .powerOn) := by decide +kernel
theorem witness_SoftReset :
    shown.accepting ∧ held.accepting ∧ (after .reset shown).link.state = .resetting ∧
      (after .reset shown).link.reset = some .soft ∧
      ¬(shown.link.state = .resetting ∧ shown.link.reset = some .soft) := by
  refine ⟨.inl rfl, .inr rfl, ?_⟩
  decide +kernel

/-- What a step of an idle queue leaves. -/
theorem idle_step {s : State} (h : s.pending = []) (h' : s.link.executing = none) : step s = .next (s.elapse 1) := by
  simp [step, idle, h, h']

theorem witness_LinkKept : held.link.Ok ∧ ∃ t, step held = .next t := by
  refine ⟨?_, _, idle_step rfl rfl⟩
  constructor <;> decide
theorem witness_HingeRangesKept : (tracking 3600 .folded).hinge.Ok ∧ ∃ t, step (tracking 3600 .folded) = .next t := by
  refine ⟨?_, _, idle_step rfl rfl⟩
  constructor <;> first
    | decide
    | intro l h; cases h
theorem witness_SettingsKept : lit.posture.Ok ∧ lit.shared.Ok ∧ ∃ t, step lit = .next t :=
  ⟨by constructor <;> decide, by constructor <;> decide, _, idle_step rfl rfl⟩
theorem witness_SwitchKept : held250.SwitchOk ∧ ∃ t, step held250 = .next t :=
  ⟨by constructor <;> decide, _, idle_step rfl rfl⟩
theorem witness_QueueKept : waiting.QueueOk ∧ ∃ t, step waiting = .next t := ⟨waiting_queue_ok, _, idle_step rfl rfl⟩
theorem witness_SlotsKept : shown.SlotsOk ∧ ∃ t, step shown = .next t :=
  ⟨⟨by decide +kernel, by decide⟩, _, idle_step rfl rfl⟩
theorem varied_ok : variedRecord.VariantsOk := by
  refine ⟨by decide, by decide, ?_, by decide⟩
  simp only [variedRecord, List.pairwise_cons, PostureSet.disjoint]
  refine ⟨?_, ?_, ?_, ?_, List.Pairwise.nil⟩ <;> intro v hv p <;> fin_cases hv <;> cases p <;> decide

theorem witness_VariantsKept :
    (∀ i r, varied.record? i = some r → r.VariantsOk) ∧ ∃ t, step varied = .next t := by
  refine ⟨fun i r h => ?_, _, idle_step rfl rfl⟩
  have h0 : ∀ i : Fin 40, i ≠ 0 → varied.record? i = none := by decide +kernel
  by_cases hi : i = 0
  · subst hi
    cases h
    exact varied_ok
  · simp [h0 i hi] at h
theorem witness_JoinedKept : joined.JoinedOk ∧ joined.shared.joined ≠ .notJoined ∧ ∃ t, step joined = .next t :=
  ⟨fun _ => by decide, by decide, _, idle_step rfl rfl⟩
theorem witness_PanelRangesKept : (∀ p, (lit.panel p).Ok) ∧ ∃ t, step lit = .next t :=
  ⟨panels_ok, _, idle_step rfl rfl⟩

/-! Requests and the link. -/

theorem witness_MalformedFrameIsRefused :
    shown.accepting ∧ held.accepting ∧ (1 ≠ 0) ∧ ([0x60#8, 0x00#8].length < 3) ∧
      (250 < (([0x60#8, 251#8, 0#8] : List Byte).getD 1 0).toNat) ∧
      ([0x60#8, 0x01#8, 0x9F#8].length ≠ (([0x60#8, 0x01#8, 0x9F#8] : List Byte).getD 1 0).toNat + 3) :=
  ⟨.inl rfl, .inr rfl, by decide⟩
theorem witness_WholeFrameIsJudged :
    held.accepting ∧ (List.replicate 250 (0#8)).length ≤ 250 ∧ byteSum [0x60#8, 0x00#8, 0xA1#8] ≠ 0 ∧
      byteSum [0x26#8, 0x00#8, 0xDA#8] = 0 ∧ 0x26#8 ∉ requestCodes ∧
      byteSum (0x60#8 :: 0xFA#8 :: List.replicate 250 (0#8) ++ [0xA6#8]) = 0 ∧ 0x60#8 ∈ requestCodes ∧
      (∀ r, decodeRequest 0x60#8 (List.replicate 250 (0#8)) ≠ .ok r) ∧
      byteSum [0x60#8, 0x00#8, 0xA0#8] = 0 ∧ decodeRequest 0x60#8 [] = .ok .readStatus ∧
      byteSum [0x70#8, 0x00#8, 0x90#8] = 0 ∧ decodeRequest 0x70#8 [] = .ok .reset := by
  have h : decodeRequest 0x60#8 (List.replicate 250 (0#8)) = .error .badLength := by decide +kernel
  have h' : ∀ r, decodeRequest 0x60#8 (List.replicate 250 (0#8)) ≠ .ok r := fun r hr => by cases h.symm.trans hr
  refine ⟨.inr rfl, ?_, ?_, ?_, ?_, ?_, ?_, h', ?_⟩ <;> decide +kernel
theorem witness_BusyLinkDiscards :
    ¬(inLink .executing shown).accepting ∧ ¬(inLink .resetting shown).accepting ∧ isRequest .readStatus = true ∧
      ¬(inLink .executing shown).turn .readStatus ∧ (inLink .executing shown).rstLow = false ∧ low.rstLow = true ∧
      ¬low.accepting ∧ ¬low.turn .readStatus := by
  simp only [State.turn, State.accepting]
  decide +kernel
theorem witness_ReadTransactions :
    (inLink .executing shown).link.state = .executing ∧ (inLink .resetting shown).link.state = .resetting ∧
      shown.link.state = .idle ∧ held.link.state = .responseReady ∧ held.link.buffer = some [0x24, 0x00, 0xDC] ∧
      2 < [0x24#8, 0x00#8, 0xDC#8].length ∧ [0x24#8, 0x00#8, 0xDC#8].length ≤ 3 ∧ held.rstLow = false ∧
      (inLink .resetting shown).rstLow = false ∧ (∀ busy, Transaction.write ≠ .read busy) ∧ low.rstLow = true := by
  decide +kernel
theorem witness_TakenRequestExecutes : isRequest (.retireOwner 7) = true ∧ shown.accepting ∧ held.accepting :=
  ⟨rfl, .inl rfl, .inr rfl⟩
theorem witness_RefusalsChangeNothing :
    isRequest (.forcePosture 2) = true ∧ shown.turn (.forcePosture 2) ∧ (shown.take (.forcePosture 2)).turn (.forcePosture 2) :=
  ⟨rfl, turn_of_idle rfl _, turn_of_taken _ _⟩
theorem witness_ResponsesFitAFrame :
    isRequest .readQueue = true ∧ waiting.turn .readQueue ∧ waiting.QueueOk ∧ (∀ p, (waiting.panel p).Ok) ∧
      Answers .readQueue waiting (after .readQueue waiting) :=
  ⟨rfl, turn_of_idle rfl _, waiting_queue_ok, panels_ok, rfl⟩
theorem witness_ReadHingeReports : (tracking 3600 .folded).turn .readHinge := turn_of_idle rfl _
theorem witness_ReadStatusReports : shown.turn .readStatus := turn_of_idle rfl _
theorem witness_ReadRuleReports :
    shown.turn (.readRule 15) ∧ (15 : Fin 16).val = (15#8).toNat ∧ (16#8).toNat = 16 ∧ 16 < (17#8).toNat :=
  ⟨turn_of_idle rfl _, by decide⟩
theorem witness_PostureAndQueueReports : lit.turn .readPosture ∧ waiting.turn .readQueue :=
  ⟨turn_of_idle rfl _, turn_of_idle rfl _⟩
theorem witness_LookupAndFindReport :
    shown.turn (.lookupSurface h0) ∧ h0.idx.toNat = (0 : Fin 40).val ∧ shown.entry 0 ≠ .free ∧
      h0.gen.toNat = (shown.gen 0).val ∧
      (∀ i : Fin 40, (⟨0, 40⟩ : HandleField).idx.toNat = i.val → shown.entry i = .free ∨ 0 ≠ (shown.gen i).val) ∧
      (∀ i : Fin 40, (⟨0, 39⟩ : HandleField).idx.toNat = i.val → shown.entry i = .free ∨ 0 ≠ (shown.gen i).val) ∧
      (∀ i : Fin 40, (⟨1, 0⟩ : HandleField).idx.toNat = i.val → shown.entry i = .free ∨ 1 ≠ (shown.gen i).val) ∧
      criterionOf 3#8 0x06000000 = some .retired ∧ (39#8).toNat ≤ 39 ∧ criterionOf 3#8 0x07000000 = none ∧
      39 < (40#8).toNat :=
  ⟨turn_of_idle rfl _, by decide +kernel⟩
theorem witness_ReadPanelReports :
    shown.turn (.readPanel 1) ∧ (1 : Byte) = panelCode .p1 ∧ ∀ p, (2 : Byte) ≠ panelCode p :=
  ⟨turn_of_idle rfl _, rfl, fun p => by cases p <;> decide⟩
theorem witness_ReadNoticesReports : shown.turn .readNotices := turn_of_idle rfl _
theorem witness_HingeAndBandSettings :
    lit.turn (.setCalibration #v[0, 0, 0, 0, 0, 0, 0, 3600, 3600]) ∧
      (let points : Vector Half 9 := #v[0, 0, 0, 0, 0, 0, 0, 3600, 3600];
        (∀ n : Fin 9, (points[n]).toNat ≤ 3600) ∧ ∀ n : Fin 8, (points[n.val]).toNat ≤ (points[n.val + 1]).toNat) ∧
      (let points : Vector Half 9 := #v[0, 0, 0, 0, 0, 0, 0, 3600, 3601]; ¬ ∀ n : Fin 9, (points[n]).toNat ≤ 3600) ∧
      (let points : Vector Half 9 := #v[1, 0, 0, 0, 0, 0, 0, 0, 0];
        ¬ ∀ n : Fin 8, (points[n.val]).toNat ≤ (points[n.val + 1]).toNat) ∧
      (let a1 := 401; let a2 := 802; let a3 := 1203; let a4 := 1604; let h := 200;
        0 < a1 ∧ a1 < a2 ∧ a2 < a3 ∧ a3 < a4 ∧ a4 < 3600 ∧ h ≤ 200 ∧ 2 * h < a1 ∧ 2 * h < a2 - a1 ∧ 2 * h < a3 - a2 ∧
          2 * h < a4 - a3 ∧ 2 * h < 3600 - a4) ∧ ¬(2 * 200 < 400) :=
  ⟨turn_of_idle rfl _, by decide⟩
theorem witness_PanelSettings :
    lit.turn (.setRefresh 1 8000 500) ∧ lit.shared.joined ≠ .joined ∧ joined.shared.joined = .joined ∧
      joined.turn (.setRefresh 1 8000 500) ∧ lit.turn (.setPowerTiming 0 0 0 0 0 0) ∧ lit.turn (.setRecoveryMode 1 1 1) ∧
      (1 : Byte) = panelCode .p1 ∧ (1 : Byte) = RecoveryMode.code .hold ∧ (1 : Byte) = CaptureMode.code .all ∧
      (∀ p, (2 : Byte) ≠ panelCode p) ∧ (∀ m, (2 : Byte) ≠ RecoveryMode.code m) ∧ ∀ m, (2 : Byte) ≠ CaptureMode.code m :=
  ⟨turn_of_idle rfl _, by decide, by decide, turn_of_idle rfl _, turn_of_idle rfl _, turn_of_idle rfl _, rfl, rfl, rfl,
    no_panel_two, fun m => by cases m <;> decide, fun m => by cases m <;> decide⟩
theorem witness_MaskRequests :
    lit.turn (.attnEnable 0x7F) ∧ lit.turn (.attnDisable 0x80) ∧ (0x7F#8).getLsbD 7 = false ∧ (0x80#8).getLsbD 7 = true ∧
      lit.accepting ∧ Answers .reset lit (after .reset lit) :=
  ⟨turn_of_idle rfl _, turn_of_idle rfl _, by decide, by decide, .inl rfl, rfl⟩
theorem witness_AckRequest :
    lit.turn (.ackAttention 0x7F) ∧ (0x7F#8).getLsbD 7 = false ∧ (0x80#8).getLsbD 7 = true :=
  ⟨turn_of_idle rfl _, by decide⟩
theorem witness_ThresholdRequest :
    lit.turn (.setNoticeThreshold 0) ∧ 1 = max 1 (min 8 (0#8).toNat) ∧ 8 = max 1 (min 8 (255#8).toNat) ∧
      held.accepting ∧ Answers .reset held (after .reset held) :=
  ⟨turn_of_idle rfl _, by decide, by decide, .inr rfl, rfl⟩

/-! Hinge and posture requests. -/

/-- The hinge input DISABLED. -/
def disabledInput : State := after (.hingeEnable 0) { State.reset with link := State.reset.link }

theorem disabled_accepts : disabledInput.accepting := .inr (by decide +kernel)

theorem witness_HingeEnableRequest :
    lit.turn (.hingeEnable 2) ∧ 2 ≤ (2#8).toNat ∧ lit.hinge.input ≠ .disabled ∧ disabledInput.hinge.input = .disabled ∧
      disabledInput.turn (.hingeEnable 1) ∧ disabledInput.accepting :=
  ⟨turn_of_idle rfl _, by decide, by decide, by decide +kernel, .inl disabled_accepts, disabled_accepts⟩
theorem witness_PostureRequests :
    (lit.turn (.setSwitch 1 901) ∧ lit.turn (.forcePosture 5) ∧ lit.turn (.setFront 1) ∧ lit.turn (.setSpan 1)) ∧
      disabledInput.accepting ∧ (∀ p, (6 : Byte) ≠ Posture.code p) ∧ (∀ p, (2 : Byte) ≠ panelCode p) ∧
      900 = min 900 (901#16).toNat ∧ 2 ≤ (2#8).toNat ∧ (5 : Byte) = Posture.code .folded ∧ lit.hinge.input ≠ .disabled ∧
      disabledInput.hinge.input = .disabled ∧ (0 : Byte) = panelCode lit.posture.front ∧ (1 : Byte) = panelCode .p1 ∧
      PanelId.p1 ≠ lit.posture.front ∧ (0 : Byte) = bitByte lit.posture.span ∧ (1 : Byte) = bitByte true ∧
      true ≠ lit.posture.span := by
  refine ⟨⟨?_, ?_, ?_, ?_⟩, disabled_accepts, ?_, no_panel_two, ?_⟩
  iterate 4 exact turn_of_idle rfl _
  · intro p
    cases p <;> decide
  · decide +kernel
theorem witness_CommitAndPlan :
    Posture.folded ≠ (Ev.start shown).s.posture.committed ∧
      ((((Ev.start shown).commit .folded).s.record? 0).map fun r => r.moveTo.isNone) = some true := by decide +kernel
/-- R135: the conditions that hold and that fail, in each joined mode state, and a plan change and a commit that end joined mode. -/
theorem witness_CommitAndPlan_joined :
    (let s := { joined with shared := { joined.shared with joined := .notJoined } };
      s.joinConditions = true ∧ s.shared.joined = .notJoined ∧ (Ev.start s).applyPlan.s.joinConditions = true) ∧
      (locking.joinConditions = true ∧ locking.shared.joined = .lockPending) ∧
      (let s := { locking with panels := offline.panels };
        s.posture.committed = .flat ∧ s.joinConditions = false ∧ s.shared.joined = .lockPending) ∧
      (let s := { joined with posture := { joined.posture with span := false } };
        s.joinConditions = false ∧ s.shared.joined = .joined ∧ (Ev.start s).applyPlan.s.joinConditions = false) ∧
      (lit.joinConditions = false ∧ lit.shared.joined = .notJoined) ∧
      Posture.book ≠ joined.posture.committed ∧ ((Ev.start joined).commit .book).s.joinConditions = false := by
  decide +kernel
/-- R31, R135: the commit of FLAT with span on leaves joined mode pending. -/
theorem test_commit_pends_joined_mode :
    let s := { lit with posture := { lit.posture with span := true } }
    ((Ev.start s).commit .flat).s.shared.joined = .lockPending := by decide +kernel
theorem witness_FoldSwitchCheck :
    lit.posture.switchHeld = false ∧ held250.posture.switchHeld = true ∧ held250.hinge.input = .tracking ∧
      held250.hinge.filtered ≤ held250.posture.agreeLimit ∧
      (let s := { held250 with hinge := { held250.hinge with filtered := 251 } };
        s.posture.switchHeld = true ∧ s.posture.agreeLimit < s.hinge.filtered) ∧
      (let s := { held250 with hinge := { held250.hinge with input := .lost } };
        s.posture.switchHeld = true ∧ s.hinge.input = .lost) ∧
      (let s := { held250 with hinge := { held250.hinge with input := .disabled, enabled := false } };
        s.posture.switchHeld = true ∧ s.hinge.input = .disabled) := by decide

/-- BOOK committed, the angle at F, in a dwell. -/
def dwelling (f : Nat) (candidate : Posture) (d : Dwell) (ms : Nat) : State :=
  { tracking f .book with
    posture := { (tracking f .book).posture with candidate := candidate, dwell := d, dwellMs := ms } }

theorem witness_EvaluationOfAFrame :
    held250.posture.switchHeld = true ∧
      ((tracking 150 .unknown).posture.switchHeld = false ∧ (tracking 150 .unknown).posture.committed = .unknown ∧
        (tracking 150 .unknown).hinge.swinging = false) ∧
      (let s := tracking 150 .unknown;
        ({ s with hinge := { s.hinge with swinging := true } } : State).hinge.swinging = true) ∧
      (let s := dwelling 1589 .book .idle 120;
        s.posture.switchHeld = false ∧ s.posture.committed ≠ .unknown ∧
          s.posture.candidateFor s.hinge.filtered = s.posture.committed) ∧
      (let s := dwelling 1590 .flat (.running 5) 120;
        s.posture.candidateFor s.hinge.filtered ≠ s.posture.committed ∧
          s.posture.candidateFor s.hinge.filtered = s.posture.candidate ∧ s.posture.dwell = .running 5) ∧
      (let s := dwelling 1590 .flat .deferred 120;
        s.posture.candidateFor s.hinge.filtered = s.posture.candidate ∧ s.posture.dwell = .deferred) ∧
      (let s := dwelling 1590 .book .idle 1;
        s.posture.candidateFor s.hinge.filtered ≠ s.posture.committed ∧ s.posture.dwell = .idle ∧ 0 < s.posture.dwellMs) ∧
      (let s := dwelling 2050 .flat (.running 5) 1;
        s.posture.candidateFor s.hinge.filtered ≠ s.posture.candidate ∧ 0 < s.posture.dwellMs) ∧
      (let s := dwelling 1590 .book .idle 0;
        s.posture.candidateFor s.hinge.filtered ≠ s.posture.committed ∧ s.posture.dwell = .idle ∧
          s.posture.dwellMs = 0) := by decide

/-! Requests of the surface table. -/

theorem witness_CreateSurfaceRequest :
    lit.turn (.createSurface 0 0 2 0 4 0 (some (desc 15 16 0))) ∧ 2 ≤ (2#8).toNat ∧ 4 ≤ (4#8).toNat ∧
      descriptorBad (desc 15 16 0) = true ∧ (1 : Byte) = panelCode .p1 ∧ (3#8).toNat < 4 ∧
      descriptorBad (desc 16 8191 0) = false ∧ (∀ i, full.entry i ≠ .free) ∧ shown.entry 1 = .free ∧
      (∀ j : Fin 40, j < 1 → shown.entry j ≠ .free) :=
  ⟨turn_of_idle rfl _, by decide +kernel⟩
theorem witness_OfferBufferRequest :
    waiting.turn (.offerBuffer h0 (desc 1440 1920 2)) ∧ shown.checkHandle ⟨0, 40⟩ = none ∧
      retired.checkHandle h0 = some 0 ∧ retired.record? 0 = none ∧ retiring.checkHandle h0 = some 0 ∧
      (retiring.record? 0).map Record.state = some .retiring ∧ waiting.checkHandle h0 = some 0 ∧
      ((waiting.record? 0).map fun r => (r.state, r.pending, r.wanted)) =
        some (.moving, none, some (⟨1, desc 1440 1920 2⟩ : Buffer).size) ∧
      descriptorBad (desc 16 15 0) = true ∧ descriptorBad (desc 1440 1920 2) = false ∧
      (⟨1440, 1920⟩ : Size) ≠ (⟨1, desc 1440 1919 2⟩ : Buffer).size ∧ shown.entry 0 = .used placedRecord ∧
      placedRecord.state = .placed ∧ placedRecord.wanted = none ∧ placedRecord.pending = none ∧
      placedRecord.rect.map Rect.size = some (⟨1, desc 1440 1920 2⟩ : Buffer).size ∧
      placedRecord.rect.map Rect.size ≠ some (⟨1, desc 1440 1919 2⟩ : Buffer).size ∧ parked.checkHandle h0 = some 0 ∧
      parked.entry 0 = .used parkedRecord ∧ parkedRecord.state = .parked ∧ parkedRecord.wanted = none ∧
      (let r := { placedRecord with pending := some ⟨1, desc 1440 1920 2⟩ };
        (shown.setEntry 0 (.used r)).entry 0 = .used r ∧ r.pending ≠ none) :=
  ⟨turn_of_idle rfl _, by decide +kernel⟩
/-- R55: a pending buffer while a slot shows the current one, while one shows FILL, and while none does. -/
theorem witness_OfferBufferRequest_currency :
    (let r := { placedRecord with pending := some ⟨1, desc 1440 1920 2⟩ }; let s := shown.setEntry 0 (.used r);
      s.entry 0 = .used r ∧ s.slot 0 = .live ⟨0, 0⟩ shownConfig none ∧ shownConfig.buffer = r.current) ∧
      (let r := { placedRecord with current := none, pending := some ⟨1, desc 1440 1920 2⟩ };
        let c := { shownConfig with buffer := none, fetch := .fill };
        let s := (shown.setEntry 0 (.used r)).setSlot 0 (.claimed ⟨0, 0⟩ (some (.full c false)));
        s.slot 0 = .claimed ⟨0, 0⟩ (some (.full c false)) ∧ s.entry 0 = .used r ∧ c.fetch = .fill ∧ r.current = none) ∧
      (let r := { parkedRecord with pending := some ⟨1, desc 1440 1920 2⟩ }; let s := parked.setEntry 0 (.used r);
        s.entry 0 = .used r ∧ ∀ k, s.slot k = .free) := by decide +kernel
theorem witness_AmendAndMoveRequests :
    (shown.turn (.amendSurface h0 0x7F 9 1 1 2 3 4) ∧ shown.turn (.moveSurface h0 5 none)) ∧
      (shown.checkHandle ⟨1, 0⟩ = none ∧ retired.checkHandle h0 = some 0 ∧ retired.record? 0 = none ∧
        shown.checkHandle h0 = some 0 ∧ shown.entry 0 = .used placedRecord ∧ placedRecord.state ≠ .retiring) ∧
      ((0x80#8).getLsbD 7 = true ∧ ((0x02#8).getLsbD 1 = true ∧ 2 ≤ (2#8).toNat) ∧
        ((0x10#8).getLsbD 4 = true ∧ 4 ≤ (4#8).toNat)) ∧
      ((0x7F#8).getLsbD 7 = false ∧ (1 : Byte) = panelCode .p1 ∧ (3#8).toNat < 4) ∧
      6 ≤ (6#8).toNat ∧ rectBad (rectOf ⟨0, 0, 15, 16⟩) = true ∧
      rectBad (rectOf ⟨0xE000, 0x1FFF, 16, 8191⟩) = false ∧ (4 : Byte) = Target.code .park := by
  refine ⟨⟨turn_of_idle rfl _, turn_of_idle rfl _⟩, ?_⟩
  decide +kernel
/-- R90: a record that is not re-resolved, one whose resolution is the one in force, and ones whose resolution is another. -/
theorem witness_AmendAndMoveRequests_reresolve :
    retiring.entry 0 = .used { placedRecord with state := .retiring } ∧
      (let r := { parkedRecord with state := .new, current := none }; r.state = .new ∧ r.placeholder = false) ∧
      (shown.entry 0 = .used placedRecord ∧ shown.job? 0 = none ∧
        (shown.resolve 0 placedRecord).samePlacement placedRecord = true) ∧
      (parked.entry 0 = .used parkedRecord ∧ parked.job? 0 = none ∧
        (parked.resolve 0 parkedRecord).samePlacement parkedRecord = false) ∧
      waiting.job? 0 = some waitingJob ∧
        ((waiting.record? 0).map fun r => (waiting.resolve 0 r).sameTarget waitingJob.target) = some true := by
  decide +kernel
/-- R73, R76, R77: a class that rules 3 and 5 govern, one that none does, and a record for each source. -/
theorem witness_AmendAndMoveRequests_source :
    (let rules := (State.reset.rules.set 3 { Rule.builtin with base := 0x0200, mask := 0xFF00 }).set 5
        { Rule.builtin with base := 0x0234, mask := 0xFFFF };
      (∀ n : Fin 16, (rules[n]).valid = true ∧ (rules[n]).base = 0x0234 &&& (rules[n]).mask ↔ n = 3 ∨ n = 5) ∧
        ∀ n : Fin 16, ¬((rules[n]).valid = true ∧ (rules[n]).base = 0x0134 &&& (rules[n]).mask)) ∧
      variedRecord.VariantsOk ∧ variedRecord.moveTo = none ∧
      (∃ w ∈ variedRecord.variants, w.postures.has .flat = true) ∧
      (({ parked with table := { parked.table with focus := some ⟨0, 0⟩ } } : State).isFocus 0 = true ∧
        parked.isFocus 0 = false ∧ parkedRecord.moveTo = none ∧
        ∀ w ∈ parkedRecord.variants, w.postures.has parked.posture.committed = false) ∧
      { parkedRecord with moveTo := some ⟨.other, none⟩ }.moveTo = some ⟨.other, none⟩ := by
  refine ⟨by decide +kernel, varied_ok, ?_⟩
  decide +kernel
/-- R78, R79, R85: dark and lit panels, the canvas, and a rectangle with pieces and one with none. -/
theorem witness_AmendAndMoveRequests_area :
    (let dark (s : State) (p : PanelId) : Bool :=
        !(s.panel p).planLit || !(s.panel p).enabled || decide ((s.panel p).mode = .offline);
      dark lit .p0 = false ∧ dark lit .p1 = false ∧ dark offline .p1 = true ∧ dark offline .p0 = false ∧
        joined.shared.joined = .joined ∧ dark joined .p0 = false ∧ dark joined .p1 = false ∧
        dark State.reset .p0 = true ∧ dark State.reset .p1 = true) ∧
      (State.reset.posture.committed = .unknown ∧ parked.posture.committed ≠ .unknown) ∧
      parked.area parkedRecord (parked.source 0 parkedRecord Rule.builtin) = some (.panel .p0) ∧
      piecesOf parked.shared parked.posture.rotated? (.panel .p0) fullPanel ≠ [] ∧
      piecesOf parked.shared parked.posture.rotated? (.panel .p0) ⟨1440, 0, 16, 16⟩ = [] ∧
      (let r := { parkedRecord with redraw := true, pending := some ⟨1, desc 800 600 0⟩ };
        r.redraw = true ∧ r.pending = some ⟨1, desc 800 600 0⟩ ∧ ¬(1440 = 800 ∧ 1920 = 600)) := by decide +kernel
theorem witness_VariantRequests :
    varied.turn (.setVariant h0 0x20 0 0 none) ∧ varied.checkHandle ⟨1, 0⟩ = none ∧ retired.checkHandle h0 = some 0 ∧
      retired.record? 0 = none ∧ varied.checkHandle h0 = some 0 ∧ varied.entry 0 = .used variedRecord ∧
      variedRecord.state ≠ .retiring ∧ postureByteBad 0x01 = true ∧ postureByteBad 0x40 = true ∧ postureByteBad 0 = true ∧
      5 ≤ (5#8).toNat ∧ 2 ≤ (2#8).toNat ∧ rectBad (rectOf ⟨0, 0, 8192, 16⟩) = true ∧ postureByteBad 0x20 = false ∧
      (4 : Byte) = Target.code .park ∧ (1 : Byte) = Fallback.code .park ∧
      4 ≤ (keptVariants (PostureSet.ofByte 0x20) variedRecord.variants).length ∧
      (keptVariants (PostureSet.ofByte 0x02) variedRecord.variants).length < 4 ∧
      (keptVariants (PostureSet.ofByte 0x02) variedRecord.variants).length < variedRecord.variants.length ∧
      0 < varied.freeVariants ∧ parkedRecord.variants = [] ∧ variedRecord.variants ≠ [] :=
  ⟨turn_of_idle rfl _, by decide +kernel⟩
/-- Sixteen records with four variants each, which take the whole pool, and one with none. -/
def poolSlot (i : Fin 40) : TableSlot :=
  if 16 < i.val then .free else .used (if i.val = 16 then parkedRecord else variedRecord)
def poolEmpty : State := { lit with table := { lit.table with slots := Vector.ofFn poolSlot } }
theorem witness_VariantRequests_empty_pool :
    poolEmpty.freeVariants = 0 ∧
      (keptVariants (PostureSet.ofByte 0x02) parkedRecord.variants).length = parkedRecord.variants.length := by
  decide +kernel
theorem witness_SetFocusRequest :
    shown.turn (.setFocus h0) ∧ handleNone h0 = false ∧ shown.checkHandle ⟨1, 0⟩ = none ∧ handleNone ⟨1, 0⟩ = false ∧
      retired.checkHandle h0 = some 0 ∧ retired.record? 0 = none ∧ handleNone ⟨0xFF, 0xFF⟩ = true ∧
      shown.checkHandle h0 = some 0 ∧ shown.entry 0 = .used placedRecord ∧ placedRecord.state ≠ .retiring ∧
      none = shown.table.focus ∧ some ⟨shown.gen 0, 0⟩ ≠ shown.table.focus ∧
      (({ Ev.start waiting with s := { waiting with table := { waiting.table with focus := some ⟨0, 0⟩ } } } : Ev).reresolve
        0).s.job? 0 ≠ none :=
  ⟨turn_of_idle rfl _, by decide +kernel⟩
theorem witness_Retirement :
    (shown.turn (.retireSurface h0) ∧ shown.turn (.retireOwner 7)) ∧
      ((Ev.start shown).s.entry 0 = .used placedRecord ∧ ((Ev.start shown).retire 0).s.ownedSlots 0 ≠ [] ∧
        shown.job? 0 = none) ∧
      ((Ev.start parked).s.entry 0 = .used parkedRecord ∧ ((Ev.start parked).retire 0).s.ownedSlots 0 = []) ∧
      (let r := { parkedRecord with state := .retiring }; let s := parked.setEntry 0 (.used r);
        s.entry 0 = .used r ∧ r.state = .retiring ∧ s.ownedSlots 0 = []) ∧ retiring.ownedSlots 0 ≠ [] ∧
      shown.checkHandle ⟨1, 0⟩ = none ∧ retired.checkHandle h0 = some 0 ∧ retired.record? 0 = none ∧
      shown.checkHandle h0 = some 0 ∧ placedRecord.state ≠ .retiring ∧
      (∀ i : Fin 40, i ∈ [(0 : Fin 40)] ↔
        (shown.record? i).any fun r => decide (r.owner = 7) && decide (r.state ≠ .retiring)) ∧
      [(0 : Fin 40)].Pairwise (· < ·) := by
  refine ⟨⟨turn_of_idle rfl _, turn_of_idle rfl _⟩, ?_⟩
  decide +kernel
/-- A rule entry as a field. -/
def ruleField : RuleField := ⟨1, 0x0200, 0xFF00, #v[4, 0, 4, 0, 4], #v[0, 0, 0, 0, 0], 1, 0, 201⟩
/-- The entry it stores. -/
def storedRule : Rule :=
  ⟨true, 0x0200, 0xFF00, ⟨.park, .home, .park, .home, .park⟩, ⟨.full, .full, .full, .full, .full⟩, .park, .make, 200⟩
theorem witness_RuleGeometryAndLending :
    (lit.turn (.writeRule 16 ruleField) ∧ lit.turn (.setLending 1 6) ∧ lit.turn (.setPanelGeometry 480 2560 96)) ∧
      (16 ≤ (16#8).toNat ∧ 2 ≤ (2#8).toNat ∧ 5 ≤ (5#8).toNat ∧ (15 : Fin 16).val = (15#8).toNat) ∧
      (ruleField.valid = bitByte storedRule.valid ∧ ruleField.base = storedRule.base ∧ ruleField.mask = storedRule.mask ∧
        ruleField.targets.toList = storedRule.targets.list.map Target.code ∧
        ruleField.fits.toList = storedRule.fits.list.map Fit.code ∧ ruleField.fallback = storedRule.fallback.code ∧
        ruleField.mode = storedRule.mode.code ∧ storedRule.deadline = min 200 ruleField.deadline.toNat) ∧
      ((1 : Byte) ≠ 0 ∧ (1 : Byte) ≠ 2 ∧ (1 : Byte) ≠ 4 ∧ (1 : Byte) ≠ 6) ∧
      (1 : Byte) = panelCode .p1 ∧ lit.shared.lent = (0#8).toNat ∧
      ¬(lit.shared.lent = (6#8).toNat ∧ ((6 : Byte) = 0 ∨ lit.shared.lender = .p1)) ∧
      (∀ k, usingPanel .p1 6 k ≠ lit.user k → lit.slot k = .free) ∧
      (let s := lit.setSlot 15 (.claimed ⟨0, 0⟩ none); usingPanel .p1 6 15 ≠ s.user 15 ∧ s.slot 15 ≠ .free) ∧
      ¬(480 ≤ (479#16).toNat) ∧ ¬((97#16).toNat ≤ 96) ∧ (lit.panel .p0).mode ≠ .off ∧ (lit.panel .p0).mode ≠ .offline ∧
      (State.reset.panel .p0).mode = .off ∧ (State.reset.panel .p1).mode = .off ∧
      ((Ev.start lit).resolveAll = false ∧ ((Ev.start lit).commit .flat).resolveAll = true) := by
  refine ⟨⟨turn_of_idle rfl _, turn_of_idle rfl _, turn_of_idle rfl _⟩, ?_⟩
  decide +kernel
/-- R104, R107: a buffer wait whose job is ready, one whose target panel is out of service, a record with no job, and a NEW record. -/
theorem witness_OfferBufferRequest_settle :
    (waiting.job? 0 = some waitingJob ∧ waitingJob.phase = .preparing ∧
      ∀ t ∈ waitingJob.target.pieces, (waiting.panel t.panel).inService = true) ∧
      (let s := { waiting with panels := (stage .training).panels };
        s.job? 0 = some waitingJob ∧ ¬∀ t ∈ waitingJob.target.pieces, (s.panel t.panel).inService = true) ∧
      shown.job? 0 = none ∧
      (let r := { parkedRecord with state := .new, current := none }; let s := parked.setEntry 0 (.used r);
        s.entry 0 = .used r ∧ s.checkHandle h0 = some 0 ∧ r.state = .new ∧ r.wanted = none ∧ r.pending = none) := by
  decide +kernel
/-- R104, R107, R112: the offer that a job waits for stops its timer, and the walk of the same request grants it; its detach step is
empty. -/
theorem test_offer_settles_the_wait :
    ((after (.offerBuffer h0 (desc 1440 1920 2)) waiting).job? 0).map
      (fun j => (j.waiting, j.expiry, j.phase)) = some (false, none, .stepTwo) := by decide +kernel
theorem witness_PanelRequests :
    (lit.turn (.panelEnable 0 0) ∧ lit.turn (.panelRecover 0) ∧ offline.turn (.panelRecover 1)) ∧
      (∀ p, (2 : Byte) ≠ panelCode p) ∧ 2 ≤ (2#8).toNat ∧ (0 : Byte) = panelCode .p0 ∧
      (0 : Byte) = bitByte false ∧ (lit.panel .p0).mode ≠ .offline ∧
      (1 : Byte) = panelCode .p1 ∧ (offline.panel .p1).mode = .offline :=
  ⟨⟨turn_of_idle rfl _, turn_of_idle rfl _, turn_of_idle rfl _⟩, no_panel_two, by decide⟩

/-! Events of the sensor line and the switch. -/

/-- The hinge unit in another receive state. -/
def receiving (r : RecvState) : State := { lit with hinge := { lit.hinge with recv := r, cellTimer := some 12 } }

theorem witness_SensorLine :
    lit.hinge.enabled = true ∧ lit.link.state ≠ .resetting ∧ (receiving .idleWait).hinge.recv = .idleWait ∧
      (receiving .ready).hinge.recv = .ready ∧ 1999 < 2000 ∧ 2000 ≤ 2000 ∧
      (receiving (.inFrame (List.replicate 31 true))).hinge.recv = .inFrame (List.replicate 31 true) ∧
      (List.replicate 31 true).length < 32 ∧ (List.replicate 32 true).length = 32 ∧
      (∀ i : Fin 32, (BitVec.allOnes 32).getLsbD (31 - i.val) = (List.replicate 32 true).getD i.val false) ∧
      (inLink .resetting lit).link.state = .resetting ∧ disabledInput.hinge.enabled = false := by decide +kernel

theorem witness_GoodFrame :
    (let s := lit; let w := frame 16383 2 15 5;
      s.hinge.enabled = true ∧ s.link.state ≠ .resetting ∧ s.hinge.recv ≠ .idleWait ∧ receptionBadCause (.frame w) = none ∧
        16383 = (w.toNat / 2 ^ 10) % 2 ^ 14 ∧ 2 = (w.toNat / 2 ^ 8) % 4 ∧ (15 : Fin 16).val = (w.toNat / 2 ^ 4) % 16 ∧
        (15 : Fin 16) = s.hinge.expected.elim 0 (fun x => 15 - x) ∧ s.hinge.input = .tracking ∧
        s.hinge.expected.isSome = true ∧ 4 ≤ (15 : Fin 16).val) ∧
      (let s := lit; let w := frame 9300 0 3 13;
        receptionBadCause (.frame w) = none ∧ (3 : Fin 16) = s.hinge.expected.elim 0 (fun x => 3 - x) ∧
          s.hinge.reseedPending = false ∧ ¬ 4 ≤ (3 : Fin 16).val) ∧
      (let s := { lit with hinge := { lit.hinge with input := .acquiring, good := 3 } };
        s.hinge.input = .acquiring ∧ 4 = min 255 (s.hinge.good + 1)) ∧
      (let s := { lit with hinge := { lit.hinge with input := .lost, good := 255 } };
        s.hinge.input = .lost ∧ 255 = min 255 (s.hinge.good + 1)) := by decide

theorem witness_BadEvents :
    lit.hinge.enabled = true ∧ lit.link.state ≠ .resetting ∧ lit.hinge.recv ≠ .idleWait ∧
      (0x00000000#32).extractLsb' 24 8 ≠ 0xB4#8 ∧
      (let w := frame 9300 0 0 1; w.extractLsb' 24 8 = 0xB4#8 ∧ frameNibbleSum w ≠ 15) ∧
      (let w := frame 0 3 0 12; w.extractLsb' 24 8 = 0xB4#8 ∧ frameNibbleSum w = 15 ∧ w.extractLsb' 8 2 = 3) ∧
      (min 255 (lit.hinge.bad + 1) < lit.hinge.badLimit) ∧
      (let s := { lit with hinge := { lit.hinge with bad := 7 } };
        s.hinge.input = .tracking ∧ s.hinge.badLimit ≤ min 255 (s.hinge.bad + 1)) ∧
      ((receiving (.inFrame [])).hinge.recv = .inFrame [] ∧ (receiving (.inFrame [])).hinge.cellTimer = some 12) ∧
      lit.hinge.silentTimer = some 5000 ∧ lit.hinge.cellTimer = none ∧ disabledInput.hinge.silentTimer = none := by
  decide +kernel
theorem witness_PostureEvents :
    (false = lit.posture.rawLevel ∧ true ≠ lit.posture.rawLevel ∧ lit.link.state ≠ .resetting) ∧
      (inLink .resetting lit).link.state = .resetting ∧
      { lit.posture with debounceTimer := none }.debounceTimer = none ∧ lit.posture.debounceTimer = some 8000 ∧
      lit.posture.rawLevel = lit.posture.debounced ∧
      (let c := { lit.posture with rawLevel := true }; c.rawLevel = true ∧ c.debounced = false) ∧
      (held250.posture.rawLevel = false ∧ held250.posture.debounced = true) ∧
      (dwelling 1590 .flat (.running 5) 120).posture.dwell = .running 5 ∧ lit.hinge.swinging = false ∧
      ∀ t, lit.posture.dwell ≠ .running t := by
  have h : ∀ t, lit.posture.dwell ≠ .running t := fun t h => by cases h
  refine ⟨?_, ?_, ?_, ?_, ?_, ?_, ?_, ?_, ?_, h⟩ <;> decide

/-! Events of the panels. -/

theorem witness_PowerSequence :
    (((stage .rail).panel .p0).seqTimer = some 10000 ∧ ((stage .rail).panel .p0).mode = .poweringUp .rail) ∧
      ((stage .reset).panel .p0).mode = .poweringUp .reset ∧ ((stage .training).panel .p0).mode = .poweringUp .training ∧
      (let x := { onPanel with mode := .poweringDown, seqTimer := some 5 }; x.mode = .poweringDown ∧ x.litDemand = true) ∧
      offPanel.offTimer = some 100000 ∧ offPanel.mode = .off ∧ offPanel.litDemand = true ∧
      (lit.panel .p0).offTimer = none ∧ (lit.panel .p0).mode ≠ .poweringUp .rail ∧ (lit.panel .p0).mode ≠ .poweringDown ∧
      ({ onPanel with enabled := false } : Panel).litDemand = false ∧ onPanel.litDemand = true ∧
      ({ offPanel with enabled := true } : Panel).litDemand = true ∧
      ({ offPanel with enabled := false } : Panel).litDemand = false ∧ onPanel.mode = .on ∧
      ({ onPanel with planLit := false } : Panel).litDemand = false ∧
      ({ offPanel with planLit := false } : Panel).litDemand = false := by decide
theorem witness_Acknowledgements :
    lit.link.state ≠ .resetting ∧ (lit.panel .p0).pathHeld = false ∧
      (((stage .training).panel .p0).mode = .poweringUp .training ∧ ((stage .training).panel .p0).ackOwed = false) ∧
      (lit.panel .p0).mode ≠ .poweringUp .training ∧ (lit.panel .p0).ackOwed = true ∧
      (0x00#8 ≠ 0x5A#8 ∧ 0x00#8 ≠ 0x3C#8 ∧ 0x00#8 ≠ 0xC3#8) ∧ (inLink .resetting lit).link.state = .resetting ∧
      ((lit.modPanel .p0 fun x => { x with pathHeld := true }).panel .p0).pathHeld = true := by decide
/-- R107, R127: a job that is examined into SLOT_WAIT, one that waits for its buffer, one past PREPARING, one whose panel is not in
service, and no job; a panel in training that uses no slot, and one that uses a live slot. -/
theorem witness_Acknowledgements_examine :
    (let j := Job.fresh ⟨0, 0⟩ redrawTarget; let s := { waiting with queue := [j] };
      s.job? 0 = some j ∧ j.phase = .preparing ∧ j.waiting = false ∧
        (∀ t ∈ j.target.pieces, (s.panel t.panel).inService = true) ∧
        ∃ t ∈ j.target.pieces, ((stage .training).panel t.panel).inService = false) ∧
      waiting.job? 0 = some waitingJob ∧ waitingJob.waiting = true ∧ shown.job? 0 = none ∧
      { waitingJob with phase := .slotWait }.phase ≠ .preparing ∧
      (∀ k, (stage .training).user k = .p0 → (stage .training).slot k = .free) ∧
      ({ shown with panels := (stage .training).panels } : State).stackOf .p0 = [0] := by decide +kernel
/-- R107, R127: TRAIN_OK brings the waiting panel into service, and the job that waited for it is granted. -/
theorem test_train_ok_examines :
    let s := { waiting with queue := [Job.fresh ⟨0, 0⟩ redrawTarget], panels := (stage .training).panels }
    ((after (.trainOk .p0) s).job? 0).map Job.phase = some .stepTwo := by decide +kernel
theorem witness_HealthThresholds :
    (let x := { onPanel with health := 95 }; x.mode = .on ∧ x.health < 96) ∧
      (let x := { onPanel with mode := .degraded, health := 65 }; x.mode = .degraded ∧ 64 < x.health ∧ x.health < 192) ∧
      offPanel.inService = false ∧ (let x := { onPanel with health := 96 }; x.mode = .on ∧ 96 ≤ x.health ∧ x.health < 192) ∧
      (let x := { onPanel with mode := .degraded, health := 64 }; x.mode = .degraded ∧ x.health ≤ 64) ∧
      (let x := { onPanel with health := 192 }; x.inService = true ∧ 192 ≤ x.health) ∧
      (∀ k : Fin 16, k.val < 8 → (Ev.start lit).s.user k = .p0) ∧
      (let s := shown.modPanel .p0 fun x => { x with health := 192 };
        (s.panel .p0).inService = true ∧ 192 ≤ (s.panel .p0).health ∧ s.entry 0 = .used placedRecord ∧ s.user 0 = .p0 ∧
          (s.slot 0).owner? = some ⟨0, 0⟩ ∧ (s.slot 0).isLive = true ∧ placedRecord.state = .placed) ∧
      { placedRecord with state := .retiring }.state = .retiring := by decide +kernel
/-- R55, R66, R129: a panel out of service, a slot no record owns, and a RETIRING record that loses its last slot, and one of two. -/
theorem witness_HealthThresholds_losses :
    (offline.panel .p1).inService = false ∧ (shown.slot 1).owner? = none ∧ (shown.slot 0).owner? = some ⟨0, 0⟩ ∧
      (let s := retiring.modPanel .p0 fun x => { x with health := 192 };
        s.entry 0 = .used { placedRecord with state := .retiring } ∧ s.user 0 = .p0 ∧
          ∀ k, (s.slot k).ownedBy 0 = true → s.user k = .p0 ∧ (s.slot k).owner? = some ⟨0, 0⟩) ∧
      (let s := retiring.setSlot 8 (.live ⟨0, 0⟩ shownConfig none);
        s.user 8 = .p1 ∧ (s.slot 8).ownedBy 0 = true ∧ (s.slot 0).owner? = some ⟨0, 0⟩) := by decide +kernel
/-- A panel's health counter set. -/
def withHealth (s : State) (p : PanelId) (n : Nat) : State := s.modPanel p fun x => { x with health := n }

theorem witness_FrameTiming :
    (lit.panel .p0).inService = true ∧ lit.shared.joined = .notJoined ∧
      (locking.shared.joined = .lockPending ∧ (locking.panel .p0).inService = true ∧
        (locking.panel (otherPanel .p0)).inService = true ∧ (locking.panel .p1).ackOwed = true) ∧
      (joined.shared.joined = .joined ∧ (joined.panel (otherPanel .p1)).inService = true) ∧
      (((withHealth lit .p0 185).panel .p0).ackOwed = true ∧ min 255 (((withHealth lit .p0 185).panel .p0).health + 6) < 192) ∧
      (((withHealth joined .p1 186).panel .p1).ackOwed = true ∧
        192 ≤ min 255 (((withHealth joined .p1 186).panel .p1).health + 6)) ∧
      ((shown.slot 0).owner? = some ⟨0, 0⟩ ∧ (shown.slot 0).cfg? = some shownConfig ∧ shown.entry 0 = .used placedRecord ∧
        placedRecord.state ≠ .retiring ∧ placedRecord.pending = none ∧
        placedRecord.pieces.Pairwise fun a b => a.panel = .p0 ∧ b.panel = .p1) ∧
      ((shown.setSlot 0 .free).slot 0).cfg? = none ∧ (waiting.job? 0).isSome = true ∧
      (lit.panel .p0).cutoffDone = false ∧ (State.reset.panel .p0).inService = false ∧
      ((lit.modPanel .p0 fun x => { x with cutoffDone := true }).panel .p0).cutoffDone = true := by decide +kernel
/-- R55, R66, R139: a freed slot of a RETIRING record, and a record whose pending buffer a frame start shows. -/
theorem witness_FrameTiming_checks :
    ((retiring.slot 0).owner? = some ⟨0, 0⟩ ∧ ((retiring.setSlot 0 .free).slot 0).cfg? = none ∧
      (retiring.setSlot 0 .free).entry 0 = .used { placedRecord with state := .retiring }) ∧
      (let b : Buffer := ⟨1, desc 1440 1920 2⟩; let r := { placedRecord with pending := some b };
        let c := { shownConfig with buffer := some b };
        let s := (shown.setEntry 0 (.used r)).setSlot 0 (.live ⟨0, 0⟩ c none);
        (s.slot 0).owner? = some ⟨0, 0⟩ ∧ s.entry 0 = .used r ∧ (s.slot 0).cfg? = some c) := by decide +kernel
/-- R55, R139: the frame start that applies a due restage makes the pending buffer current. -/
theorem test_frame_start_currency :
    let b : Buffer := ⟨1, desc 1440 1920 2⟩
    let s := (shown.setEntry 0 (.used { placedRecord with pending := some b })).setSlot 0
      (.live ⟨0, 0⟩ shownConfig (some (.full { shownConfig with buffer := some b } true)))
    ((after (.frameStart .p0) s).record? 0).map (fun r => (r.current, r.pending)) = some (some b, none) := by decide +kernel
theorem witness_RecoveryAndDeadlineTimers :
    waiting.QueueOk ∧
      ((offline.panel .p1).mode = .offline ∧ (offline.panel .p1).quietTimer = some 500000) ∧
      ((lit.modPanel .p1 fun x => { x with stableTimer := some 0 }).panel .p1).stableTimer = some 0 ∧
      (lit.panel .p0).mode ≠ .offline ∧ (lit.panel .p0).stableTimer = none ∧ waiting.job? 0 = some waitingJob ∧
      waitingJob.expiry = some 200000 ∧ waitingJob.next = none ∧
      (waiting.record? 0).map Record.resPending = some false ∧ waiting.job? 1 = none :=
  ⟨waiting_queue_ok, by decide +kernel⟩
/-- R102, R103: a job whose target wants nothing, the size it waits for, and a size anew, with a deadline of 1 step and of 0. -/
theorem witness_RecoveryAndDeadlineTimers_prepare :
    (let j := { waitingJob with target := { redrawTarget with wanted := none } };
      ({ waiting with queue := [j] } : State).job? 0 = some j ∧ j.target.wanted = none ∧
        (j.target.pieces.all fun q => (waiting.panel q.panel).inService) = true) ∧
      (waiting.job? 0 = some waitingJob ∧ waitingJob.target.wanted = some ⟨1440, 1920⟩ ∧
        (waiting.record? 0).map Record.wanted = some (some ⟨1440, 1920⟩) ∧ waitingJob.expiry ≠ none) ∧
      (let j := { waitingJob with expiry := none, target := { redrawTarget with deadlineMs := 10 } };
        ({ waiting with queue := [j] } : State).job? 0 = some j ∧ j.expiry = none ∧ 0 < j.target.deadlineMs) ∧
      (let j := { waitingJob with target := { redrawTarget with wanted := some ⟨800, 600⟩, deadlineMs := 0 } };
        ({ waiting with queue := [j] } : State).job? 0 = some j ∧
          (waiting.record? 0).map Record.wanted ≠ some j.target.wanted ∧ j.target.deadlineMs = 0) := by decide +kernel

/-! Operations. -/

theorem witness_CorrectedAngleRule :
    (let cal := State.reset.hinge.cal;
      (7 : Fin 8).val = 16383 / 2048 ∧ 2047 = 16383 % 2048 ∧ (∀ n : Fin 8, cal[n.val] ≤ cal[n.val + 1]) ∧
        cal[8] ≤ 3600 ∧ cal[8] - cal[7] ≤ 1024) ∧
      (let cal : Vector Nat 9 := #v[0, 3072, 3072, 3072, 3072, 3072, 3072, 3072, 3600];
        (∀ n : Fin 8, cal[n.val] ≤ cal[n.val + 1]) ∧ 1024 < cal[1] - cal[0] ∧ cal[1] - cal[0] ≤ 3072 ∧ cal[2] = cal[1]) ∧
      (let cal : Vector Nat 9 := #v[0, 3073, 3600, 3600, 3600, 3600, 3600, 3600, 3600];
        (∀ n : Fin 8, cal[n.val] ≤ cal[n.val + 1]) ∧ 3072 < cal[1] - cal[0]) := by decide
theorem witness_CandidateRule :
    lit.posture.Ok ∧ 3600 ≤ 3600 ∧
      (let c := { lit.posture with committed := .closed }; 189 < c.b1 + c.margin ∧ c.b1 + c.margin ≤ 190) ∧
      (let c := { lit.posture with committed := .book };
        c.b1 - c.margin ≤ 110 ∧ 1589 < c.b2 + c.margin ∧ 109 < c.b1 - c.margin ∧ c.b2 + c.margin ≤ 1590) ∧
      (let c := { lit.posture with committed := .flat };
        c.b2 - c.margin ≤ 1510 ∧ 2089 < c.b3 + c.margin ∧ 1509 < c.b2 - c.margin ∧ c.b3 + c.margin ≤ 2090) ∧
      (let c := { lit.posture with committed := .tent };
        c.b3 - c.margin ≤ 2010 ∧ 3339 < c.b4 + c.margin ∧ 2009 < c.b3 - c.margin ∧ c.b4 + c.margin ≤ 3340) ∧
      (let c := { lit.posture with committed := .folded }; c.b4 - c.margin ≤ 3260 ∧ 3259 < c.b4 - c.margin) ∧
      (let c := { lit.posture with committed := .book };
        c.b1 = 150 ∧ c.b2 = 1550 ∧ c.b3 = 2050 ∧ c.b4 = 3300 ∧ c.margin = 40) ∧
      { lit.posture with margin := 0 }.margin = 0 :=
  ⟨by constructor <;> decide, by decide⟩
theorem witness_PiecesShowTheRectangle :
    (∀ p, (none : Option PanelId) = some p → Area.canvas ≠ .canvas) ∧
      (false = true ↔ Area.canvas = .panel .p1 ∧ (none : Option PanelId) = some .p1) ∧
      (∀ p, some PanelId.p1 = some p → Area.panel .p1 ≠ .canvas) ∧
      (true = true ↔ Area.panel .p1 = .panel .p1 ∧ some PanelId.p1 = some .p1) ∧
      (∃ t ∈ piecesOf .powerOn none .canvas ⟨1200, 300, 600, 800⟩, t.panel = .p1 ∧ t.dest.covers 0 300 = true) ∧
      (∃ t ∈ piecesOf .powerOn (some .p1) (.panel .p1) ⟨100, 0, 400, 500⟩,
        t.panel = .p1 ∧ t.dest.covers 940 1420 = true) := by
  refine ⟨by simp, by simp, by simp, by simp, ?_, ?_⟩ <;> decide +kernel
/-- Record 0 shown by a configuration at the top of panel 0's stack, over a slot that is free. -/
def stacked (c : SlotConfig) : State :=
  (shown.setSlot 0 (.live ⟨0, 0⟩ c none)).modPanel .p0 fun x => { x with stack := [1, 0] }
/-- R87, R141: a covered position at each end of a rectangle, one beyond it, an empty stack, one beyond the buffer, and FILL. -/
theorem witness_PiecesShowTheRectangle_shown :
    (lit.panel .p0).stack = [] ∧ ((stacked shownConfig).panel .p0).stack = [1] ++ 0 :: [] ∧
      (stacked shownConfig).slot 0 = .live ⟨0, 0⟩ shownConfig none ∧
      shownConfig.dest.covers 0 0 = true ∧ shownConfig.dest.covers 1439 1919 = true ∧
      shownConfig.dest.covers 1440 1919 = false ∧
      (1439 < (desc 1440 1920 0).width.toNat ∧ 1919 < (desc 1440 1920 0).height.toNat) ∧
      (let c := { shownConfig with srcX := 1 }; ¬(c.srcX + 1439 < (desc 1440 1920 0).width.toNat)) ∧
      ({ shownConfig with fetch := .fill, buffer := none } : SlotConfig).fetch = .fill ∧
      shownConfig.fetch ≠ .fill := by decide +kernel
/-- R87, R141: the last pixel of the buffer, the first of a rotated piece, a position beyond the buffer, and the background. -/
theorem test_shown :
    (stacked shownConfig).shown .p0 1439 1919 = .memory (0x1000 + 1919 * 5760 + 4 * 1439) ∧
      (stacked { shownConfig with rotated := true, fetch := .decrement }).shown .p0 1439 1919 = .memory 0x1000 ∧
      (stacked { shownConfig with srcX := 1 }).shown .p0 1439 0 = .colour 0x11223344 ∧
      (stacked shownConfig).shown .p0 0 1920 = .background := by decide +kernel
theorem witness_StackAndLending :
    (shown.slot 0).cfg? = some shownConfig ∧ shown.user 0 = .p0 ∧ (shown.slot 0).isLive = true ∧
      usingPanel .p0 6 1 = .p0 ∧ usingPanel .p0 6 2 = .p1 ∧ usingPanel .p1 6 9 = .p1 ∧ usingPanel .p1 6 10 = .p0 ∧
      usingPanel .p1 0 15 = .p1 := by decide +kernel
/-- `shown` with a job for record 0 in SLOT_WAIT whose target is panel 1, or panel 0. -/
def granting (p : PanelId) : State :=
  { shown with queue := [{ Job.fresh ⟨0, 0⟩ ⟨some ⟨.panel p, fullPanel, [⟨p, fullPanel, 0, 0, false, none⟩]⟩, none, .brk, 0⟩ with
      phase := .slotWait }] }
/-- R109, R110: a job that is granted its record's slot, one that is granted a free one, one with none usable, and one not waiting. -/
theorem witness_StackAndLending_grant :
    (let s := granting .p0;
      ((s.job? 0).map fun j => (j.phase, j.target.pieces.map TargetPiece.panel)) = some (.slotWait, [.p0]) ∧
        s.user 0 = .p0 ∧ (s.slot 0).ownedBy 0 = true ∧ s.entry 0 = .used placedRecord) ∧
      (let s := granting .p1;
        ((s.job? 0).map fun j => (j.phase, j.target.pieces.map TargetPiece.panel)) = some (.slotWait, [.p1]) ∧
          s.user 8 = .p1 ∧ s.slot 8 = .free ∧ (s.panel .p1).inService = true ∧
          ∀ k, ¬(s.user k = .p1 ∧ (s.slot k).ownedBy 0 = true)) ∧
      (let s := { granting .p1 with panels := offline.panels };
        (s.panel .p1).inService = false ∧ ∀ k, ¬(s.user k = .p1 ∧ (s.slot k).ownedBy 0 = true)) ∧
      waiting.job? 0 = some waitingJob ∧ waitingJob.phase ≠ .slotWait := by decide +kernel

/-- `full` with the queue full of jobs for records 1 to 16. -/
def backlogged : State :=
  { full with queue := (List.finRange 16).map fun k => Job.fresh ⟨0, Fin.ofNat 40 (k.val + 1)⟩ redrawTarget }

theorem witness_ResolutionPassed :
    (parked.entry 0 = .used parkedRecord ∧ parked.job? 0 = none ∧ parked.queue.length < 16 ∧
      parkedRecord.resPending = false) ∧
      (let r := { parkedRecord with resPending := true };
        r.resPending = true ∧ redrawTarget.samePlacement r = false ∧ (Resolution.park .builtin).samePlacement r = true) ∧
      (backlogged.entry 0 = .used parkedRecord ∧ backlogged.job? 0 = none ∧ 16 ≤ backlogged.queue.length) ∧
      (waiting.job? 0 = some waitingJob ∧ waitingJob.phase = .preparing) ∧
      (let j := { waitingJob with phase := .stepOne };
        j.phase = .stepOne ∧ redrawTarget.sameTarget j.target = true ∧
          (Resolution.park .builtin).sameTarget j.target = false) := by decide +kernel

/-- `shown` with a job for record 0 at a step. -/
def stepping (j : Job) : State := { shown with queue := [j] }
/-- R114: a job whose step has ended, and one that still waits for a slot, at the end of an event with and without a walk due. -/
theorem witness_StackAndLending_end_of_event :
    (let j := { Job.fresh ⟨0, 0⟩ redrawTarget with phase := .stepTwo };
      (stepping j).queue.find? (fun x => decide (x.phase = .stepOne ∨ x.phase = .stepTwo) && decide (x.outstanding = [])) =
        some j) ∧
      (let e := { Ev.start (granting .p1) with walk := true };
        e.s.queue.find? (fun x => decide (x.phase = .stepOne ∨ x.phase = .stepTwo) && decide (x.outstanding = [])) = none ∧
          e.left = 0 ∧ e.walk = true ∧ (Ev.start (granting .p1)).walk = false) ∧
      ({ Ev.start backlogged with left := 1 } : Ev).left ≠ 0 := by decide +kernel
/-- The target of record 0 on panel 0, granted slot 0. -/
def grantedTarget : Resolution := ⟨some ⟨.panel .p0, fullPanel, [⟨.p0, fullPanel, 0, 0, false, some 0⟩]⟩, none, .brk, 0⟩

/-- R115, R116: the end of a step that redirects, that begins the second step, and that completes with a piece and with none, with and
without a next target. -/
theorem witness_ResolutionPassed_end_of_step :
    (let j := { Job.fresh ⟨0, 0⟩ grantedTarget with
        phase := .stepOne, stepTwo := [⟨.attach, 1⟩], next := some (.park .builtin) };
      (stepping j).job? 0 = some j ∧ (stepping j).entry 0 = .used placedRecord ∧ j.phase = .stepOne ∧ j.stepTwo ≠ [] ∧
        j.next = some (.park .builtin)) ∧
      (let j := { Job.fresh ⟨0, 0⟩ grantedTarget with phase := .stepOne, stepTwo := [⟨.attach, 1⟩] };
        (stepping j).job? 0 = some j ∧ j.stepTwo ≠ [] ∧ j.next = none) ∧
      (let j := { Job.fresh ⟨0, 0⟩ grantedTarget with phase := .stepTwo };
        (stepping j).job? 0 = some j ∧ j.next = none ∧ (shown.slot 0).isLive = true ∧ (shown.slot 0).ownedBy 0 = true) ∧
      (let j := { Job.fresh ⟨0, 0⟩ (.park .builtin) with phase := .stepOne, next := some grantedTarget };
        (stepping j).job? 0 = some j ∧ j.stepTwo = [] ∧ j.next = some grantedTarget ∧ j.target.pieces = []) := by
  decide +kernel
/-- `parked` with the resolution-pending mark. -/
def marked (s : State) (r : Record) : State := s.setEntry 0 (.used { r with resPending := true })
/-- R117, R118: no mark, a mark taken up as a job, one that stays, and one dropped; a slot lost, and a target that lost every piece. -/
theorem witness_ResolutionPassed_backlog_and_losses :
    (∀ i, ((Ev.start parked).s.record? i).any Record.resPending = false) ∧
      (let d := (Ev.start (marked parked parkedRecord)).reresolve 0;
        (d.s.record? 0).map Record.resPending = some false ∧ 0 < d.s.queue.length) ∧
      (let d := (Ev.start (marked backlogged parkedRecord)).reresolve 0; (d.s.record? 0).map Record.resPending = some true) ∧
      (let d := (Ev.start (marked shown placedRecord)).reresolve 0;
        (d.s.record? 0).map Record.resPending = some false ∧ d.s.queue.length ≤ 0) ∧
      ((shown.slot 0).owner? = some ⟨0, 0⟩ ∧ (stepping (Job.fresh ⟨0, 0⟩ grantedTarget)).job? 0 ≠ none) ∧
      (⟨.panel .p0, fullPanel, []⟩ : ShownTarget).pieces = [] := by decide +kernel
/-- R118, R91: a target that lost its piece is no target of the same resolution again. -/
theorem test_lost_piece :
    let s := stepping { Job.fresh ⟨0, 0⟩ grantedTarget with phase := .stepTwo }
    let e := Ev.reportLoss true s (Ev.start s) 0
    ((e.s.job? 0).map fun j => (j.target.pieces, grantedTarget.sameTarget j.target)) = some ([], false) := by
  decide +kernel

end Sys2Proof.Tests
end

section
/-! SUPPORT. The commands in which the Hinge Input Unit and the Posture Classifier have no part: those of the records, of the
panels and of the attention flags leave both blocks alone. -/

namespace Sys2Proof.Machine

/-! ### The relation -/

/-- The two blocks that take the sensor line and the fold switch are the same. -/
structure State.SameInputs (s t : State) : Prop where
  hinge : t.hinge = s.hinge
  posture : t.posture = s.posture

theorem State.SameInputs.refl (s : State) : s.SameInputs s := ⟨rfl, rfl⟩

theorem State.SameInputs.trans {s t u : State} (h : s.SameInputs t) (k : t.SameInputs u) : s.SameInputs u :=
  ⟨k.hinge.trans h.hinge, k.posture.trans h.posture⟩

theorem State.SameBlocks.inputs {s t : State} (h : s.SameBlocks t) : s.SameInputs t := ⟨h.hinge, h.posture⟩

theorem State.EngineFrame.inputs {s t : State} (h : s.EngineFrame t) : s.SameInputs t := h.blocks.inputs

/-- An operation made for each member of a list leaves the inputs alone if one does. -/
theorem Ev.foldl_inputs {α : Type} (f : Ev → α → Ev) (hf : ∀ (e : Ev) (a : α), e.s.SameInputs (f e a).s) (l : List α)
    (e : Ev) : e.s.SameInputs (l.foldl f e).s := by
  induction l generalizing e with
  | nil => exact .refl _
  | cons a l ih => exact (hf e a).trans (ih (f e a))

theorem Ev.done_inputs (e : Ev) : e.s.SameInputs e.done := e.done_frame.inputs

theorem Ev.reply_inputs (e : Ev) (payload : State → List Byte) : e.s.SameInputs (e.reply payload).1 := e.done_inputs

theorem Ev.reresolve_inputs (e : Ev) (i : Fin 40) : e.s.SameInputs (e.reresolve i).s := (e.reresolve_frame i).inputs

/-- A request leaves the inputs alone if its owner does. -/
theorem State.runRequest_inputs {owner : State → State × Reply} (h : ∀ u : State, u.SameInputs (owner u).1) (s : State)
    (c : Instr) : s.SameInputs (s.runRequest c owner) := by
  by_cases ht : s.turn c
  · rw [State.runRequest_turn ht]
    have hh : s.SameInputs (s.handed c) := ⟨s.handed_hinge c, s.handed_posture c⟩
    exact (hh.trans (h _)).trans ⟨rfl, rfl⟩
  · rw [State.runRequest_busy ht, State.discard_eq]
    split
    · exact .refl s
    · exact (s.raise_blocks .link).inputs

/-- The event at a timer leaves the inputs alone if what it does then does. -/
theorem State.atTimer_inputs {f : State → State} (h : ∀ u : State, u.SameInputs (f u)) (s : State) (t : Timer) :
    s.SameInputs (s.atTimer t f) := by
  cases t with
  | none => exact .refl s
  | some t =>
    have hr : s.SameInputs (s.reach t) := ⟨rfl, rfl⟩
    exact hr.trans (h _)

/-! ### Requests of the records -/

theorem ownCreateSurface_inputs (cls owner : Half) (home z flags : Byte) (fill : Word) (buffer : Option Descriptor)
    (s : State) : s.SameInputs (ownCreateSurface cls owner home z flags fill buffer s).1 := by
  unfold ownCreateSurface
  split
  · exact .refl s
  · split
    · exact .refl s
    · split
      · exact .refl s
      · simp only
        refine State.SameInputs.trans ?_ (Ev.reply_inputs _ _)
        refine State.SameInputs.trans ?_ (Ev.reresolve_inputs _ _)
        split <;> exact ⟨rfl, rfl⟩

theorem Ev.settleWait_inputs (e : Ev) (i : Fin 40) : e.s.SameInputs (e.settleWait i).s :=
  (e.modJob_frame i _).inputs.trans (Ev.examine_frame _ i).inputs

theorem Ev.restage_inputs (e : Ev) (i : Fin 40) (f : SlotConfig → SlotConfig) : e.s.SameInputs (e.restage i f).s :=
  ⟨State.restageAll_hinge _ i f, State.restageAll_posture _ i f⟩

theorem Ev.modRecord_inputs (e : Ev) (i : Fin 40) (f : Record → Record) : e.s.SameInputs (e.modRecord i f).s :=
  (e.s.modRecord_blocks i f).inputs

theorem Ev.offer_inputs (e : Ev) (i : Fin 40) (r : Record) (b : Buffer) (c : OfferCase) :
    e.s.SameInputs (e.offer i r b c).s := by
  cases c with
  | mismatch => exact .refl _
  | settles =>
    exact ((e.modRecord_inputs i _).trans (State.checkCurrency_blocks _ i).inputs).trans (Ev.settleWait_inputs
      ((e.modRecord i _).mod fun s => s.checkCurrency i) i)
  | restages =>
    exact ((e.modRecord_inputs i _).trans (Ev.restage_inputs _ i _)).trans (State.checkCurrency_blocks _ i).inputs
  | direct =>
    simp only [Ev.offer]
    split
    · exact (e.modRecord_inputs i _).trans (Ev.reresolve_inputs _ i)
    · exact e.modRecord_inputs i _

theorem ownOfferBuffer_inputs (h : HandleField) (d : Descriptor) (s : State) :
    s.SameInputs (ownOfferBuffer h d s).1 := by
  unfold ownOfferBuffer
  split
  · exact .refl s
  · split
    · exact .refl s
    · split
      · exact .refl s
      · simp only
        split
        · exact .refl s
        · have hs : s.SameInputs s.countOffer := ⟨rfl, rfl⟩
          exact (hs.trans (Ev.offer_inputs (Ev.start s.countOffer) _ _ _ _)).trans (Ev.done_inputs _)

theorem Ev.amended_inputs (e : Ev) (i : Fin 40) (old new : Record) : e.s.SameInputs (e.amended i old new).s := by
  simp only [Ev.amended]
  have restaged : ∀ (p : Prop) [Decidable p] (f : SlotConfig → SlotConfig),
      e.s.SameInputs (if p then e.restage i f else e).s := fun p _ f => by
    split
    · exact e.restage_inputs i f
    · exact .refl _
  split
  · exact (restaged _ _).trans (Ev.reresolve_inputs _ i)
  · exact restaged _ _

theorem ownAmendSurface_inputs (h : HandleField) (presence z home : Byte) (cls owner : Half) (flags : Byte) (fill : Word)
    (s : State) : s.SameInputs (ownAmendSurface h presence z home cls owner flags fill s).1 := by
  unfold ownAmendSurface
  split
  · exact .refl s
  · next i r _ =>
    split
    · exact ((s.setEntry_blocks i _).inputs.trans (Ev.amended_inputs (Ev.start _) i r _)).trans (Ev.reply_inputs _ _)
    · exact .refl s

/-- A request that rewrites a record and re-resolves it. -/
theorem State.rewrite_inputs (s : State) (i : Fin 40) (r : Record) (payload : State → List Byte) :
    s.SameInputs (((Ev.start (s.setEntry i (.used r))).reresolve i).reply payload).1 :=
  ((s.setEntry_blocks i _).inputs.trans (Ev.reresolve_inputs (Ev.start _) i)).trans (Ev.reply_inputs _ _)

theorem ownSetVariant_inputs (h : HandleField) (postures target fallback : Byte) (rect : Option RectField) (s : State) :
    s.SameInputs (ownSetVariant h postures target fallback rect s).1 := by
  unfold ownSetVariant
  split
  · exact .refl s
  · split
    · split
      · exact .refl s
      · simp only
        split
        · exact .refl s
        · exact s.rewrite_inputs _ _ _
    · exact .refl s

theorem ownClearVariants_inputs (h : HandleField) (s : State) : s.SameInputs (ownClearVariants h s).1 := by
  unfold ownClearVariants
  split
  · exact .refl s
  · split
    · exact .refl s
    · exact s.rewrite_inputs _ _ _

theorem ownMoveSurface_inputs (h : HandleField) (target : Byte) (rect : Option RectField) (s : State) :
    s.SameInputs (ownMoveSurface h target rect s).1 := by
  unfold ownMoveSurface
  split
  · exact .refl s
  · split
    · exact .refl s
    · exact s.rewrite_inputs _ _ _

/-- R62: the new register value, then the focus marks and re-resolutions of the old and the new record. -/
theorem Ev.changeFocus_inputs (e : Ev) (new : Option Handle) : e.s.SameInputs (e.changeFocus new).s := by
  have step : ∀ (o : Option Handle) (d : Ev) (f : Handle → Ev), (∀ h, d.s.SameInputs (f h).s) →
      d.s.SameInputs (o.elim d f).s := fun o d f hf => by
    cases o with
    | none => exact .refl _
    | some h => exact hf h
  simp only [Ev.changeFocus]
  have h1 : e.s.SameInputs (e.mod fun s => { s with table := { s.table with focus := new } }).s := ⟨rfl, rfl⟩
  have h2 := h1.trans (step e.s.table.focus _ _ fun h => Ev.restage_inputs _ h.index fun c => { c with focus := false })
  have h3 := h2.trans (step new _ _ fun h => Ev.restage_inputs _ h.index fun c => { c with focus := true })
  have h4 := h3.trans (step e.s.table.focus _ _ fun h => Ev.reresolve_inputs _ h.index)
  exact h4.trans (step new _ _ fun h => (Ev.reresolve_inputs _ h.index).trans ⟨rfl, rfl⟩)

theorem State.focusOn_inputs (s : State) (new : Option Handle) : s.SameInputs (s.focusOn new).1 := by
  unfold State.focusOn
  split
  · exact .refl s
  · exact (Ev.changeFocus_inputs (Ev.start s) new).trans (Ev.reply_inputs _ _)

theorem ownSetFocus_inputs (h : HandleField) (s : State) : s.SameInputs (ownSetFocus h s).1 := by
  unfold ownSetFocus
  split
  · exact s.focusOn_inputs none
  · split
    · exact .refl s
    · exact s.focusOn_inputs _

theorem ownLookupSurface_inputs (h : HandleField) (s : State) : s.SameInputs (ownLookupSurface h s).1 := by
  unfold ownLookupSurface
  split <;> exact .refl s

theorem ownFindSurfaces_inputs (kind : Byte) (value : Word) (cursor : Byte) (s : State) :
    s.SameInputs (ownFindSurfaces kind value cursor s).1 := by
  unfold ownFindSurfaces
  split
  · exact .refl s
  · split <;> exact .refl s

theorem State.withdrawRecord_inputs (s : State) (i : Fin 40) : s.SameInputs (s.withdrawRecord i) := by
  simp only [State.withdrawRecord]
  refine State.SameInputs.trans ?_ (State.modRecord_blocks _ i _).inputs
  split <;> exact ⟨rfl, rfl⟩

theorem Ev.cancelJob_inputs (e : Ev) (i : Fin 40) : e.s.SameInputs (e.cancelJob i).s := by
  unfold Ev.cancelJob
  split
  · exact .refl _
  · have freed : e.s.SameInputs (e.s.freeOwnClaims i) := ⟨State.freeOwnClaims_hinge _ i, State.freeOwnClaims_posture _ i⟩
    exact (freed.trans (State.checkCurrency_blocks _ i).inputs).trans (State.dropJob_frame _ i).inputs

theorem Ev.retire_inputs (e : Ev) (i : Fin 40) : e.s.SameInputs (e.retire i).s := by
  have cancelled := (e.s.withdrawRecord_inputs i).trans (Ev.cancelJob_inputs (e.mod fun s => s.withdrawRecord i) i)
  have removed : ∀ u : State, u.SameInputs (u.stageRemovals i) := fun u =>
    ⟨u.stageRemovals_hinge i, u.stageRemovals_posture i⟩
  exact ((cancelled.trans (removed _)).trans (State.modRecord_blocks _ i _).inputs).trans
    (State.checkRetired_blocks _ i).inputs

theorem ownRetireSurface_inputs (h : HandleField) (s : State) : s.SameInputs (ownRetireSurface h s).1 := by
  unfold ownRetireSurface
  split
  · exact .refl s
  · exact (Ev.retire_inputs (Ev.start s) _).trans (Ev.done_inputs _)

theorem ownRetireOwner_inputs (owner : Half) (s : State) : s.SameInputs (ownRetireOwner owner s).1 :=
  (Ev.foldl_inputs Ev.retire Ev.retire_inputs (s.ownedRecords owner) (Ev.start s)).trans (Ev.done_inputs _)

theorem ownWriteRule_inputs (index : Byte) (f : RuleField) (s : State) : s.SameInputs (ownWriteRule index f s).1 := by
  unfold ownWriteRule
  split
  · split
    · exact .refl s
    · next h _ r _ =>
      have hs : s.SameInputs { s with rules := s.rules.set index.toNat r } := ⟨rfl, rfl⟩
      exact (hs.trans (Ev.reresolveAll_frame (Ev.start _)).inputs).trans (Ev.reply_inputs _ _)
  · exact .refl s

theorem ownReadRule_inputs (index : Byte) (s : State) : s.SameInputs (ownReadRule index s).1 := by
  unfold ownReadRule
  split
  · exact .refl s
  · split <;> exact .refl s

/-- R105: the deadline of a buffer wait. -/
theorem exec_deadlineExpiry_inputs (i : Fin 40) (s : State) :
    ∃ t, exec (.deadlineExpiry i) s = .next t ∧ s.SameInputs t := by
  refine ⟨_, rfl, ?_⟩
  split
  · exact .refl s
  · next t _ =>
    have hr : s.SameInputs (s.reach t) := ⟨rfl, rfl⟩
    exact ((hr.trans (Ev.expireWait_frame (Ev.start _) i).inputs).trans (Ev.examine_frame _ i).inputs).trans
      (Ev.done_inputs _)

/-! ### Events and requests of the panels -/

theorem State.modPanel_inputs (s : State) (p : PanelId) (f : Panel → Panel) : s.SameInputs (s.modPanel p f) := ⟨rfl, rfl⟩

theorem State.elapse_inputs (s : State) (us : Nat) : s.SameInputs (s.elapse us) := ⟨rfl, rfl⟩

theorem State.trainOk_inputs (s : State) (p : PanelId) : s.SameInputs (s.trainOk p) := by
  unfold State.trainOk
  split
  · exact (Ev.enterOn_blocks (Ev.start s) p).inputs.trans (Ev.done_inputs _)
  · exact .refl s

theorem State.settleAck_inputs (s : State) (p : PanelId) (f : Panel → Panel) : s.SameInputs (s.settleAck p f) := by
  unfold State.settleAck
  split
  · exact ((Ev.modPanel_blocks (Ev.start s) p _).trans (Ev.checkHealth_blocks _ p)).inputs.trans (Ev.done_inputs _)
  · exact .refl s

theorem State.ackByte_inputs (s : State) (p : PanelId) (code : Byte) (stop : Bool) : s.SameInputs (s.ackByte p code stop) := by
  unfold State.ackByte
  split
  · split
    · exact s.trainOk_inputs p
    · split
      · exact s.settleAck_inputs p _
      · exact s.settleAck_inputs p _
  · exact (s.modPanel_inputs p _).trans (State.settleAck_inputs _ p _)

/-- A branch that does nothing leaves the inputs alone. -/
theorem State.SameInputs.ite {p : Prop} [Decidable p] {s t : State} (h : s.SameInputs t) :
    s.SameInputs (if p then t else s) := by
  split
  · exact h
  · exact .refl s

theorem State.cutoff_inputs (s : State) (p : PanelId) : s.SameInputs (s.cutoff p) :=
  ⟨s.cutoff_hinge p, s.cutoff_posture p⟩

theorem ownSetPanelGeometry_inputs (w h g : Half) (s : State) : s.SameInputs (ownSetPanelGeometry w h g s).1 := by
  unfold ownSetPanelGeometry
  split
  · split
    · refine State.SameInputs.trans ?_ (Ev.reply_inputs _ _)
      exact ⟨rfl, rfl⟩
    · exact .refl s
  · exact .refl s

theorem ownSetRefresh_inputs (panel : Byte) (period lead : Half) (s : State) :
    s.SameInputs (ownSetRefresh panel period lead s).1 := by
  unfold ownSetRefresh
  split
  · exact .refl s
  · simp only [State.pendRefresh]
    split <;> exact ⟨rfl, rfl⟩

theorem ownPanelEnable_inputs (panel value : Byte) (s : State) : s.SameInputs (ownPanelEnable panel value s).1 := by
  unfold ownPanelEnable
  split
  · exact (Ev.setEnable_blocks (Ev.start s) _ _).inputs.trans (Ev.done_inputs _)
  · exact .refl s

theorem ownSetLending_inputs (lender count : Byte) (s : State) : s.SameInputs (ownSetLending lender count s).1 := by
  unfold ownSetLending
  split
  · exact .refl s
  · split
    · split
      · exact .refl s
      · split
        · refine State.SameInputs.trans ?_ (Ev.done_inputs _)
          exact ⟨rfl, rfl⟩
        · exact .refl s
    · exact .refl s

theorem ownReadPanel_inputs (panel : Byte) (s : State) : s.SameInputs (ownReadPanel panel s).1 := by
  unfold ownReadPanel
  split
  · exact .refl s
  · exact ⟨rfl, rfl⟩

theorem ownPanelRecover_inputs (panel : Byte) (s : State) : s.SameInputs (ownPanelRecover panel s).1 := by
  unfold ownPanelRecover
  split
  · exact .refl s
  · next p _ =>
    simp only
    have zeroed : s.SameInputs (s.modPanel p fun x => { x with attempts := 0 }) := s.modPanel_inputs p _
    split
    · exact (zeroed.trans (Ev.leaveOffline_blocks (Ev.start _) p).inputs).trans (Ev.done_inputs _)
    · exact zeroed

theorem ownSetRecoveryMode_inputs (panel recovery capture : Byte) (s : State) :
    s.SameInputs (ownSetRecoveryMode panel recovery capture s).1 := by
  unfold ownSetRecoveryMode
  split
  · exact ⟨rfl, rfl⟩
  · exact .refl s

/-! ### Requests of the attention flags -/

theorem ownAckAttention_inputs (flags : Byte) (s : State) : s.SameInputs (ownAckAttention flags s).1 := by
  unfold ownAckAttention
  split <;> exact ⟨rfl, rfl⟩

theorem ownAttnEnable_inputs (flags : Byte) (s : State) : s.SameInputs (ownAttnEnable flags s).1 := by
  unfold ownAttnEnable
  split <;> exact ⟨rfl, rfl⟩

theorem ownAttnDisable_inputs (flags : Byte) (s : State) : s.SameInputs (ownAttnDisable flags s).1 := by
  unfold ownAttnDisable
  split <;> exact ⟨rfl, rfl⟩

theorem State.clearReported_inputs (s : State) (i : Fin 40) : s.SameInputs (s.clearReported i) := by
  unfold State.clearReported
  split <;> exact ⟨rfl, rfl⟩

theorem State.moveCursor_inputs (s : State) (l : List (Fin 40)) : s.SameInputs (s.moveCursor l) := by
  unfold State.moveCursor
  split <;> exact ⟨rfl, rfl⟩

theorem State.clearAll_inputs (s : State) (l : List (Fin 40)) : s.SameInputs (l.foldl State.clearReported s) := by
  induction l generalizing s with
  | nil => exact .refl s
  | cons i l ih => exact (s.clearReported_inputs i).trans (ih _)

theorem ownReadNotices_inputs (s : State) : s.SameInputs (ownReadNotices s).1 :=
  ((s.clearAll_inputs s.reported).trans (State.moveCursor_inputs _ _)).trans (State.refreshNotice_frame _).inputs

/-! ### The link's own commands -/

theorem State.discard_inputs (s : State) : s.SameInputs s.discard := by
  rw [State.discard_eq]
  split
  · exact .refl s
  · exact (s.raise_blocks .link).inputs

theorem State.read_inputs (s : State) (busy : Bool) (n : Nat) : s.SameInputs (s.read busy n) := by
  simp only [State.read, State.deliver]
  split
  · split <;> exact ⟨rfl, rfl⟩
  · exact ⟨rfl, rfl⟩

/-! ### Which commands leave the inputs alone -/

/-- The commands of the two blocks themselves, and those that reset them. -/
def movesInputs : Instr → Bool
  | .writeTransaction _ _ => true
  | .powerOnReset => true
  | .powerOnResetEnd => true
  | .softResetEnd => true
  | .reset => true
  | .hingeEnable _ => true
  | .setCalibration _ => true
  | .setFilter _ _ _ _ _ => true
  | .lineIdle => true
  | .frameArrival _ => true
  | .cellTimeout => true
  | .silentExpiry => true
  | .hsnsCell _ => true
  | .dwellExpiry => true
  | .foldEdge _ => true
  | .debounceExpiry => true
  | .setBands _ _ _ _ _ _ => true
  | .setSwitch _ _ => true
  | .forcePosture _ => true
  | .setFront _ => true
  | .setSpan _ => true
  | _ => false

/-- Every other command leaves the Hinge Input Unit and the Posture Classifier as they were. -/
theorem exec_inputs {c : Instr} (hc : movesInputs c = false) (s : State) :
    ∃ t, exec c s = .next t ∧ s.SameInputs t := by
  cases c
  case readTransaction b n =>
    refine ⟨_, rfl, ?_⟩
    split
    · exact .refl s
    · exact s.read_inputs b n
  case ignoredTransaction o => exact ⟨_, rfl, .refl s⟩
  case readHinge | readPosture | readQueue | readStatus => exact ⟨_, rfl, s.runRequest_inputs .refl _⟩
  case setPowerTiming | setNoticeThreshold => exact ⟨_, rfl, s.runRequest_inputs (fun _ => ⟨rfl, rfl⟩) _⟩
  case createSurface => exact ⟨_, rfl, s.runRequest_inputs (ownCreateSurface_inputs _ _ _ _ _ _ _) _⟩
  case offerBuffer => exact ⟨_, rfl, s.runRequest_inputs (ownOfferBuffer_inputs _ _) _⟩
  case amendSurface => exact ⟨_, rfl, s.runRequest_inputs (ownAmendSurface_inputs _ _ _ _ _ _ _ _) _⟩
  case setVariant => exact ⟨_, rfl, s.runRequest_inputs (ownSetVariant_inputs _ _ _ _ _) _⟩
  case clearVariants => exact ⟨_, rfl, s.runRequest_inputs (ownClearVariants_inputs _) _⟩
  case setFocus => exact ⟨_, rfl, s.runRequest_inputs (ownSetFocus_inputs _) _⟩
  case lookupSurface => exact ⟨_, rfl, s.runRequest_inputs (ownLookupSurface_inputs _) _⟩
  case findSurfaces => exact ⟨_, rfl, s.runRequest_inputs (ownFindSurfaces_inputs _ _ _) _⟩
  case retireSurface => exact ⟨_, rfl, s.runRequest_inputs (ownRetireSurface_inputs _) _⟩
  case retireOwner => exact ⟨_, rfl, s.runRequest_inputs (ownRetireOwner_inputs _) _⟩
  case writeRule => exact ⟨_, rfl, s.runRequest_inputs (ownWriteRule_inputs _ _) _⟩
  case readRule => exact ⟨_, rfl, s.runRequest_inputs (ownReadRule_inputs _) _⟩
  case moveSurface => exact ⟨_, rfl, s.runRequest_inputs (ownMoveSurface_inputs _ _ _) _⟩
  case setPanelGeometry => exact ⟨_, rfl, s.runRequest_inputs (ownSetPanelGeometry_inputs _ _ _) _⟩
  case setRefresh => exact ⟨_, rfl, s.runRequest_inputs (ownSetRefresh_inputs _ _ _) _⟩
  case panelEnable => exact ⟨_, rfl, s.runRequest_inputs (ownPanelEnable_inputs _ _) _⟩
  case setLending => exact ⟨_, rfl, s.runRequest_inputs (ownSetLending_inputs _ _) _⟩
  case readPanel => exact ⟨_, rfl, s.runRequest_inputs (ownReadPanel_inputs _) _⟩
  case panelRecover => exact ⟨_, rfl, s.runRequest_inputs (ownPanelRecover_inputs _) _⟩
  case setRecoveryMode => exact ⟨_, rfl, s.runRequest_inputs (ownSetRecoveryMode_inputs _ _ _) _⟩
  case ackAttention => exact ⟨_, rfl, s.runRequest_inputs (ownAckAttention_inputs _) _⟩
  case attnEnable => exact ⟨_, rfl, s.runRequest_inputs (ownAttnEnable_inputs _) _⟩
  case attnDisable => exact ⟨_, rfl, s.runRequest_inputs (ownAttnDisable_inputs _) _⟩
  case readNotices => exact ⟨_, rfl, s.runRequest_inputs ownReadNotices_inputs _⟩
  case deadlineExpiry i => exact exec_deadlineExpiry_inputs i s
  case offTimeExpiry p =>
    exact ⟨_, rfl, s.atTimer_inputs (fun u => (u.modPanel_inputs p _).trans (State.checkPowerUp_blocks _ p).inputs) _⟩
  case railStageEnd p => exact ⟨_, rfl, .ite (s.atTimer_inputs (fun u => u.modPanel_inputs p _) _)⟩
  case resetStageEnd p => exact ⟨_, rfl, .ite (s.atTimer_inputs (fun u => u.modPanel_inputs p _) _)⟩
  case trainingExpiry p =>
    exact ⟨_, rfl, .ite (s.atTimer_inputs
      (fun u => (Ev.goOffline_blocks (Ev.start u) p _).inputs.trans (Ev.done_inputs _)) _)⟩
  case powerDownEnd p =>
    exact ⟨_, rfl, .ite (s.atTimer_inputs (fun u => (u.modPanel_inputs p _).trans (State.enterOff_blocks _ p).inputs) _)⟩
  case trainOk p => exact ⟨_, rfl, .ite (s.trainOk_inputs p)⟩
  case frameOk p => exact ⟨_, rfl, .ite (s.settleAck_inputs p _)⟩
  case frameBad p => exact ⟨_, rfl, .ite (s.settleAck_inputs p _)⟩
  case unknownAckCode p code stop => exact ⟨_, rfl, .ite (s.ackByte_inputs p code stop)⟩
  case ackPathIdle p => exact ⟨_, rfl, s.modPanel_inputs p _⟩
  case frameStart p =>
    exact ⟨_, rfl, .ite (((s.elapse_inputs _).trans (Ev.frameStart_blocks (Ev.start _) p).inputs).trans
      (Ev.done_inputs _))⟩
  case stagingCutoff p => exact ⟨_, rfl, .ite ((s.elapse_inputs _).trans (State.cutoff_inputs _ p))⟩
  case quietExpiry p =>
    exact ⟨_, rfl, .ite (s.atTimer_inputs (fun u => ((u.modPanel_inputs p _).trans
      (Ev.leaveOffline_blocks ((Ev.start u).modPanel p _) p).inputs).trans (Ev.done_inputs _)) _)⟩
  case stabilityExpiry p => exact ⟨_, rfl, s.atTimer_inputs (fun u => u.modPanel_inputs p _) _⟩
  all_goals cases hc

end Sys2Proof.Machine
end

section
/-! SUPPORT. The arithmetic of the Hinge Input Unit: the corrected angle (R13), the filter (R15) and the motion window (R17). -/

namespace Sys2Proof.Machine

/-! ### The corrected angle -/

section
variable (cal : Vector Nat 9) (r : Nat) (k : Fin 8)

/-- R13: the formula, with the segment of the code named. -/
theorem correctedAngle_eq (hk : k.val = r / 2048) :
    correctedAngle cal r = cal[k.val] + ((cal[k.val + 1] - cal[k.val]) * (r % 2048) + 1024) / 2048 := by
  have hlo : k.val < 9 := by omega
  have hhi : k.val + 1 < 9 := by omega
  simp only [correctedAngle, ← hk, Vector.getElem?_eq_getElem hlo, Vector.getElem?_eq_getElem hhi, Option.getD_some]

/-- R13: what is added to the lower end of a segment never passes its upper end. -/
theorem interpolation_le (d f : Nat) (hf : f < 2048) : (d * f + 1024) / 2048 ≤ d := by
  have h : d * f ≤ d * 2047 := Nat.mul_le_mul_left d (by omega)
  omega

theorem le_correctedAngle (hk : k.val = r / 2048) : cal[k.val] ≤ correctedAngle cal r := by
  rw [correctedAngle_eq cal r k hk]
  exact Nat.le_add_right _ _

theorem correctedAngle_le (hk : k.val = r / 2048) (h : cal[k.val] ≤ cal[k.val + 1]) :
    correctedAngle cal r ≤ cal[k.val + 1] := by
  have hi := interpolation_le (cal[k.val + 1] - cal[k.val]) (r % 2048) (Nat.mod_lt r (by decide))
  rw [correctedAngle_eq cal r k hk]
  omega

/-- R14: a nondecreasing table, between any two of its entries. -/
theorem calibration_mono (h : ∀ n : Fin 8, cal[n.val] ≤ cal[n.val + 1]) (i j : Nat) (hij : i ≤ j) (hj : j < 9) :
    cal[i] ≤ cal[j] := by
  induction j, hij using Nat.le_induction with
  | base => exact Nat.le_refl _
  | succ j hij ih => exact (ih (by omega)).trans (h ⟨j, by omega⟩)

/-- R13: the angle of a code lies between the ends of the table. -/
theorem correctedAngle_bounds (hk : k.val = r / 2048) (h : ∀ n : Fin 8, cal[n.val] ≤ cal[n.val + 1]) :
    cal[0] ≤ correctedAngle cal r ∧ correctedAngle cal r ≤ cal[8] :=
  ⟨(calibration_mono cal h 0 k.val (by omega) (by omega)).trans (le_correctedAngle cal r k hk),
    (correctedAngle_le cal r k hk (h k)).trans (calibration_mono cal h (k.val + 1) 8 (by omega) (by omega))⟩

/-- R13: where the largest code of a segment lands, by the difference of its ends. -/
theorem correctedAngle_segment_end (hk : k.val = r / 2048) (hf : r % 2048 = 2047) (h : cal[k.val] ≤ cal[k.val + 1])
    (htop : cal[k.val + 1] ≤ 3600) :
    (cal[k.val + 1] - cal[k.val] ≤ 1024 → correctedAngle cal r = cal[k.val + 1]) ∧
      (1024 < cal[k.val + 1] - cal[k.val] → cal[k.val + 1] - cal[k.val] ≤ 3072 →
        correctedAngle cal r + 1 = cal[k.val + 1]) ∧
      (3072 < cal[k.val + 1] - cal[k.val] → correctedAngle cal r + 2 = cal[k.val + 1]) := by
  rw [correctedAngle_eq cal r k hk, hf]
  omega

end

/-- Settles O56: the formula and its bounds segment by segment, and the default table by evaluation. -/
theorem correctedAngleRule : Obligations.CorrectedAngleRule := by
  refine ⟨fun cal r k f hk hf hmono => ?_, by decide, rfl, rfl⟩
  have bounds := correctedAngle_bounds cal r k hk hmono
  refine ⟨hf ▸ correctedAngle_eq cal r k hk, le_correctedAngle cal r k hk, correctedAngle_le cal r k hk (hmono k),
    bounds.1, bounds.2, fun flat => ?_, fun hlast htop =>
      correctedAngle_segment_end cal r k hk (hf ▸ hlast) (hmono k) htop⟩
  rw [correctedAngle_eq cal r k hk, flat]
  simp

/-! ### The filter -/

/-- R15: the accumulator stays below any bound that it and sixteen times the angle have. -/
theorem filterStep_le {acc angle B : Nat} (k : Nat) (hacc : acc ≤ B) (hangle : 16 * angle ≤ B) :
    filterStep acc angle k ≤ B := by
  have hpow : (0 : Int) < 2 ^ k := by positivity
  have hstep : (acc : Int) + (16 * angle - acc : Int) / 2 ^ k ≤ B := by
    by_cases h : (acc : Int) ≤ 16 * angle
    · have := Int.ediv_le_self (a := (16 * angle - acc : Int)) (2 ^ k) (by omega)
      omega
    · have := Int.ediv_neg_of_neg_of_pos (a := (16 * angle - acc : Int)) (by omega) hpow
      omega
  unfold filterStep
  omega

theorem filteredOf_le {acc : Nat} (h : acc ≤ 57600) : filteredOf acc ≤ 3600 := by
  unfold filteredOf
  omega

/-! ### The motion window -/

theorem replicate_window_le {f B : Nat} (h : f ≤ B) (n : Fin 8) : (Vector.replicate 8 f)[n] ≤ B := by
  rw [Fin.getElem_fin, Vector.getElem_replicate]
  exact h

/-- R17: the entries of the window after a sample are the old ones but the oldest, and the new one. -/
theorem pushWindow_le {w : Vector Nat 8} {f B : Nat} (hw : ∀ n : Fin 8, w[n] ≤ B) (hf : f ≤ B) (n : Fin 8) :
    (pushWindow w f)[n] ≤ B := by
  fin_cases n
  · exact hw 1
  · exact hw 2
  · exact hw 3
  · exact hw 4
  · exact hw 5
  · exact hw 6
  · exact hw 7
  · exact hf

end Sys2Proof.Machine
end

section
/-! SUPPORT. The Posture Classifier leaves the Hinge Input Unit alone, and the Hinge Input Unit's own operations keep its ranges. -/

namespace Sys2Proof.Machine

/-! ### The classifier leaves the hinge unit alone -/

section
variable (e : Ev)

@[simp] theorem Ev.modPosture_hinge (f : Classifier → Classifier) : (e.modPosture f).s.hinge = e.s.hinge := rfl

@[simp] theorem Ev.raise_hinge (f : AttnFlag) : (e.raise f).s.hinge = e.s.hinge := rfl

@[simp] theorem Ev.modHinge_hinge (f : Hinge → Hinge) : (e.modHinge f).s.hinge = f e.s.hinge := rfl

@[simp] theorem Ev.done_hinge : e.done.hinge = e.s.hinge := e.done_inputs.hinge

@[simp] theorem Ev.applyPlan_hinge : e.applyPlan.s.hinge = e.s.hinge := e.applyPlan_blocks.hinge

@[simp] theorem Ev.planChange_hinge : e.planChange.s.hinge = e.s.hinge := e.applyPlan_hinge

@[simp] theorem Ev.commit_hinge (p : Posture) : (e.commit p).s.hinge = e.s.hinge := by
  simp only [Ev.commit]
  split
  · rfl
  · exact (Ev.applyPlan_hinge _).trans (State.mapRecords_hinge _ _)

@[simp] theorem Ev.closeNow_hinge : e.closeNow.s.hinge = e.s.hinge := Ev.commit_hinge _ _

@[simp] theorem Ev.disagree_hinge : e.disagree.s.hinge = e.s.hinge := by
  simp only [Ev.disagree]
  split <;> rfl

@[simp] theorem Ev.foldCheck_hinge : e.foldCheck.s.hinge = e.s.hinge := by
  unfold Ev.foldCheck
  split
  · split
    · rfl
    · split
      · exact e.closeNow_hinge
      · exact e.disagree_hinge
    · exact e.closeNow_hinge
  · rfl

@[simp] theorem Ev.leftTracking_hinge (toLost : Bool) : (e.leftTracking toLost).s.hinge = e.s.hinge := by
  simp only [Ev.leftTracking]
  split
  · exact Ev.foldCheck_hinge _
  · rfl

@[simp] theorem Ev.startDwell_hinge (c : Posture) : (e.startDwell c).s.hinge = e.s.hinge := by
  unfold Ev.startDwell
  split
  · split
    · rfl
    · exact Ev.commit_hinge _ c
  · rfl

@[simp] theorem Ev.applyDwell_hinge (c : Posture) : (e.applyDwell c).s.hinge = e.s.hinge := by
  unfold Ev.applyDwell
  split
  · rfl
  · split
    · exact e.startDwell_hinge c
    · split
      · rfl
      · exact e.startDwell_hinge c
    · split
      · split
        · rfl
        · exact e.commit_hinge c
      · exact e.startDwell_hinge c

@[simp] theorem Ev.evaluate_hinge : e.evaluate.s.hinge = e.s.hinge := by
  unfold Ev.evaluate
  split
  · exact e.foldCheck_hinge
  · split
    · split
      · rfl
      · exact e.commit_hinge _
    · exact e.applyDwell_hinge _

@[simp] theorem Ev.dwellEnd_hinge : e.dwellEnd.s.hinge = e.s.hinge := by
  unfold Ev.dwellEnd
  split
  · rfl
  · exact Ev.commit_hinge _ _

@[simp] theorem Ev.takeLevel_hinge : e.takeLevel.s.hinge = e.s.hinge := by
  unfold Ev.takeLevel
  split
  · rfl
  · split
    · exact Ev.foldCheck_hinge _
    · rfl

end

/-- A request keeps what its owner keeps of the hinge unit. -/
theorem State.runRequest_hinge {P : Hinge → Prop} {owner : State → State × Reply}
    (h : ∀ u : State, P u.hinge → P (owner u).1.hinge) (s : State) (c : Instr) (hs : P s.hinge) :
    P (s.runRequest c owner).hinge := by
  by_cases ht : s.turn c
  · rw [State.runRequest_turn ht]
    exact h (s.handed c) ((s.handed_hinge c).symm ▸ hs)
  · rw [State.runRequest_busy ht]
    exact s.discard_inputs.hinge.symm ▸ hs

theorem ownSetBands_hinge (b1 b2 b3 b4 margin dwell : Half) (s : State) :
    (ownSetBands b1 b2 b3 b4 margin dwell s).1.hinge = s.hinge := by
  unfold ownSetBands
  split <;> rfl

theorem ownSetSwitch_hinge (use : Byte) (limit : Half) (s : State) : (ownSetSwitch use limit s).1.hinge = s.hinge := by
  unfold ownSetSwitch
  split
  · rfl
  · simp only [Ev.done_hinge]
    split <;> simp [Ev.start]

theorem ownForcePosture_hinge (code : Byte) (s : State) : (ownForcePosture code s).1.hinge = s.hinge := by
  unfold ownForcePosture
  split
  · rfl
  · split
    · simp [Ev.start]
    · rfl

theorem ownSetFront_hinge (value : Byte) (s : State) : (ownSetFront value s).1.hinge = s.hinge := by
  unfold ownSetFront
  split
  · rfl
  · split
    · rfl
    · simp [Ev.start]

theorem ownSetSpan_hinge (value : Byte) (s : State) : (ownSetSpan value s).1.hinge = s.hinge := by
  unfold ownSetSpan
  split
  · rfl
  · split
    · rfl
    · simp [Ev.start]

/-! ### Resets and settings -/

section
variable {h : Hinge}

/-- The receive state and the two timers of the unit have no part in its ranges, but for the bits of a frame. -/
theorem Hinge.Ok.reception (ok : h.Ok) (r : RecvState) (hr : ∀ l, r = .inFrame l → l.length ≤ 32) (c t : Timer) :
    { h with recv := r, cellTimer := c, silentTimer := t }.Ok := { ok with bits := hr }

theorem Hinge.Ok.silent (ok : h.Ok) (t : Timer) : { h with silentTimer := t }.Ok := { ok with }

theorem Hinge.powerOn_ok (now : Nat) : (Hinge.powerOn now).Ok := by
  have ok : (Hinge.powerOn 0).Ok := by
    constructor
    case bits => exact fun _ h => by cases h
    all_goals decide
  exact ok.silent _

theorem Hinge.Ok.softReset (ok : h.Ok) : h.softReset.Ok where
  enabled := by
    unfold Hinge.softReset
    cases h.enabled <;> simp
  bits _ hl := by cases hl
  streaks := by simp [Hinge.softReset]
  raw := Nat.zero_le _
  angle := Nat.zero_le _
  cal := ok.cal
  calTop := ok.calTop
  acc := Nat.zero_le _
  filtered := Nat.zero_le _
  window n := replicate_window_le (Nat.zero_le _) n
  motion := Nat.zero_le _
  swinging hs := by cases hs
  divider := Nat.zero_le _
  sampling := .inl ok.interval.1
  shift := ok.shift
  interval := ok.interval
  threshold := ok.threshold
  silentMs := ok.silentMs
  badLimit := ok.badLimit

/-- R8: entry to DISABLED. -/
def Hinge.disable (h : Hinge) : Hinge :=
  { h with
    enabled := false, input := .disabled, recv := .idleWait, cellTimer := none, silentTimer := none
    good := 0, bad := 0, lastCause := .none, marginal := false, swinging := false
    expected := none, reseedPending := false, refillPending := false }

theorem Hinge.Ok.disable (ok : h.Ok) : h.disable.Ok :=
  { ok with
    enabled := by simp [Hinge.disable]
    bits := fun _ hl => by cases hl
    streaks := by simp [Hinge.disable]
    swinging := fun hs => by cases hs
    sampling := .inr (.inr (by simp [Hinge.disable])) }

/-- R9: entry to ACQUIRING from DISABLED, in which the unit is not swinging. -/
theorem Hinge.Ok.enable (ok : h.Ok) (hd : h.input = .disabled) (t : Timer) :
    { h with enabled := true, input := .acquiring, recv := .idleWait, silentTimer := t }.Ok :=
  { ok with
    enabled := by simp
    bits := fun _ hl => by cases hl
    swinging := fun hs => by
      have := ok.swinging hs
      rw [hd] at this
      cases this
    sampling := .inr (.inr (by simp)) }

theorem le_clamp (lo hi n : Nat) : lo ≤ clamp lo hi n := Nat.le_max_left _ _

theorem clamp_le {lo hi : Nat} (h : lo ≤ hi) (n : Nat) : clamp lo hi n ≤ hi := Nat.max_le.2 ⟨h, Nat.min_le_left _ _⟩

/-- R20: the settings used lie in their ranges, and a changed sample interval leaves the re-fill pending. -/
theorem Hinge.Ok.withFilter (ok : h.Ok) (shift interval threshold silent limit : Byte) :
    (h.withFilter shift interval threshold silent limit).Ok :=
  { ok with
    shift := clamp_le (by decide) _
    interval := ⟨le_clamp _ _ _, clamp_le (by decide) _⟩
    threshold := ⟨le_clamp _ _ _, clamp_le (by decide) _⟩
    silentMs := ⟨le_clamp _ _ _, clamp_le (by decide) _⟩
    badLimit := ⟨le_clamp _ _ _, clamp_le (by decide) _⟩
    sampling := by
      simp only [Hinge.withFilter]
      by_cases hd : clamp 1 32 interval.toNat = h.interval
      · rw [hd]
        simpa using ok.sampling
      · exact .inr (.inl (by simp [hd])) }

/-- R14: what SET_CALIBRATION takes. -/
theorem calibrationOk_iff (points : Vector Half 9) :
    calibrationOk points = true ↔ (∀ n : Fin 9, (points[n]).toNat ≤ 3600) ∧
      ∀ n : Fin 8, (points[n.val]).toNat ≤ (points[n.val + 1]).toNat := by
  simp [calibrationOk]

theorem Hinge.Ok.calibrate (ok : h.Ok) {points : Vector Half 9} (hp : calibrationOk points = true) :
    { h with cal := Vector.ofFn fun n : Fin 9 => (points[n]).toNat, reseedPending := true }.Ok :=
  have ⟨top, mono⟩ := (calibrationOk_iff points).1 hp
  { ok with
    cal := fun n => by
      simp only [Vector.getElem_ofFn]
      exact mono n
    calTop := by
      simp only [Vector.getElem_ofFn]
      exact top 8 }

/-! ### Bad events -/

theorem Hinge.Ok.countBad (ok : h.Ok) (c : BadCause) : (h.countBad c).Ok :=
  { ok with streaks := ⟨Nat.zero_le _, Nat.min_le_left _ _⟩ }

/-- R11: entry to LOST from TRACKING. -/
theorem Hinge.Ok.lose (ok : h.Ok) (ht : h.input = .tracking) : { h with input := .lost, swinging := false }.Ok :=
  { ok with
    enabled := by simpa [ht] using ok.enabled
    swinging := fun hs => by cases hs
    sampling := .inr (.inr (by simp)) }

theorem Ev.badEvent_ok (e : Ev) (c : BadCause) (ok : e.s.hinge.Ok) : (e.badEvent c).s.hinge.Ok := by
  simp only [Ev.badEvent]
  split
  · next hl =>
    rw [Ev.leftTracking_hinge, Ev.raise_hinge, Ev.modHinge_hinge]
    exact Hinge.Ok.lose (ok.countBad c) hl.1
  · exact ok.countBad c

/-! ### Good frames -/

theorem Hinge.Ok.receiveGood (ok : h.Ok) {raw : Nat} (hraw : raw ≤ 16383) (field : Nat) (count : Fin 16) :
    (h.receiveGood raw field count).Ok :=
  { ok with
    streaks := ⟨Nat.min_le_left _ _, Nat.zero_le _⟩
    raw := hraw
    angle := (correctedAngle_bounds h.cal raw ⟨raw / 2048, by omega⟩ rfl ok.cal).2.trans ok.calTop }

/-- R12: a full re-seed takes the angle everywhere. -/
theorem Hinge.Ok.reseed (ok : h.Ok) : h.reseed.Ok :=
  { ok with
    acc := by
      have := ok.angle
      simp only [Hinge.reseed]
      omega
    filtered := ok.angle
    window := replicate_window_le ok.angle
    motion := Nat.zero_le _
    swinging := fun hs => by cases hs
    divider := Nat.zero_le _
    sampling := .inl ok.interval.1 }

/-- R5 step 5: a frame that enters TRACKING re-seeds. -/
theorem Hinge.Ok.enterTracking (ok : h.Ok) (hi : h.input ≠ .disabled) : { h with input := .tracking }.reseed.Ok :=
  { ok.reseed with
    enabled := by simpa [Hinge.reseed, hi] using ok.enabled
    swinging := fun hs => by cases hs
    sampling := .inl ok.interval.1 }

theorem Hinge.Ok.step (ok : h.Ok) : h.step.Ok :=
  have hacc : filterStep h.acc h.angle h.shift ≤ 57600 :=
    filterStep_le h.shift ok.acc (by have := ok.angle; omega)
  { ok with acc := hacc, filtered := filteredOf_le hacc }

theorem Hinge.Ok.refill (ok : h.Ok) : h.refill.Ok :=
  { ok with
    window := replicate_window_le ok.filtered
    divider := Nat.zero_le _
    sampling := .inl ok.interval.1 }

/-- R17: a sample leaves the divider below the interval. -/
theorem Hinge.sample_divider (hd : h.divider < h.interval) : h.sample.divider < h.sample.interval := by
  unfold Hinge.sample
  split
  · show 0 < h.interval
    omega
  · show h.divider + 1 < h.interval
    omega

theorem Hinge.Ok.sample (ok : h.Ok) (hd : h.divider < h.interval) : h.sample.Ok := by
  have hn := Hinge.sample_divider hd
  unfold Hinge.sample at hn ⊢
  split
  · exact { ok with
      window := pushWindow_le ok.window ok.filtered
      divider := Nat.zero_le _
      sampling := .inl ok.interval.1 }
  · next hne =>
    rw [if_neg hne] at hn
    exact { ok with
      divider := Nat.le_of_lt_succ (Nat.lt_of_lt_of_le hn ok.interval.2)
      sampling := .inl hn }

/-- R17: the motion measure is a difference of two angles, and only a tracking unit swings. -/
theorem Hinge.Ok.measure (ok : h.Ok) (ht : h.input = .tracking) : h.measure.Ok :=
  { ok with
    motion := by
      have hf := ok.filtered
      have hw : h.window[0] ≤ 3600 := ok.window 0
      simp only [Hinge.measure]
      omega
    swinging := fun _ => ht }

/-- R5 step 6: in TRACKING the unit stays in its ranges, and its divider falls below the interval, re-fill pending or not. -/
theorem Hinge.Ok.track (ok : h.Ok) (ht : h.input = .tracking) (entered gapSeen : Bool) :
    (h.track entered gapSeen).Ok ∧ (h.track entered gapSeen).divider < (h.track entered gapSeen).interval := by
  unfold Hinge.track
  split
  · exact ⟨ok.reseed, ok.interval.1⟩
  · split
    · exact ⟨ok.step.refill.measure ht, ok.interval.1⟩
    · next hr =>
      have hd : h.divider < h.interval := by simpa [hr, ht] using ok.sampling
      have hi : h.step.sample.input = .tracking := by
        unfold Hinge.sample
        split <;> exact ht
      exact ⟨(ok.step.sample hd).measure hi, Hinge.sample_divider hd⟩

/-- R12: a good frame drops the two pending marks. -/
theorem Hinge.Ok.clearPending (ok : h.Ok) (hd : h.divider < h.interval ∨ h.input ≠ .tracking) :
    { h with reseedPending := false, refillPending := false }.Ok :=
  { ok with sampling := hd.imp_right .inr }

theorem Hinge.entersTracking_input (he : h.entersTracking = true) : h.input = .acquiring ∨ h.input = .lost := by
  simp only [Hinge.entersTracking, Bool.and_eq_true, Bool.or_eq_true, beq_iff_eq] at he
  exact he.1

theorem Hinge.Ok.goodFrame (ok : h.Ok) {raw : Nat} (hraw : raw ≤ 16383) (field : Nat) (count : Fin 16) :
    (h.goodFrame raw field count).Ok := by
  have ok1 := ok.receiveGood hraw field count
  simp only [Hinge.goodFrame]
  by_cases he : (h.receiveGood raw field count).entersTracking = true
  · have hi : (h.receiveGood raw field count).input ≠ .disabled := by
      rcases Hinge.entersTracking_input he with h | h <;> simp [h]
    simp only [he, if_true, Hinge.track, Hinge.fullReseed, Bool.true_or]
    exact (ok1.enterTracking hi).clearPending (.inl ok.interval.1)
  · simp only [Bool.not_eq_true] at he
    simp only [he, Bool.false_eq_true, if_false]
    split
    · next ht =>
      obtain ⟨okt, hd⟩ := ok1.track ht false (h.expected.isSome && decide (Config.gapLimit ≤ (h.gap count).val))
      exact okt.clearPending (.inl hd)
    · next ht => exact ok1.clearPending (.inr ht)

end

/-- R5: what a good frame makes of the unit, whatever the classifier does with it. -/
theorem Ev.goodFrame_hinge (e : Ev) (raw field : Nat) (count : Fin 16) :
    (e.goodFrame raw field count).s.hinge = e.s.hinge.goodFrame raw field count := by
  simp only [Ev.goodFrame]
  split <;> split <;> simp

/-! ### Reception -/

theorem frameCode_le (w : BitVec 32) : frameCode w ≤ 16383 :=
  Nat.le_of_lt_succ (w.extractLsb' 10 14).isLt

/-- R2, R3: the silent timer restarts. -/
def Ev.restartSilent (e : Ev) : Ev := e.modHinge fun h => { h with silentTimer := some (e.s.after h.silentMs) }

/-- R4: a reception that fails a check is a bad event of that cause. -/
theorem Ev.arrival_bad (e : Ev) {r : Reception} {c : BadCause} (hc : receptionBadCause r = some c) :
    e.arrival r = e.restartSilent.badEvent c := by
  cases r <;> unfold Ev.arrival <;> rw [hc] <;> rfl

/-- R5: a frame that passes every check is a good frame of its fields. -/
theorem Ev.arrival_good (e : Ev) {w : BitVec 32} (hw : receptionBadCause (.frame w) = none) :
    e.arrival (.frame w) = e.restartSilent.goodFrame (frameCode w) (frameField w) (frameCount w) := by
  unfold Ev.arrival
  rw [hw]
  rfl

theorem Ev.arrival_ok (e : Ev) (r : Reception) (ok : e.s.hinge.Ok) : (e.arrival r).s.hinge.Ok := by
  have ok1 : e.restartSilent.s.hinge.Ok := ok.silent _
  cases hc : receptionBadCause r with
  | some c =>
    rw [e.arrival_bad hc]
    exact Ev.badEvent_ok _ c ok1
  | none =>
    cases r with
    | framingError => cases hc
    | frame w =>
      rw [e.arrival_good hc, Ev.goodFrame_hinge]
      exact ok1.goodFrame (frameCode_le w) _ _

theorem State.receive_ok (s : State) (r : Reception) (ok : s.hinge.Ok) : (s.receive r).hinge.Ok := by
  simp only [State.receive, Ev.done_hinge]
  refine Ev.arrival_ok _ r (ok.reception (recvAfter r) (fun l hl => ?_) none s.hinge.silentTimer)
  cases r <;> cases hl

theorem State.inFrame_ok (s : State) {bits : List Bool} (hb : bits.length ≤ 32) (ok : s.hinge.Ok) :
    (s.inFrame bits).hinge.Ok :=
  ok.reception (.inFrame bits) (fun l hl => by cases hl; exact hb) _ _

theorem State.frameCell_ok (s : State) (bits : List Bool) (v : Bool) (ok : s.hinge.Ok) :
    (s.frameCell bits v).hinge.Ok := by
  unfold State.frameCell
  split
  · next hb => exact s.inFrame_ok (by simpa using hb) ok
  · split
    · exact s.receive_ok _ ok
    · exact s.receive_ok _ ok

theorem State.takeFrame_ok (s : State) (j : Except Status Instr) (ok : s.hinge.Ok) : (s.takeFrame j).hinge.Ok := by
  unfold State.takeFrame
  split
  · exact ok
  · exact ok.softReset
  · exact ok

theorem State.resetRequest_ok (s : State) (ok : s.hinge.Ok) : s.resetRequest.hinge.Ok := by
  unfold State.resetRequest
  split
  · exact ok.softReset
  · exact ok.softReset
  · exact s.discard_inputs.hinge.symm ▸ ok
  · exact s.discard_inputs.hinge.symm ▸ ok

theorem Ev.disableInput_hinge (e : Ev) : e.disableInput.s.hinge = e.s.hinge.disable := by
  simp only [Ev.disableInput]
  split
  · exact Ev.leftTracking_hinge _ _
  · rfl

theorem ownHingeEnable_ok (value : Byte) (s : State) (ok : s.hinge.Ok) : (ownHingeEnable value s).1.hinge.Ok := by
  unfold ownHingeEnable
  split
  · exact ok
  · simp only
    split
    · next hd _ =>
      rw [Ev.done_hinge, Ev.enableInput, Ev.foldCheck_hinge]
      exact ok.enable (of_decide_eq_true hd) _
    · rw [Ev.done_hinge, Ev.disableInput_hinge]
      exact ok.disable
    · exact ok

theorem ownSetCalibration_ok (points : Vector Half 9) (s : State) (ok : s.hinge.Ok) :
    (ownSetCalibration points s).1.hinge.Ok := by
  unfold ownSetCalibration
  split
  · next hp => exact ok.calibrate hp
  · exact ok

/-! ### Every command -/

/-- The silent timer restarts, and a SILENT bad event is counted. -/
theorem State.silent_ok (s : State) (ok : s.hinge.Ok) :
    ((Ev.start s).restartSilent.badEvent .silent).done.hinge.Ok := by
  rw [Ev.done_hinge]
  exact Ev.badEvent_ok _ _ (ok.silent _)

theorem exec_hinge_ok (c : Instr) (s : State) (ok : s.hinge.Ok) : ∃ t, exec c s = .next t ∧ t.hinge.Ok := by
  cases hc : movesInputs c with
  | false =>
    obtain ⟨t, ht, same⟩ := exec_inputs hc s
    exact ⟨t, ht, same.hinge.symm ▸ ok⟩
  | true =>
    have kept {t : State} (h : t.hinge = s.hinge) : t.hinge.Ok := h.symm ▸ ok
    have owned {owner : State → State × Reply} (h : ∀ u, (owner u).1.hinge = u.hinge) :
        (s.runRequest c owner).hinge.Ok := s.runRequest_hinge (fun u hu => (h u).symm ▸ hu) c ok
    cases c
    case writeTransaction bytes n =>
      refine ⟨_, rfl, ?_⟩
      split
      · exact s.takeFrame_ok _ ok
      · exact s.takeFrame_ok _ ok
      · exact kept s.discard_inputs.hinge
      · exact kept s.discard_inputs.hinge
    case powerOnReset => exact ⟨_, rfl, (Hinge.powerOn_ok _).silent none⟩
    case powerOnResetEnd =>
      refine ⟨_, rfl, ?_⟩
      split
      · exact Hinge.powerOn_ok _
      · exact ok
    case softResetEnd =>
      refine ⟨_, rfl, ?_⟩
      split
      · exact ok.silent _
      · exact ok
    case reset => exact ⟨_, rfl, s.resetRequest_ok ok⟩
    case hingeEnable v => exact ⟨_, rfl, s.runRequest_hinge (ownHingeEnable_ok v) _ ok⟩
    case setCalibration points => exact ⟨_, rfl, s.runRequest_hinge (ownSetCalibration_ok points) _ ok⟩
    case setFilter k d m t l => exact ⟨_, rfl, s.runRequest_hinge (fun _ hu => hu.withFilter k d m t l) _ ok⟩
    case lineIdle =>
      refine ⟨_, rfl, ?_⟩
      split
      · exact ok.reception .ready (fun _ hl => by cases hl) _ _
      · exact ok
    case frameArrival r =>
      refine ⟨_, rfl, ?_⟩
      split
      · exact s.receive_ok r ok
      · exact ok
    case cellTimeout =>
      refine ⟨_, rfl, ?_⟩
      split
      · split
        · exact State.receive_ok _ _ ok
        · exact ok
      · exact ok
    case silentExpiry =>
      refine ⟨_, rfl, ?_⟩
      split
      · exact ok
      · exact State.silent_ok _ ok
    case hsnsCell n =>
      refine ⟨_, rfl, ?_⟩
      split
      · split
        · exact ok
        · split
          · exact s.receive_ok _ ok
          · exact s.inFrame_ok (Nat.zero_le _) ok
        · exact s.frameCell_ok _ _ ok
      · exact ok
    case dwellExpiry =>
      refine ⟨_, rfl, kept ?_⟩
      split
      · simp [Ev.start]
      · rfl
    case foldEdge level =>
      refine ⟨_, rfl, kept ?_⟩
      split
      · rfl
      · split <;> rfl
    case debounceExpiry =>
      refine ⟨_, rfl, kept ?_⟩
      split
      · rfl
      · simp [Ev.start]
    case setBands => exact ⟨_, rfl, owned (ownSetBands_hinge _ _ _ _ _ _)⟩
    case setSwitch => exact ⟨_, rfl, owned (ownSetSwitch_hinge _ _)⟩
    case forcePosture => exact ⟨_, rfl, owned (ownForcePosture_hinge _)⟩
    case setFront => exact ⟨_, rfl, owned (ownSetFront_hinge _)⟩
    case setSpan => exact ⟨_, rfl, owned (ownSetSpan_hinge _)⟩
    all_goals cases hc

theorem idle_hinge_ok (s : State) (ok : s.hinge.Ok) : ∃ t, idle s = .next t ∧ t.hinge.Ok := by
  unfold idle
  split
  · exact exec_hinge_ok _ s ok
  · exact ⟨_, rfl, ok⟩

theorem step_hinge_ok (s : State) (ok : s.hinge.Ok) : ∃ t, step s = .next t ∧ t.hinge.Ok := by
  unfold step
  split
  · exact idle_hinge_ok s ok
  · exact exec_hinge_ok _ _ ok

/-- Settles O7: each command keeps the ranges, and so does the idle step. -/
theorem hingeRangesKept : Obligations.HingeRangesKept := by
  intro s t ok ht
  obtain ⟨u, hu, oku⟩ := step_hinge_ok s ok
  rw [ht] at hu
  cases hu
  exact oku

end Sys2Proof.Machine
end

section
/-! SUPPORT. The resets: what a power-on reset and a soft reset leave, and the invariants at State.reset. -/

namespace Sys2Proof.Machine

/-! ### The state a power-on reset leaves -/

section
variable (now : Nat) (raw : Bool) (waiting : List Instr)

@[simp] theorem State.powerOn_entry (i : Fin 40) : (State.powerOn now raw waiting).entry i = .free := by
  simp [State.powerOn, State.entry, Table.powerOn]

@[simp] theorem State.powerOn_gen (i : Fin 40) : (State.powerOn now raw waiting).gen i = 0 := by
  simp [State.powerOn, State.gen, Table.powerOn]

@[simp] theorem State.powerOn_slot (k : Fin 16) : (State.powerOn now raw waiting).slot k = .free := by
  simp [State.powerOn, State.slot]

@[simp] theorem State.powerOn_panel (p : PanelId) : (State.powerOn now raw waiting).panel p = .powerOn := by
  cases p <;> rfl

theorem State.powerOn_rule (n : Fin 16) : (State.powerOn now raw waiting).rules[n] = .powerOn := by
  simp [State.powerOn]

end

/-! ### The invariants at State.reset -/

theorem Link.powerOn_ok : Link.powerOn.Ok where
  idle _ := ⟨rfl, rfl, rfl⟩
  executing h := by cases h
  ready h := by cases h
  resetting h := by cases h
  sum _ h := by cases h
  position := Nat.le_refl 0

theorem Classifier.powerOn_ok (now : Nat) (raw : Bool) : (Classifier.powerOn now raw).Ok := by
  constructor <;> simp [Classifier.powerOn]

theorem Shared.powerOn_ok : Shared.powerOn.Ok := by
  constructor <;> decide

theorem Panel.powerOn_ok : Panel.powerOn.Ok := by
  constructor <;> simp [Panel.powerOn, Panel.inService]

theorem State.reset_switchOk : State.reset.SwitchOk where
  untrusted h := by cases h
  agreeing h := by cases h
  dwell h := absurd rfl h

theorem State.reset_record? (i : Fin 40) : State.reset.record? i = none := by
  simp [State.record?, State.reset, TableSlot.record?]

theorem State.reset_queueOk : State.reset.QueueOk where
  room := Nat.zero_le 16
  distinct := List.nodup_nil
  moving i := by
    have hq : State.reset.queue = [] := rfl
    simp [State.reset_record?, hq]

theorem State.reset_slotsOk : State.reset.SlotsOk where
  service k hk := by simp [State.reset, LayerSlot.isFree] at hk
  lent := .inl rfl

/-- Settles O5: each block's reset values lie in that block's ranges, and no record, job or layer slot is in use. -/
theorem resetMeetsTheInvariants : Obligations.ResetMeetsTheInvariants := by
  refine ⟨Link.powerOn_ok, Hinge.powerOn_ok 0, Classifier.powerOn_ok 0 false, Shared.powerOn_ok, State.reset_switchOk,
    State.reset_queueOk, State.reset_slotsOk, fun i r hr => ?_, fun hj => absurd rfl hj, fun p => ?_⟩
  · rw [State.reset_record?] at hr
    cases hr
  · rw [State.reset, State.powerOn_panel]
    exact Panel.powerOn_ok

/-! ### The low phase of RST_N -/

theorem State.rstLow_iff (s : State) : s.rstLow = true ↔ s.link.state = .resetting ∧ s.link.reset = some .held := by
  simp [State.rstLow]

/-- R176: a request's command is the link's handling of that request, with its owner. -/
theorem exec_request {c : Instr} (hc : isRequest c = true) (s : State) :
    ∃ owner, exec c s = .next (s.runRequest c owner) := by
  cases c
  all_goals cases hc
  all_goals exact ⟨_, rfl⟩

theorem State.turn.not_low {s : State} {c : Instr} (h : s.turn c) : s.rstLow = false := by
  rcases h with h | ⟨h, _⟩
  · exact h.not_low
  · simp [State.rstLow, h]

/-- R180: no transaction and no request is taken while RST_N is low, and SDO is released. -/
theorem State.low_takes_nothing {s : State} (h : s.rstLow = true) :
    (∀ bytes n, Answers (.writeTransaction bytes n) s s) ∧ (∀ b n, Answers (.readTransaction b n) s s) ∧
      Answers .reset s s ∧ (∀ c, isRequest c = true → Answers c s s) ∧ Answers .powerOnResetEnd s s ∧
      ∀ t m, s.sdoLine t m = .released := by
  obtain ⟨hstate, hkind⟩ := s.rstLow_iff.1 h
  refine ⟨fun bytes n => ?_, fun b n => ?_, ?_, fun c hc => ?_, ?_, fun t m => ?_⟩
  · simp [Answers, exec, execWriteTransaction, hstate, State.discard_low h]
  · simp [Answers, exec, execReadTransaction, h]
  · simp [Answers, exec, execReset, State.resetRequest, hstate, State.discard_low h]
  · obtain ⟨owner, he⟩ := exec_request hc s
    have hturn : ¬s.turn c := fun ht => by simp [ht.not_low] at h
    rw [Answers, he, State.runRequest_busy hturn, State.discard_low h]
  · simp [Answers, exec, execPowerOnResetEnd, hkind]
  · simp [State.sdoLine, h]

theorem FlagSet.empty_meets (m : FlagSet) : FlagSet.empty.meets m = false := by
  simp [FlagSet.meets, FlagSet.empty]

theorem powerOnResetEnd_answers {s : State} (hstate : s.link.state = .resetting) (hkind : s.link.reset = some .powerOn) :
    Answers .powerOnResetEnd s (State.powerOn s.now s.posture.rawLevel s.pending) := by
  simp [Answers, exec, execPowerOnResetEnd, hstate, hkind]

/-- Settles O3: `State.beginPowerOn` at each edge of RST_N, `State.powerOn` at the end of the reset. -/
theorem powerOnResetValues : Obligations.PowerOnResetValues := by
  refine ⟨fun s => ⟨s.beginPowerOn s.rstLow, rfl, s.beginPowerOn_rstLow s.rstLow, rfl, rfl, rfl, rfl, rfl,
      FlagSet.empty_meets _, rfl, rfl, rfl⟩, fun s h => State.low_takes_nothing h, fun s hstate hkind => ?_,
    fun s hnot => ?_, fun s hstate hkind hnow hraw hwaiting => ?_⟩
  · refine ⟨_, powerOnResetEnd_answers hstate hkind, rfl, rfl, rfl, rfl, fun i => ⟨?_, ?_⟩, rfl, rfl, rfl,
      fun n => State.powerOn_rule _ _ _ n, fun p => State.powerOn_panel _ _ _ p, rfl,
      fun k => State.powerOn_slot _ _ _ k, rfl, rfl, rfl, rfl, rfl, rfl, rfl⟩
    · exact State.powerOn_entry _ _ _ i
    · exact State.powerOn_gen _ _ _ i
  · simp only [Answers, exec, execPowerOnResetEnd, if_neg hnot]
  · have h := powerOnResetEnd_answers hstate hkind
    rwa [hnow, hraw, hwaiting] at h

/-! ### The soft reset -/

theorem TableSlot.isFree_iff (e : TableSlot) : e.isFree = true ↔ e = .free := by
  cases e <;> simp [TableSlot.isFree]

theorem reset_answers {s : State} (h : s.accepting) : Answers .reset s s.beginSoftReset := by
  rcases h with h | h <;> simp [Answers, exec, execReset, State.resetRequest, h]

/-- R71: every record slot is FREE, and the generation of each slot that held a record advanced. -/
theorem State.beginSoftReset_entry (s : State) (i : Fin 40) :
    s.beginSoftReset.entry i = .free ∧
      s.beginSoftReset.gen i = if s.entry i = .free then s.gen i else s.gen i + 1 := by
  constructor
  · simp [State.beginSoftReset, State.entry, Table.softReset]
  · have hgen : s.beginSoftReset.gen i = if (s.entry i).isFree then s.gen i else s.gen i + 1 := by
      simp only [State.beginSoftReset, State.gen, Table.softReset, Fin.getElem_fin, Vector.getElem_ofFn]
      rfl
    rw [hgen]
    by_cases h : s.entry i = .free
    · rw [if_pos h, if_pos ((TableSlot.isFree_iff _).2 h)]
    · rw [if_neg h, if_neg (mt (TableSlot.isFree_iff _).1 h)]

theorem State.beginSoftReset_slot (s : State) (k : Fin 16) : s.beginSoftReset.slot k = .free := by
  simp [State.beginSoftReset, State.slot]

theorem State.beginSoftReset_panel (s : State) (p : PanelId) :
    s.beginSoftReset.panel p = (s.panel p).softReset (s.timerFor s.shared.tOff) := by
  cases p <;> rfl

/-- Times are counted in steps of 1000 µs. -/
theorem State.after_eq (s : State) (ms : Nat) : s.after ms = s.now + 1000 * ms :=
  congrArg (s.now + ·) (Nat.mul_comm ms 1000)

theorem State.timerFor_eq (s : State) (ms : Nat) :
    s.timerFor ms = if ms = 0 then none else some (s.now + 1000 * ms) := by
  rw [State.timerFor, State.after_eq]

/-- Settles O4: `State.beginSoftReset` at RESET, and the two timers, RESET_DONE and the idle link at the end. -/
theorem softReset : Obligations.SoftReset := by
  refine ⟨fun s h => ⟨_, reset_answers h, rfl, rfl, rfl, rfl, rfl, rfl, rfl, rfl, s.beginSoftReset_slot,
      s.beginSoftReset_entry, rfl, rfl, rfl, rfl, fun p => ?_, rfl, rfl⟩, fun s hstate hkind => ?_, fun s hnot => ?_⟩
  · rw [State.beginSoftReset_panel, State.timerFor_eq]
    rfl
  · simp only [Answers, exec, execSoftResetEnd, if_pos (And.intro hstate hkind), State.endSoftReset, State.startTimers,
      State.after_eq]
    rfl
  · simp only [Answers, exec, execSoftResetEnd, if_neg hnot]

end Sys2Proof.Machine
end

section
/-! SUPPORT. The requests of the Hinge Input Unit and of the bands: what each answers in its turn. -/

namespace Sys2Proof.Machine

/-- In its turn a request leaves what its owner makes of the state handed over, with the owner's answer. -/
theorem answers_of_owner {s : State} {c : Instr} {owner : State → State × Reply} (h : s.turn c)
    (hc : exec c s = .next (s.runRequest c owner)) {t : State} {r : Reply} (ho : owner (s.handed c) = (t, r)) :
    Answers c s (t.answered r.status r.payload) := by
  rw [Answers, hc, State.runRequest_turn h, ho]

/-- A refused request changes nothing (R176). -/
theorem answers_refused {s : State} {c : Instr} {owner : State → State × Reply} (h : s.turn c)
    (hc : exec c s = .next (s.runRequest c owner)) {st : Status} (ho : owner (s.handed c) = refuse (s.handed c) st) :
    Answers c s (s.answered st []) := by
  have ha := answers_of_owner h hc ho
  rwa [State.handed_answered] at ha

/-! ### READ_HINGE -/

theorem byteOfBits_pair (a b : Bool) : byteOfBits [a, b] = (if a then 1 else 0) ||| (if b then 2 else 0) := by
  cases a <;> cases b <;> decide

/-- Settles O22: the owner reports the unit's fields, its two indications as bits of one byte, and changes nothing. -/
theorem readHingeReports : Obligations.ReadHingeReports := by
  intro s h
  have ha := answers_of_owner (owner := fun s => report s s.hinge.report) h rfl rfl
  rw [State.handed_answered, State.handed_hinge, Hinge.report, byteOfBits_pair] at ha
  exact ha

/-! ### SET_CALIBRATION, SET_FILTER and SET_BANDS -/

/-- A change of the hinge unit is answered alike before and after the frame is taken. -/
theorem State.handed_setHinge_answered (s : State) (c : Instr) (h : Hinge) (st : Status) (payload : List Byte) :
    { s.handed c with hinge := h }.answered st payload = { s with hinge := h }.answered st payload := by
  simp [State.answered]

/-- A change of the classifier is answered alike before and after the frame is taken. -/
theorem State.handed_setPosture_answered (s : State) (c : Instr) (p : Classifier) (st : Status) (payload : List Byte) :
    { s.handed c with posture := p }.answered st payload = { s with posture := p }.answered st payload := by
  simp [State.answered]

theorem setCalibration_taken {s : State} {points : Vector Half 9} (h : s.turn (.setCalibration points))
    (hp : calibrationOk points = true) :
    Answers (.setCalibration points) s ({ s with hinge := { s.hinge with
      cal := Vector.ofFn fun n : Fin 9 => (points[n]).toNat, reseedPending := true } }.answered .ok []) := by
  have ha := answers_of_owner h rfl (if_pos hp)
  rwa [State.handed_setHinge_answered, State.handed_hinge] at ha

theorem setCalibration_refused {s : State} {points : Vector Half 9} (h : s.turn (.setCalibration points))
    (hp : ¬calibrationOk points = true) : Answers (.setCalibration points) s (s.answered .badValue []) :=
  answers_refused h rfl (if_neg hp)

/-- R20: the settings of SET_FILTER, with the clamps that a byte can meet. -/
theorem Hinge.withFilter_eq (h : Hinge) (shift interval threshold silent limit : Byte) :
    h.withFilter shift interval threshold silent limit = { h with
      shift := min 5 shift.toNat, interval := max 1 (min 32 interval.toNat), threshold := max 1 threshold.toNat
      silentMs := max 2 (min 20 silent.toNat), badLimit := max 2 (min 32 limit.toNat)
      refillPending := h.refillPending || decide (max 1 (min 32 interval.toNat) ≠ h.interval) } := by
  have hshift : clamp 0 5 shift.toNat = min 5 shift.toNat := Nat.zero_max _
  have hthreshold : clamp 1 255 threshold.toNat = max 1 threshold.toNat := by
    rw [clamp, Nat.min_eq_right (Nat.le_of_lt_succ threshold.isLt)]
  simp only [Hinge.withFilter, hshift, hthreshold]
  rfl

theorem setFilter_taken {s : State} {shift interval threshold silent limit : Byte}
    (h : s.turn (.setFilter shift interval threshold silent limit)) :
    Answers (.setFilter shift interval threshold silent limit) s
      ({ s with hinge := s.hinge.withFilter shift interval threshold silent limit }.answered .ok
        [byteOf (s.hinge.withFilter shift interval threshold silent limit).shift,
          byteOf (s.hinge.withFilter shift interval threshold silent limit).interval,
          byteOf (s.hinge.withFilter shift interval threshold silent limit).threshold,
          byteOf (s.hinge.withFilter shift interval threshold silent limit).silentMs,
          byteOf (s.hinge.withFilter shift interval threshold silent limit).badLimit]) := by
  have ha := answers_of_owner (owner := ownSetFilter shift interval threshold silent limit) h rfl rfl
  rwa [State.handed_setHinge_answered, State.handed_hinge] at ha

/-- R39: what SET_BANDS takes. -/
theorem bandsOk_iff (b1 b2 b3 b4 h : Nat) :
    bandsOk b1 b2 b3 b4 h = true ↔ 0 < b1 ∧ b1 < b2 ∧ b2 < b3 ∧ b3 < b4 ∧ b4 < 3600 ∧ h ≤ 200 ∧ 2 * h < b1 ∧
      2 * h < b2 - b1 ∧ 2 * h < b3 - b2 ∧ 2 * h < b4 - b3 ∧ 2 * h < 3600 - b4 := by
  simp only [bandsOk, Bool.and_eq_true, decide_eq_true_eq, and_assoc]

theorem setBands_taken {s : State} {b1 b2 b3 b4 margin dwell : Half} (h : s.turn (.setBands b1 b2 b3 b4 margin dwell))
    (hb : bandsOk b1.toNat b2.toNat b3.toNat b4.toNat margin.toNat = true) :
    Answers (.setBands b1 b2 b3 b4 margin dwell) s ({ s with posture := { s.posture with
      b1 := b1.toNat, b2 := b2.toNat, b3 := b3.toNat, b4 := b4.toNat, margin := margin.toNat
      dwellMs := min 1000 dwell.toNat, dwell := .idle, candidate := s.posture.committed } }.answered .ok
        (halfBytes b1 ++ halfBytes b2 ++ halfBytes b3 ++ halfBytes b4 ++ halfBytes margin ++
          natHalf (min 1000 dwell.toNat))) := by
  have ha := answers_of_owner h rfl (if_pos hb)
  rwa [State.handed_setPosture_answered, State.handed_posture] at ha

theorem setBands_refused {s : State} {b1 b2 b3 b4 margin dwell : Half} (h : s.turn (.setBands b1 b2 b3 b4 margin dwell))
    (hb : ¬bandsOk b1.toNat b2.toNat b3.toNat b4.toNat margin.toNat = true) :
    Answers (.setBands b1 b2 b3 b4 margin dwell) s (s.answered .badValue []) :=
  answers_refused h rfl (if_neg hb)

/-- Settles O29: each of the three owners takes its values or refuses them. -/
theorem hingeAndBandSettings : Obligations.HingeAndBandSettings := by
  refine ⟨fun s points h => ⟨fun top mono => ?_, fun bad => ?_⟩, fun s shift interval threshold silent limit h => ?_,
    fun s b1 b2 b3 b4 margin dwell a1 a2 a3 a4 m h h1 h2 h3 h4 hm => ?_⟩
  · exact setCalibration_taken h ((calibrationOk_iff points).2 ⟨top, mono⟩)
  · exact setCalibration_refused h (mt (calibrationOk_iff points).1 bad)
  · intro k d m t n hk hd hm ht hn
    have ha := setFilter_taken h
    rw [Hinge.withFilter_eq] at ha
    subst hk hd hm ht hn
    exact ha
  · subst h1 h2 h3 h4 hm
    exact ⟨fun ok => setBands_taken h ((bandsOk_iff _ _ _ _ _).2 ok),
      fun bad => setBands_refused h (mt (bandsOk_iff _ _ _ _ _).1 bad)⟩

/-! ### HINGE_ENABLE -/

theorem boolOfByte_of_two_le {b : Byte} (h : 2 ≤ b.toNat) : boolOfByte b = none := by
  unfold boolOfByte
  split
  · omega
  · omega
  · rfl

/-- R18: the state already in force. -/
theorem ownHingeEnable_same {b : Byte} {u : State}
    (h : b = 1 ∧ u.hinge.input ≠ .disabled ∨ b = 0 ∧ u.hinge.input = .disabled) :
    ownHingeEnable b u = (u, ⟨.ok, [u.hinge.input.code]⟩) := by
  rcases h with ⟨rfl, hi⟩ | ⟨rfl, hi⟩
  · simp [ownHingeEnable, boolOfByte, hi]
  · simp [ownHingeEnable, boolOfByte, hi]

/-- R9: HINGE_ENABLE on, from DISABLED. -/
theorem ownHingeEnable_on {u : State} (hi : u.hinge.input = .disabled) :
    ownHingeEnable 1 u = ((Ev.start u).enableInput.done, ⟨.ok, [1]⟩) := by
  have hcode : (Ev.start u).enableInput.s.hinge.input.code = 1 := by
    rw [Ev.enableInput, Ev.foldCheck_hinge]
    rfl
  simpa [ownHingeEnable, boolOfByte, hi] using hcode

/-- R8: HINGE_ENABLE off, from a state other than DISABLED. -/
theorem ownHingeEnable_off {u : State} (hi : u.hinge.input ≠ .disabled) :
    ownHingeEnable 0 u = ((Ev.start u).disableInput.done, ⟨.ok, [0]⟩) := by
  have hcode : (Ev.start u).disableInput.s.hinge.input.code = 0 := by
    rw [Ev.disableInput_hinge]
    rfl
  simpa [ownHingeEnable, boolOfByte, hi] using hcode

/-- R29: what the classifier keeps of a posture when the input is disabled. -/
def Classifier.inputDisabled (c : Classifier) (wasTracking : Bool) : Classifier :=
  if wasTracking then { c with dwell := .idle, candidate := c.committed, disagreement := false }
  else { c with disagreement := false }

/-- R8, R29: entry to DISABLED changes the two input blocks and leaves nothing more to do. -/
theorem Ev.disableInput_start (u : State) :
    (Ev.start u).disableInput = Ev.start { u with
      hinge := u.hinge.disable, posture := u.posture.inputDisabled (decide (u.hinge.input = .tracking)) } := by
  by_cases ht : u.hinge.input = .tracking
  · simp [Ev.disableInput, Ev.start, ht, Classifier.inputDisabled, Ev.leftTracking, Ev.modPosture, Ev.modHinge, Ev.mod,
      Hinge.disable]
  · simp [Ev.disableInput, Ev.start, ht, Classifier.inputDisabled, Ev.modPosture, Ev.modHinge, Ev.mod, Hinge.disable]

/-- Settles O34: the owner's four cases; on and off are an event that ends. -/
theorem hingeEnableRequest : Obligations.HingeEnableRequest := by
  intro s b h
  have own : exec (.hingeEnable b) s = .next (s.runRequest (.hingeEnable b) (ownHingeEnable b)) := rfl
  refine ⟨fun hb => ?_, fun same => ?_, fun e hb hi he => ?_, fun v hb hi hv => ?_⟩
  · exact answers_refused h own (by rw [ownHingeEnable, boolOfByte_of_two_le hb])
  · have ha := answers_of_owner h own (ownHingeEnable_same (u := s.handed (.hingeEnable b)) (by simpa using same))
    rwa [State.handed_answered, State.handed_hinge] at ha
  · subst hb
    refine ⟨e.done_frame, ?_⟩
    have ha := answers_of_owner h own (ownHingeEnable_on (by simpa using hi))
    have hevent : (Ev.start (s.handed (.hingeEnable 1))).enableInput = e := by
      rw [he]
      simp [Ev.enableInput, Ev.start, Ev.modHinge, Ev.mod, State.after, Config.msUs]
    rwa [hevent] at ha
  · subst hb
    refine ⟨v.settled_frame, ?_⟩
    have ha := answers_of_owner h own (ownHingeEnable_off (by simpa using hi))
    have hevent : (Ev.start (s.handed (.hingeEnable 0))).disableInput = Ev.start v := by
      rw [hv, Ev.disableInput_start]
      simp [Classifier.inputDisabled, Hinge.disable]
    rwa [hevent] at ha

end Sys2Proof.Machine
end

section
/-! SUPPORT. The sensor line: cells and frame arrivals, good frames whole, bad events whole. -/

namespace Sys2Proof.Machine

/-! ### Cells -/

theorem State.sensing_iff (s : State) : s.sensing = true ↔ s.hinge.enabled = true ∧ s.link.state ≠ .resetting := by
  simp [State.sensing]

/-- The bits of a frame, read from the last received one up. -/
theorem frameBits_reverse (l : List Bool) (j : Nat) (hj : j < 32) : (frameBits l.reverse).getLsbD j = l.getD j false := by
  induction l generalizing j with
  | nil => simp [frameBits]
  | cons b l ih =>
    have hstep : frameBits (b :: l).reverse = (frameBits l.reverse <<< 1) ||| (if b then 1 else 0) := by
      simp [frameBits]
    rw [hstep]
    cases j with
    | zero => cases b <;> simp
    | succ j =>
      have hb : (if b then 1 else 0 : BitVec 32).getLsbD (j + 1) = false := by
        cases b <;> simp
      rw [BitVec.getLsbD_or, hb, BitVec.getLsbD_shiftLeft]
      simp [hj, ih j (by omega)]

/-- R1: 32 bits, the first received the most significant, spell one word. -/
theorem frameBits_eq {bits : List Bool} {w : BitVec 32} (hlen : bits.length = 32)
    (hw : ∀ i : Fin 32, w.getLsbD (31 - i.val) = bits.getD i.val false) : frameBits bits = w := by
  apply BitVec.eq_of_getLsbD_eq
  intro j hj
  have hrev := frameBits_reverse bits.reverse j hj
  have hbit := hw ⟨31 - j, by omega⟩
  have hsub : 31 - (31 - j) = j := by omega
  rw [List.reverse_reverse] at hrev
  rw [hrev]
  simp only [hsub] at hbit
  rw [hbit, List.getD_eq_getElem _ _ (by simpa [hlen] using hj), List.getD_eq_getElem _ _ (by omega), List.getElem_reverse]
  congr 1
  omega

section
variable {s : State}

theorem frameArrival_answers (hs : s.sensing = true) (hr : s.hinge.recv ≠ .idleWait) (r : Reception) :
    Answers (.frameArrival r) s (s.receive r) := by
  simp [Answers, exec, execFrameArrival, hs, hr]

/-- A start cell that is a 1 ends reception with a framing error. -/
theorem hsnsCell_ready_one (hs : s.sensing = true) (hr : s.hinge.recv = .ready) {n : Nat} (hn : Config.cellOneNs ≤ n) :
    Answers (.hsnsCell n) s (s.receive .framingError) := by
  simp [Answers, exec, execHsnsCell, hs, hr, hn]

/-- A start cell that is a 0 begins a frame. -/
theorem hsnsCell_ready_zero (hs : s.sensing = true) (hr : s.hinge.recv = .ready) {n : Nat} (hn : n < Config.cellOneNs) :
    Answers (.hsnsCell n) s (s.inFrame []) := by
  simp [Answers, exec, execHsnsCell, hs, hr, Nat.not_le.2 hn]

theorem hsnsCell_bit (hs : s.sensing = true) {bits : List Bool} (hr : s.hinge.recv = .inFrame bits)
    (hb : bits.length < 32) (n : Nat) : Answers (.hsnsCell n) s (s.inFrame (bits ++ [decide (Config.cellOneNs ≤ n)])) := by
  simp [Answers, exec, execHsnsCell, hs, hr, State.frameCell, hb]

/-- A stop cell that is a 1 ends reception with the frame. -/
theorem hsnsCell_stop_one (hs : s.sensing = true) {bits : List Bool} (hr : s.hinge.recv = .inFrame bits)
    (hb : bits.length = 32) {n : Nat} (hn : Config.cellOneNs ≤ n) :
    Answers (.hsnsCell n) s (s.receive (.frame (frameBits bits))) := by
  simp [Answers, exec, execHsnsCell, hs, hr, State.frameCell, hb, hn]

/-- A stop cell that is a 0 ends reception with a framing error. -/
theorem hsnsCell_stop_zero (hs : s.sensing = true) {bits : List Bool} (hr : s.hinge.recv = .inFrame bits)
    (hb : bits.length = 32) {n : Nat} (hn : n < Config.cellOneNs) : Answers (.hsnsCell n) s (s.receive .framingError) := by
  simp [Answers, exec, execHsnsCell, hs, hr, State.frameCell, hb, Nat.not_le.2 hn]

/-- No cell is taken while the input is DISABLED or a reset is under way. -/
theorem not_sensing_answers (hs : s.sensing = false) :
    Answers .lineIdle s s ∧ Answers .cellTimeout s s ∧ (∀ n, Answers (.hsnsCell n) s s) ∧
      ∀ r, Answers (.frameArrival r) s s := by
  simp [Answers, exec, execLineIdle, execCellTimeout, execHsnsCell, execFrameArrival, hs]

end

/-- Settles O47: each receive state by the value of the cell. -/
theorem sensorLine : Obligations.SensorLine := by
  refine ⟨fun s hen hlink => ?_, fun s h => ?_⟩
  · have hs := s.sensing_iff.2 ⟨hen, hlink⟩
    have arrives {r : RecvState} (hr : s.hinge.recv = r) (hne : r ≠ .idleWait) := frameArrival_answers hs (hr ▸ hne)
    refine ⟨fun hr => ⟨?_, fun n => ?_⟩, fun hr => ?_, fun n hr hn => hsnsCell_ready_zero hs hr hn, fun n hr hn => ?_,
      fun n bits hr hb => hsnsCell_bit hs hr hb n, fun n bits w hr hb hn hw => ?_, fun n bits hr hb hn => ?_⟩
    · simp [Answers, exec, execLineIdle, hs, hr]
    · simp [Answers, exec, execHsnsCell, hs, hr]
    · simp [Answers, exec, execLineIdle, hr]
    · exact ⟨_, arrives hr (by simp) _, hsnsCell_ready_one hs hr hn⟩
    · exact ⟨_, arrives hr (by simp) _, frameBits_eq hb hw ▸ hsnsCell_stop_one hs hr hb hn⟩
    · exact ⟨_, arrives hr (by simp) _, hsnsCell_stop_zero hs hr hb hn⟩
  · refine not_sensing_answers (Bool.eq_false_iff.2 fun hs => ?_)
    obtain ⟨hen, hlink⟩ := s.sensing_iff.1 hs
    rcases h with h | h
    · simp [h] at hen
    · exact hlink h

end Sys2Proof.Machine
end

section
/-! SUPPORT. Good frames and bad events whole: what they make of the hinge unit, the attention flags and the classifier. -/

namespace Sys2Proof.Machine

/-! ### What a good frame makes of the unit -/

section
variable (h : Hinge) (raw field : Nat) (count : Fin 16)

/-- R5 step 5: the unit is in TRACKING after a good frame. -/
def Hinge.tracksNext : Bool :=
  decide (h.input = .tracking ∨ (h.input = .acquiring ∨ h.input = .lost) ∧ min 255 (h.good + 1) = 4)

/-- R7: a good frame shows that frames were missed. -/
def Hinge.gapSeen : Bool := h.expected.isSome && decide (Config.gapLimit ≤ (h.gap count).val)

/-- R12: a good frame in TRACKING makes a full re-seed: it entered TRACKING, a calibration change waits, or frames were missed. -/
def Hinge.reseedsNext : Bool :=
  decide (h.input ≠ .tracking ∨ h.reseedPending = true ∨ h.expected.isSome = true ∧ 4 ≤ (h.gap count).val)

/-- The unit with the frame's values taken and its input state as the frame leaves it. -/
def Hinge.received : Hinge :=
  { h.receiveGood raw field count with input := if h.tracksNext then .tracking else h.input }

/-- R5 step 6: what the filter and the motion window make of a unit, in TRACKING. -/
def Hinge.filtering (refill : Bool) : Hinge := if refill then h.step.refill.measure else h.step.sample.measure

/-- R5 step 6: what follows the taking of a frame's values: nothing outside TRACKING, a full re-seed or a filter step in it. -/
def Hinge.processed (tracks reseeds refill : Bool) : Hinge :=
  if tracks then if reseeds then h.reseed else h.filtering refill else h

/-- R12: the pending marks are dropped. -/
def Hinge.clearPending : Hinge := { h with reseedPending := false, refillPending := false }

theorem Hinge.entersTracking_iff :
    (h.receiveGood raw field count).entersTracking = true ↔
      (h.input = .acquiring ∨ h.input = .lost) ∧ min 255 (h.good + 1) = 4 := by
  simp [Hinge.entersTracking, Hinge.receiveGood, Config.streakMax, Config.goodRun]

theorem Hinge.received_input : (h.received raw field count).input = .tracking ↔ h.tracksNext = true := by
  simp only [Hinge.received]
  split
  · next ht => simp [ht]
  · next ht =>
    simp only [ht]
    simp only [Hinge.tracksNext, decide_eq_true_eq, not_or] at ht
    simp [ht.1]

/-- R5 step 5: the input state changes when the frame enters TRACKING. -/
theorem Hinge.received_eq :
    h.received raw field count =
      if (h.receiveGood raw field count).entersTracking then { h.receiveGood raw field count with input := .tracking }
      else h.receiveGood raw field count := by
  have hiff := h.entersTracking_iff raw field count
  split
  · next he => simp [Hinge.received, Hinge.tracksNext, hiff.1 he]
  · next he =>
    have hcond := mt hiff.2 he
    by_cases ht : h.input = .tracking
    · simp [Hinge.received, Hinge.tracksNext, ht, Hinge.receiveGood]
    · simp [Hinge.received, Hinge.tracksNext, ht, hcond, Hinge.receiveGood]

/-- R12: in TRACKING, a frame that entered it is one that came in another state. -/
theorem Hinge.fullReseed_received (ht : h.tracksNext = true) :
    (h.received raw field count).fullReseed (h.receiveGood raw field count).entersTracking (h.gapSeen count) =
      h.reseedsNext count := by
  have hiff := h.entersTracking_iff raw field count
  have hentered : (h.receiveGood raw field count).entersTracking = true ↔ h.input ≠ .tracking := by
    rw [hiff]
    simp only [Hinge.tracksNext, decide_eq_true_eq] at ht
    constructor
    · rintro ⟨hi | hi, _⟩ <;> simp [hi]
    · exact ht.resolve_left
  have hmark : (h.received raw field count).reseedPending = h.reseedPending := rfl
  rw [Bool.eq_iff_iff]
  simp only [Hinge.fullReseed, Hinge.gapSeen, Hinge.reseedsNext, hmark, Bool.or_eq_true, Bool.and_eq_true,
    decide_eq_true_eq, hentered, or_assoc]
  rfl

/-- R5: a good frame by its three cases: not in TRACKING, a full re-seed, and a filter step. -/
theorem Hinge.goodFrame_eq :
    h.goodFrame raw field count =
      ((h.received raw field count).processed h.tracksNext (h.reseedsNext count) h.refillPending).clearPending := by
  have hdef : h.goodFrame raw field count =
      (if (h.received raw field count).input = .tracking then
        (h.received raw field count).track (h.receiveGood raw field count).entersTracking (h.gapSeen count)
      else h.received raw field count).clearPending := by
    rw [Hinge.received_eq]
    rfl
  rw [hdef, Hinge.processed]
  by_cases ht : h.tracksNext = true
  · rw [if_pos ((h.received_input raw field count).2 ht), if_pos ht, Hinge.track, h.fullReseed_received raw field count ht]
    rfl
  · rw [if_neg (mt (h.received_input raw field count).1 ht), if_neg ht]

/-- What a re-seed and a filter step leave alone. -/
theorem Hinge.processed_frame (tracks reseeds refill : Bool) :
    h.processed tracks reseeds refill = { h with
      acc := (h.processed tracks reseeds refill).acc, filtered := (h.processed tracks reseeds refill).filtered
      window := (h.processed tracks reseeds refill).window, divider := (h.processed tracks reseeds refill).divider
      motion := (h.processed tracks reseeds refill).motion
      swinging := (h.processed tracks reseeds refill).swinging } := by
  unfold Hinge.processed Hinge.filtering Hinge.sample
  split
  · split
    · rfl
    · split
      · rfl
      · split <;> rfl
  · rfl

/-- What a good frame takes in every case, and what it leaves alone in every case. -/
theorem Hinge.goodFrame_frame :
    h.goodFrame raw field count = { h with
      input := if h.tracksNext then .tracking else h.input
      lastGap := h.gap count, expected := some (count + 1), marginal := decide (field ≠ 0)
      good := min 255 (h.good + 1), bad := 0, lastRaw := raw, angle := correctedAngle h.cal raw
      reseedPending := false, refillPending := false
      acc := (h.goodFrame raw field count).acc, filtered := (h.goodFrame raw field count).filtered
      window := (h.goodFrame raw field count).window, divider := (h.goodFrame raw field count).divider
      motion := (h.goodFrame raw field count).motion, swinging := (h.goodFrame raw field count).swinging } := by
  rw [Hinge.goodFrame_eq, Hinge.processed_frame]
  rfl

/-! ### The filter step and the motion window -/

theorem Hinge.measure_motion : h.measure.motion = ((h.measure.filtered : Int) - h.measure.window[0]).natAbs := by
  simp only [Hinge.measure]
  omega

theorem Hinge.filtering_acc (refill : Bool) : (h.filtering refill).acc = filterStep h.acc h.angle h.shift := by
  unfold Hinge.filtering Hinge.sample
  split
  · rfl
  · split <;> rfl

theorem Hinge.filtering_filtered (refill : Bool) :
    (h.filtering refill).filtered = ((h.filtering refill).acc + 8) / 16 := by
  unfold Hinge.filtering Hinge.sample
  split
  · rfl
  · split <;> rfl

theorem Hinge.filtering_motion (refill : Bool) :
    (h.filtering refill).motion = ((h.filtering refill).filtered - (h.filtering refill).window[0] : Int).natAbs ∧
      (h.filtering refill).swinging = decide (h.threshold ≤ (h.filtering refill).motion) := by
  unfold Hinge.filtering
  split
  · exact ⟨Hinge.measure_motion _, rfl⟩
  · refine ⟨Hinge.measure_motion _, ?_⟩
    unfold Hinge.sample
    split <;> rfl

/-- R12: a pending re-fill takes the filtered angle everywhere. -/
theorem Hinge.filtering_refill :
    (h.filtering true).window = Vector.replicate 8 (h.filtering true).filtered ∧ (h.filtering true).divider = 0 :=
  ⟨rfl, rfl⟩

/-- R17: at the sample interval the oldest entry leaves the window and the filtered angle joins it. -/
theorem Hinge.filtering_push (hd : h.divider + 1 = h.interval) :
    (h.filtering false).window = pushWindow h.window (h.filtering false).filtered ∧ (h.filtering false).divider = 0 := by
  have hs : h.step.sample = { h.step with window := pushWindow h.window h.step.filtered, divider := 0 } := if_pos hd
  simp only [Hinge.filtering, Bool.false_eq_true, if_false, hs]
  exact ⟨rfl, rfl⟩

/-- R17: between samples the window is kept and the divider counts. -/
theorem Hinge.filtering_count (hd : h.divider + 1 ≠ h.interval) :
    (h.filtering false).window = h.window ∧ (h.filtering false).divider = h.divider + 1 := by
  have hs : h.step.sample = { h.step with divider := h.divider + 1 } := if_neg hd
  simp only [Hinge.filtering, Bool.false_eq_true, if_false, hs]
  exact ⟨rfl, rfl⟩

end

theorem pushWindow_shift (w : Vector Nat 8) (f : Nat) (n : Fin 7) : (pushWindow w f)[n.val] = w[n.val + 1] := by
  fin_cases n <;> rfl

/-! ### The frame's fields -/

section
variable (w : BitVec 32)

theorem frameCode_eq : frameCode w = (w.toNat / 2 ^ 10) % 2 ^ 14 := by
  rw [frameCode, BitVec.extractLsb'_toNat, Nat.shiftRight_eq_div_pow]

theorem frameField_eq : frameField w = (w.toNat / 2 ^ 8) % 4 := by
  rw [frameField, BitVec.extractLsb'_toNat, Nat.shiftRight_eq_div_pow]

theorem frameCount_val : (frameCount w).val = (w.toNat / 2 ^ 4) % 16 := by
  show (w.extractLsb' 4 4).toNat = _
  rw [BitVec.extractLsb'_toNat, Nat.shiftRight_eq_div_pow]

end

/-! ### A good frame as an event -/

/-- R5, R6, R11: the state after a good frame, before the classifier's evaluation. -/
def State.tookFrame (s : State) (raw field : Nat) (count : Fin 16) : State :=
  { s with
    hinge := s.hinge.goodFrame raw field count
    attn := { s.attn with flags := { s.attn.flags with
      hinge := s.attn.flags.hinge || (decide (field ≠ 0) && !s.hinge.marginal) ||
        (decide (s.hinge.input = .lost) && s.hinge.tracksNext) } } }

theorem Hinge.goodFrame_input (h : Hinge) (raw field : Nat) (count : Fin 16) :
    (h.goodFrame raw field count).input = .tracking ↔ h.tracksNext = true := by
  rw [Hinge.goodFrame_frame]
  exact h.received_input raw field count

/-- R5, R11: HINGE at an onset or a return, and the evaluation in TRACKING. -/
theorem Ev.goodFrame_start (s : State) (raw field : Nat) (count : Fin 16) :
    (Ev.start s).goodFrame raw field count =
      if s.hinge.tracksNext then (Ev.start (s.tookFrame raw field count)).evaluate
      else Ev.start (s.tookFrame raw field count) := by
  have hin := s.hinge.goodFrame_input raw field count
  have hraised : (if (decide (field ≠ 0) && !s.hinge.marginal) || (decide (s.hinge.input = .lost) && s.hinge.tracksNext)
      then ((Ev.start s).modHinge fun h => h.goodFrame raw field count).raise .hinge
      else (Ev.start s).modHinge fun h => h.goodFrame raw field count) = Ev.start (s.tookFrame raw field count) := by
    simp only [State.tookFrame, Bool.or_assoc]
    generalize (decide (field ≠ 0) && !s.hinge.marginal || decide (s.hinge.input = .lost) && s.hinge.tracksNext) = set
    cases set with
    | true =>
      rw [Bool.or_true]
      rfl
    | false =>
      rw [Bool.or_false]
      rfl
  have hreturned : decide ((s.hinge.goodFrame raw field count).input = .tracking) = s.hinge.tracksNext := by
    rw [Bool.eq_iff_iff, decide_eq_true_eq]
    exact hin
  have hdef : (Ev.start s).goodFrame raw field count =
      (if (Ev.start (s.tookFrame raw field count)).s.hinge.input = .tracking then
        (Ev.start (s.tookFrame raw field count)).evaluate else Ev.start (s.tookFrame raw field count)) := by
    rw [← hraised, ← hreturned]
    rfl
  rw [hdef]
  exact if_congr hin rfl rfl

/-- R1, R2: the unit at an arrival, before the frame is judged. -/
def Hinge.arrived (h : Hinge) (r : Reception) (now : Nat) : Hinge :=
  { h with recv := recvAfter r, cellTimer := none, silentTimer := some (now + h.silentMs * 1000) }

theorem State.receive_bad (s : State) {r : Reception} {c : BadCause} (hc : receptionBadCause r = some c) :
    s.receive r = ((Ev.start { s with hinge := s.hinge.arrived r s.now }).badEvent c).done := by
  simp only [State.receive, Ev.arrival_bad _ hc]
  rfl

theorem State.receive_good (s : State) {w : BitVec 32} (hw : receptionBadCause (.frame w) = none) :
    s.receive (.frame w) = ((Ev.start { s with hinge := s.hinge.arrived (.frame w) s.now }).goodFrame (frameCode w)
      (frameField w) (frameCount w)).done := by
  simp only [State.receive, Ev.arrival_good _ hw]
  rfl

/-- Settles O48: the unit by `Hinge.goodFrame_frame` and the three cases of `Hinge.processed`, the event by
`Ev.goodFrame_start`. -/
theorem goodFrame : Obligations.GoodFrame := by
  intro s w raw field a count gap good tracking full hen hlink hrecv hgood hraw hfield hcount ha hgap hstreak htracking
    hfull
  let h0 := s.hinge.arrived (.frame w) s.now
  obtain rfl : raw = frameCode w := hraw.trans (frameCode_eq w).symm
  obtain rfl : field = frameField w := hfield.trans (frameField_eq w).symm
  obtain rfl : count = frameCount w := Fin.ext (hcount.trans (frameCount_val w).symm)
  obtain rfl : gap = h0.gap (frameCount w) := by
    rw [hgap]
    show _ = Hinge.gap s.hinge (frameCount w)
    unfold Hinge.gap
    cases s.hinge.expected <;> rfl
  obtain rfl : tracking = h0.tracksNext := by
    rw [Bool.eq_iff_iff, htracking, hstreak]
    exact (decide_eq_true_iff ..).symm
  obtain rfl : full = h0.reseedsNext (frameCount w) := by
    rw [Bool.eq_iff_iff, hfull]
    exact (decide_eq_true_iff ..).symm
  subst hstreak ha
  have field {α : Type} (f : Hinge → α) :=
    congrArg f (h0.goodFrame_frame (frameCode w) (frameField w) (frameCount w))
  have hwhole := h0.goodFrame_eq (frameCode w) (frameField w) (frameCount w)
  have hanswer : Answers (.frameArrival (.frame w)) s _ := frameArrival_answers (s.sensing_iff.2 ⟨hen, hlink⟩) hrecv _
  rw [State.receive_good s hgood, Ev.goodFrame_start] at hanswer
  refine ⟨_, _, h0.goodFrame (frameCode w) (frameField w) (frameCount w), rfl, rfl, Ev.done_frame _, hanswer,
    field Hinge.recv, field Hinge.cellTimer, field Hinge.silentTimer,
    field Hinge.lastGap, field Hinge.expected, field Hinge.marginal,
    field Hinge.good, field Hinge.bad, field Hinge.lastCause,
    field Hinge.lastRaw, field Hinge.angle, field Hinge.reseedPending,
    field Hinge.refillPending, (field Hinge.enabled).trans hen, field Hinge.input,
    field Hinge.cal, field Hinge.shift, field Hinge.interval,
    field Hinge.threshold, field Hinge.silentMs, field Hinge.badLimit,
    fun ht => ?_, fun ht hf => ?_, fun ht hf => ?_⟩
  · rw [hwhole, ht]
    exact ⟨rfl, rfl, rfl, rfl, rfl, rfl⟩
  · rw [hwhole, ht, hf]
    exact ⟨rfl, rfl, rfl, rfl, rfl, rfl⟩
  · rw [hwhole, ht, hf]
    let r := h0.received (frameCode w) (frameField w) (frameCount w)
    refine ⟨r.filtering_acc _, r.filtering_filtered _, (r.filtering_motion _).1, (r.filtering_motion _).2, fun hp => ?_,
      fun hp hd => ?_, fun hp hd => ?_⟩
    · rw [show h0.refillPending = true from hp]
      exact r.filtering_refill
    · rw [show h0.refillPending = false from hp]
      obtain ⟨hwindow, hzero⟩ := r.filtering_push hd
      refine ⟨fun n => ?_, ?_, hzero⟩
      · show (r.filtering false).window[n.val] = s.hinge.window[n.val + 1]
        rw [hwindow]
        exact pushWindow_shift _ _ n
      · show (r.filtering false).window[7] = (r.filtering false).filtered
        rw [hwindow]
        rfl
    · rw [show h0.refillPending = false from hp]
      exact r.filtering_count hd

/-! ### Bad events -/

/-- R4: a bad event outside TRACKING, or below the limit, is counted. -/
theorem Ev.badEvent_counted {s : State} {c : BadCause}
    (h : s.hinge.input ≠ .tracking ∨ (s.hinge.countBad c).bad < s.hinge.badLimit) :
    (Ev.start s).badEvent c = Ev.start { s with hinge := s.hinge.countBad c } := by
  refine if_neg fun hlost => ?_
  obtain ⟨ht, hl⟩ := hlost
  exact h.elim (· ht) (Nat.not_lt.2 hl)

/-- R4, R11, R29: at the limit, a tracking input is LOST, with the dwell dropped and the fold switch check made. -/
theorem Ev.badEvent_lost {s : State} {c : BadCause} (ht : s.hinge.input = .tracking)
    (hl : s.hinge.badLimit ≤ (s.hinge.countBad c).bad) :
    (Ev.start s).badEvent c = (Ev.start { s with
      hinge := { s.hinge.countBad c with input := .lost, swinging := false }
      posture := { s.posture with dwell := .idle, candidate := s.posture.committed }
      attn := { s.attn with flags := { s.attn.flags with hinge := true } } }).foldCheck :=
  if_pos (And.intro ht hl)

/-- R2: the first check a reception fails, in the order of the checks. -/
theorem receptionBadCause_eq {r : Reception} {c : BadCause}
    (h : r = .framingError ∧ c = .framing ∨ ∃ w : BitVec 32, r = .frame w ∧
      (w.extractLsb' 24 8 ≠ 0xB4#8 ∧ c = .sync ∨
        w.extractLsb' 24 8 = 0xB4#8 ∧ frameNibbleSum w ≠ 15 ∧ c = .check ∨
        w.extractLsb' 24 8 = 0xB4#8 ∧ frameNibbleSum w = 15 ∧ w.extractLsb' 8 2 = 3 ∧ c = .field)) :
    receptionBadCause r = some c := by
  rcases h with ⟨rfl, rfl⟩ | ⟨w, rfl, ⟨hsync, rfl⟩ | ⟨hsync, hsum, rfl⟩ | ⟨hsync, hsum, hfield, rfl⟩⟩
  · rfl
  · exact if_pos hsync
  · simp only [receptionBadCause, frameSync, Config.syncByte, hsync, ne_eq, not_true_eq_false, if_false]
    exact if_pos hsum
  · simp [receptionBadCause, frameSync, Config.syncByte, hsync, hsum, frameField, hfield]

/-- The two outcomes of a command that ends in a bad event. -/
theorem badEvent_answers {i : Instr} {s u : State} {c : BadCause}
    (hanswer : Answers i s ((Ev.start u).badEvent c).done) :
    (u.hinge.input ≠ .tracking ∨ (u.hinge.countBad c).bad < u.hinge.badLimit →
      ∀ w : State, w = { u with hinge := u.hinge.countBad c } → w.EngineFrame w.settled ∧ Answers i s w.settled) ∧
    (u.hinge.input = .tracking → u.hinge.badLimit ≤ (u.hinge.countBad c).bad →
      ∀ e : Ev, e = (Ev.start { u with
        hinge := { u.hinge.countBad c with input := .lost, swinging := false }
        posture := { u.posture with dwell := .idle, candidate := u.posture.committed }
        attn := { u.attn with flags := { u.attn.flags with hinge := true } } }).foldCheck →
      e.s.EngineFrame e.done ∧ Answers i s e.done) := by
  refine ⟨fun hheld w hw => ⟨w.settled_frame, ?_⟩, fun htrack hl e he => ⟨e.done_frame, ?_⟩⟩
  · rw [Ev.badEvent_counted hheld] at hanswer
    exact hw ▸ hanswer
  · rw [Ev.badEvent_lost htrack hl] at hanswer
    exact he ▸ hanswer

/-- R3: the expiry of the silent timer brings the time to its end, restarts it and is a bad event. -/
theorem silentExpiry_answers {s : State} {t : Nat} (ht : s.hinge.silentTimer = some t) :
    Answers .silentExpiry s ((Ev.start { s.reach t with
      hinge := { s.hinge with silentTimer := some ((s.reach t).now + s.hinge.silentMs * 1000) } }).badEvent .silent).done := by
  simp only [Answers, exec, execSilentExpiry, ht]
  rfl

/-- Settles O49: an arrival and an expiry of the silent timer are `Ev.badEvent`, which is counted or loses TRACKING; a cell
limit that expires is the arrival of a framing error at that time. -/
theorem badEvents : Obligations.BadEvents := by
  refine ⟨fun s r c h hen hlink hrecv hcause hh => ?_, fun s bits t hen hlink hrecv ht => ?_,
    fun s v t h ht hv hh => ?_, fun s => ⟨fun ht => ?_, fun ht => ?_⟩⟩
  · have hanswer := frameArrival_answers (s.sensing_iff.2 ⟨hen, hlink⟩) hrecv r
    rw [State.receive_bad s (receptionBadCause_eq hcause)] at hanswer
    obtain rfl : h = (s.hinge.arrived r s.now).countBad c := by
      rw [hh]
      cases r <;> rfl
    exact badEvent_answers hanswer
  · have hs := s.sensing_iff.2 ⟨hen, hlink⟩
    have hlimit : (s.elapse (t - s.now)).hinge.recv ≠ .idleWait := by simp [hrecv]
    refine ⟨_, frameArrival_answers (s := s.elapse (t - s.now)) hs hlimit .framingError, ?_⟩
    simp [State.reach, Answers, exec, execCellTimeout, hs, hrecv, ht]
  · have hanswer := silentExpiry_answers ht
    subst hv hh
    exact badEvent_answers hanswer
  · simp [Answers, exec, execSilentExpiry, ht]
  · simp only [Answers, exec, execCellTimeout, ht]
    split
    · cases s.hinge.recv <;> rfl
    · rfl

end Sys2Proof.Machine
end

section
/-! SUPPORT. The posture plan at the panels: what a change of lit demand and the joined mode conditions do to the panels, to what
the controllers share, to the attention flags and to the move overrides. -/

namespace Sys2Proof.Machine

/-! ### What a change of the records, the queue and the slot bank leaves alone -/

/-- R30, R81: no record holds a move override. -/
def State.NoOverrides (s : State) : Prop := ∀ i r, s.record? i = some r → r.moveTo = none

/-- The panels, what they share and the Attention Unit are the same, and no move override is new. -/
structure State.TableFrame (s t : State) : Prop where
  panels : t.panels = s.panels
  shared : t.shared = s.shared
  attn : t.attn = s.attn
  overrides : s.NoOverrides → t.NoOverrides

theorem State.TableFrame.refl (s : State) : s.TableFrame s := ⟨rfl, rfl, rfl, id⟩

theorem State.TableFrame.trans {s t u : State} (h : s.TableFrame t) (k : t.TableFrame u) : s.TableFrame u :=
  ⟨k.panels.trans h.panels, k.shared.trans h.shared, k.attn.trans h.attn, k.overrides ∘ h.overrides⟩

/-- A change of the queue and the slot bank alone. -/
theorem State.TableFrame.of_queue_slots (s : State) (q : List Job) (k : Vector LayerSlot 16) :
    s.TableFrame { s with queue := q, slots := k } := ⟨rfl, rfl, rfl, id⟩

theorem State.setEntry_overrides {s : State} (h : s.NoOverrides) {i : Fin 40} {x : TableSlot}
    (hx : ∀ r, x = .used r → r.moveTo = none) : (s.setEntry i x).NoOverrides := by
  intro j r hr
  rw [State.record?_eq_some, State.entry_setEntry] at hr
  split at hr
  · exact hx r hr
  · exact h j r ((State.record?_eq_some s).2 hr)

theorem State.setEntry_tableFrame (s : State) (i : Fin 40) {x : TableSlot}
    (hx : s.NoOverrides → ∀ r, x = .used r → r.moveTo = none) : s.TableFrame (s.setEntry i x) :=
  ⟨rfl, rfl, rfl, fun h => State.setEntry_overrides h (hx h)⟩

theorem State.modRecord_tableFrame (s : State) (i : Fin 40) {f : Record → Record} (hf : ∀ r, (f r).moveTo = r.moveTo) :
    s.TableFrame (s.modRecord i f) := by
  unfold State.modRecord
  split
  · next r hr =>
    refine s.setEntry_tableFrame i fun h r' hr' => ?_
    cases hr'
    exact (hf r).trans (h i r hr)
  · exact .refl s

theorem Record.makeCurrent_moveTo (r : Record) (b : Buffer) : (r.makeCurrent b).moveTo = r.moveTo := by
  unfold Record.makeCurrent
  split <;> rfl

theorem State.checkCurrency_tableFrame (s : State) (i : Fin 40) : s.TableFrame (s.checkCurrency i) := by
  unfold State.checkCurrency
  split
  · exact .refl s
  · split
    · exact .refl s
    · split
      · exact s.modRecord_tableFrame i fun r => r.makeCurrent_moveTo _
      · exact .refl s

theorem State.checkRetired_tableFrame (s : State) (i : Fin 40) : s.TableFrame (s.checkRetired i) := by
  unfold State.checkRetired State.enterRetired
  split
  · split
    · split
      · exact s.setEntry_tableFrame i fun _ _ hr => by cases hr
      · exact .refl s
    · exact .refl s
  · exact .refl s

theorem State.loseSlot_tableFrame (s : State) (i : Fin 40) (k : Fin 16) (b : Bool) : s.TableFrame (s.loseSlot i k b) := by
  unfold State.loseSlot
  refine State.TableFrame.trans (State.TableFrame.trans ?_ (State.checkRetired_tableFrame _ i))
    (State.checkCurrency_tableFrame _ i)
  exact s.modRecord_tableFrame i fun _ => rfl

theorem State.modJob_tableFrame (s : State) (i : Fin 40) (f : Job → Job) : s.TableFrame (s.modJob i f) :=
  .of_queue_slots s _ s.slots

theorem State.freeSlotsOf_tableFrame (s : State) (p : PanelId) : s.TableFrame (s.freeSlotsOf p) := by
  unfold State.freeSlotsOf
  exact .of_queue_slots s s.queue _

theorem Ev.reportLoss_tableFrame (b : Bool) (s : State) (e : Ev) (k : Fin 16) :
    e.s.TableFrame (Ev.reportLoss b s e k).s := by
  unfold Ev.reportLoss
  split
  · exact .refl _
  · exact (State.loseSlot_tableFrame _ _ k _).trans (State.modJob_tableFrame _ _ _)

/-- An operation made for each member of a list keeps the frame if one does. -/
theorem Ev.foldl_tableFrame {α : Type} (f : Ev → α → Ev) (hf : ∀ (e : Ev) (a : α), e.s.TableFrame (f e a).s)
    (l : List α) (e : Ev) : e.s.TableFrame (l.foldl f e).s := by
  induction l generalizing e with
  | nil => exact .refl _
  | cons a l ih => exact (hf e a).trans (ih (f e a))

/-! ### Joined mode -/

/-- R135, R137: the joined mode after the conditions are evaluated. -/
def joinedNext (holds : Bool) (j : JoinedMode) : JoinedMode :=
  if holds then (if j = .notJoined then .lockPending else j) else .notJoined

@[simp] theorem State.setJoined_shared (s : State) (j : JoinedMode) :
    (s.setJoined j).shared = { s.shared with joined := j } := rfl

section
variable (e : Ev)

/-- R135, R137: the evaluation moves the joined mode, and the end of joined mode re-resolves every record. -/
theorem Ev.evalJoined_eq : e.evalJoined = { e with
    s := e.s.setJoined (joinedNext e.s.joinConditions e.s.shared.joined)
    resolveAll := e.resolveAll || (!e.s.joinConditions && decide (e.s.shared.joined = .joined)) } := by
  have same : e.s.setJoined e.s.shared.joined = e.s := rfl
  unfold Ev.evalJoined
  cases hc : e.s.joinConditions with
  | true => cases hj : e.s.shared.joined <;> simp [joinedNext, Ev.mod, hj ▸ same]
  | false => cases hj : e.s.shared.joined <;> simp [joinedNext, Ev.mod, hj ▸ same]

theorem Ev.evalJoined_s : e.evalJoined.s = e.s.setJoined (joinedNext e.s.joinConditions e.s.shared.joined) :=
  congrArg Ev.s e.evalJoined_eq

theorem Ev.evalJoined_resolveAll : e.evalJoined.resolveAll =
    (e.resolveAll || (!e.s.joinConditions && decide (e.s.shared.joined = .joined))) :=
  congrArg Ev.resolveAll e.evalJoined_eq

end

theorem State.bothInService_iff (s : State) : s.bothInService = true ↔ ∀ p, (s.panel p).inService = true := by
  unfold State.bothInService
  rw [Bool.and_eq_true]
  exact ⟨fun h p => by cases p; exacts [h.1, h.2], fun h => ⟨h .p0, h .p1⟩⟩

theorem Classifier.join_iff (c : Classifier) : c.join = true ↔ c.committed = .flat ∧ c.span = true := by
  unfold Classifier.join
  cases c.committed <;> simp

/-- R135: the joined mode conditions. -/
theorem State.joinConditions_iff (s : State) : s.joinConditions = true ↔
    s.posture.committed = .flat ∧ s.posture.span = true ∧ ∀ p, (s.panel p).inService = true := by
  rw [State.joinConditions, Bool.and_eq_true, Classifier.join_iff, State.bothInService_iff, and_assoc]

theorem State.joinConditions_of_dark {s : State} {p : PanelId} (h : (s.panel p).inService = false) :
    s.joinConditions = false :=
  Bool.eq_false_iff.2 fun hc => by
    obtain ⟨-, -, hp⟩ := s.joinConditions_iff.1 hc
    simp [hp p] at h

/-! ### A panel's own change of state -/

/-- What a change of one panel within an event leaves alone, and how it leaves the joined mode: as it was, or ended with the panel
out of service and every record to be re-resolved (R129, R137). -/
structure Ev.PanelFrame (p : PanelId) (e d : Ev) : Prop where
  attn : d.s.attn = e.s.attn
  overrides : e.s.NoOverrides → d.s.NoOverrides
  other : d.s.panel (otherPanel p) = e.s.panel (otherPanel p)
  planLit : (d.s.panel p).planLit = (e.s.panel p).planLit
  joined : d.s.shared = e.s.shared ∧ d.resolveAll = e.resolveAll ∨
    d.s.shared = { e.s.shared with joined := .notJoined } ∧ (d.s.panel p).inService = false ∧ d.resolveAll = true

/-- A change of the panel alone that keeps its plan-lit indication. -/
theorem Ev.PanelFrame.of_modPanel (e : Ev) (p : PanelId) {f : Panel → Panel} (hf : ∀ x, (f x).planLit = x.planLit) :
    Ev.PanelFrame p e (e.modPanel p f) where
  attn := rfl
  overrides := id
  other := e.s.panel_modPanel_other p f
  planLit := (congrArg Panel.planLit (e.s.panel_modPanel_same p f)).trans (hf _)
  joined := .inl ⟨rfl, rfl⟩

/-- R129 steps 3 and 4: after the frame timer has stopped and the joined mode conditions are evaluated, only slots are freed
and their losses reported. -/
theorem Ev.leaveService_reports (e : Ev) (p : PanelId) (b : Bool) :
    (e.modPanel p Panel.stopFrames).evalJoined.s.TableFrame (e.leaveService p b).s :=
  (State.freeSlotsOf_tableFrame (e.modPanel p Panel.stopFrames).evalJoined.s p).trans
    (Ev.foldl_tableFrame (Ev.reportLoss b (e.modPanel p Panel.stopFrames).evalJoined.s)
      (fun d k => Ev.reportLoss_tableFrame b _ d k)
      (allSlots.filter fun k => (e.modPanel p Panel.stopFrames).evalJoined.s.uses p k)
      ((e.modPanel p Panel.stopFrames).evalJoined.mod fun s => s.freeSlotsOf p))

/-- R129: a panel that has left service. -/
theorem Ev.leaveService_panelFrame (e : Ev) (p : PanelId) (b : Bool) (h : (e.s.panel p).inService = false) :
    Ev.PanelFrame p e (e.leaveService p b) := by
  have dark : ((e.modPanel p Panel.stopFrames).s.panel p).inService = false :=
    (congrArg Panel.inService (e.s.panel_modPanel_same p _)).trans h
  have hjoined : (e.modPanel p Panel.stopFrames).evalJoined.s = (e.s.modPanel p Panel.stopFrames).setJoined .notJoined := by
    rw [Ev.evalJoined_s, State.joinConditions_of_dark dark]
    rfl
  have whole : ((e.s.modPanel p Panel.stopFrames).setJoined .notJoined).TableFrame (e.leaveService p b).s :=
    hjoined ▸ e.leaveService_reports p b
  have panel (q : PanelId) : (e.leaveService p b).s.panel q = (e.s.modPanel p Panel.stopFrames).panel q :=
    congrArg (Panels.get · q) whole.panels
  exact {
    attn := whole.attn
    overrides := whole.overrides
    other := (panel _).trans (e.s.panel_modPanel_other p _)
    planLit := by
      rw [panel p, e.s.panel_modPanel_same]
      rfl
    joined := .inr ⟨whole.shared, (congrArg Panel.inService (panel p)).trans dark, rfl⟩ }

/-- R128: a panel that powers down. -/
theorem Ev.powerDown_panelFrame (e : Ev) (p : PanelId) : Ev.PanelFrame p e (e.powerDown p) := by
  simp only [Ev.powerDown]
  have start := Ev.PanelFrame.of_modPanel e p
    (f := fun x => { x with mode := .poweringDown, seqTimer := some (e.s.after e.s.shared.tDown) }) fun _ => rfl
  split
  · have left := Ev.leaveService_panelFrame (e.modPanel p fun x =>
      { x with mode := .poweringDown, seqTimer := some (e.s.after e.s.shared.tDown) }) p false
        (congrArg Panel.inService (e.s.panel_modPanel_same p _))
    exact {
      attn := left.attn
      overrides := left.overrides
      other := left.other.trans start.other
      planLit := left.planLit.trans start.planLit
      joined := left.joined }
  · exact start

theorem Ev.demandOff_panelFrame (e : Ev) (p : PanelId) : Ev.PanelFrame p e (e.demandOff p) := by
  unfold Ev.demandOff
  split
  · exact e.powerDown_panelFrame p
  · exact e.powerDown_panelFrame p
  · exact e.powerDown_panelFrame p
  · exact ⟨rfl, id, rfl, rfl, .inl ⟨rfl, rfl⟩⟩

/-- R124: a panel that may power up. -/
theorem Ev.checkPowerUp_panelFrame (e : Ev) (p : PanelId) : Ev.PanelFrame p e (e.mod fun s => s.checkPowerUp p) := by
  simp only [Ev.mod, State.checkPowerUp]
  split
  · exact .of_modPanel e p fun _ => rfl
  · exact ⟨rfl, id, rfl, rfl, .inl ⟨rfl, rfl⟩⟩

/-- R123: after the change of what makes the lit demand, the panel acts on it. -/
theorem Ev.changeDemand_panelFrame (e : Ev) (p : PanelId) (f : Panel → Panel) :
    Ev.PanelFrame p (e.modPanel p f) (e.changeDemand p f) := by
  simp only [Ev.changeDemand]
  split
  · exact Ev.checkPowerUp_panelFrame _ p
  · exact Ev.demandOff_panelFrame _ p
  · exact ⟨rfl, id, rfl, rfl, .inl ⟨rfl, rfl⟩⟩

/-! ### The plan -/

/-- R30, R123: what the plan at both panels leaves alone, with each panel's plan-lit indication, and the joined mode as it was, or
ended with a panel out of service. -/
structure Ev.PlanFrame (lit : PanelId → Bool) (e d : Ev) : Prop where
  attn : d.s.attn = e.s.attn
  overrides : e.s.NoOverrides → d.s.NoOverrides
  planLit : ∀ p, (d.s.panel p).planLit = lit p
  joined : d.s.shared = e.s.shared ∧ d.resolveAll = e.resolveAll ∨
    d.s.shared = { e.s.shared with joined := .notJoined } ∧ d.s.joinConditions = false ∧ d.resolveAll = true

/-- R30, R32: the plan reaches panel 0, then panel 1. -/
def Ev.planDemands (e : Ev) : Ev :=
  (e.changeDemand .p0 fun x => { x with planLit := e.s.posture.planLit .p0 }).changeDemand .p1 fun x =>
    { x with planLit := e.s.posture.planLit .p1 }

theorem Ev.applyPlan_eq (e : Ev) : e.applyPlan = e.planDemands.evalJoined := rfl

theorem Ev.planDemands_planFrame (e : Ev) : Ev.PlanFrame e.s.posture.planLit e e.planDemands := by
  let lit := e.s.posture.planLit
  have h0 := e.changeDemand_panelFrame .p0 fun x => { x with planLit := lit .p0 }
  have h1 := (e.changeDemand .p0 fun x => { x with planLit := lit .p0 }).changeDemand_panelFrame .p1 fun x =>
    { x with planLit := lit .p1 }
  refine ⟨h1.attn.trans h0.attn, h1.overrides ∘ h0.overrides, fun p => ?_, ?_⟩
  · cases p
    · exact (congrArg Panel.planLit h1.other).trans h0.planLit
    · exact h1.planLit
  · rcases h1.joined with ⟨shared1, resolve1⟩ | ⟨shared1, dark1, resolve1⟩
    · rcases h0.joined with ⟨shared0, resolve0⟩ | ⟨shared0, dark0, resolve0⟩
      · exact .inl ⟨shared1.trans shared0, resolve1.trans resolve0⟩
      · refine .inr ⟨shared1.trans shared0, State.joinConditions_of_dark (p := .p0) ?_, resolve1.trans resolve0⟩
        exact (congrArg Panel.inService h1.other).trans dark0
    · refine .inr ⟨shared1.trans ?_, State.joinConditions_of_dark dark1, resolve1⟩
      rcases h0.joined with ⟨shared0, -⟩ | ⟨shared0, -⟩
      · exact congrArg (fun g : Shared => { g with joined := .notJoined }) shared0
      · exact congrArg (fun g : Shared => { g with joined := .notJoined }) shared0

section
variable (e : Ev)

@[simp] theorem Ev.applyPlan_posture : e.applyPlan.s.posture = e.s.posture := e.applyPlan_blocks.posture

theorem Ev.applyPlan_attn : e.applyPlan.s.attn = e.s.attn := by
  rw [Ev.applyPlan_eq, Ev.evalJoined_s]
  exact e.planDemands_planFrame.attn

theorem Ev.applyPlan_overrides (h : e.s.NoOverrides) : e.applyPlan.s.NoOverrides := by
  rw [Ev.applyPlan_eq, Ev.evalJoined_s]
  exact e.planDemands_planFrame.overrides h

/-- R123: each controller holds its part of the plan. -/
theorem Ev.applyPlan_planLit (p : PanelId) : (e.applyPlan.s.panel p).planLit = e.s.posture.planLit p := by
  rw [Ev.applyPlan_eq, Ev.evalJoined_s]
  exact e.planDemands_planFrame.planLit p

/-- The evaluation of the joined mode conditions leaves them as they are. -/
theorem Ev.applyPlan_joinConditions : e.applyPlan.s.joinConditions = e.planDemands.s.joinConditions := by
  rw [Ev.applyPlan_eq, Ev.evalJoined_s]
  rfl

/-- R135, R137: the joined mode follows the conditions as the plan leaves them. -/
theorem Ev.applyPlan_shared : e.applyPlan.s.shared =
    { e.s.shared with joined := joinedNext e.applyPlan.s.joinConditions e.s.shared.joined } := by
  rw [Ev.applyPlan_joinConditions, Ev.applyPlan_eq, Ev.evalJoined_s, State.setJoined_shared]
  rcases e.planDemands_planFrame.joined with ⟨shared, -⟩ | ⟨shared, dark, -⟩
  · rw [shared]
  · rw [shared, dark]
    rfl

/-- R137: the end of joined mode by a plan re-resolves every record. -/
theorem Ev.applyPlan_resolveAll (hc : e.applyPlan.s.joinConditions = false) (hj : e.s.shared.joined = .joined) :
    e.applyPlan.resolveAll = true := by
  rw [Ev.applyPlan_joinConditions] at hc
  rw [Ev.applyPlan_eq, Ev.evalJoined_resolveAll, hc]
  rcases e.planDemands_planFrame.joined with ⟨shared, -⟩ | ⟨-, -, resolve⟩
  · rw [shared, hj]
    simp
  · rw [resolve]
    rfl

end
end Sys2Proof.Machine
end

section
/-! SUPPORT. What a commit does, and the joined mode conditions at commits and plan changes. -/

namespace Sys2Proof.Machine

/-! ### A commit -/

/-- R30: the classifier after a commit of a posture. -/
def Classifier.commit (c : Classifier) (p : Posture) : Classifier :=
  if c.committed = p then c else { c with committed := p, candidate := p, dwell := .idle }

theorem Classifier.commit_same {c : Classifier} {p : Posture} (h : c.committed = p) : c.commit p = c := if_pos h

theorem Classifier.commit_new {c : Classifier} {p : Posture} (h : c.committed ≠ p) :
    c.commit p = { c with committed := p, candidate := p, dwell := .idle } := if_neg h

/-- A commit of a candidate already held, with no dwell under way. -/
theorem Classifier.commit_ready {c : Classifier} {p : Posture} (hc : c.candidate = p) (hd : c.dwell = .idle) :
    c.commit p = { c with committed := p } := by
  by_cases h : c.committed = p
  · rw [Classifier.commit_same h, ← h]
  · rw [Classifier.commit_new h, ← hd]
    cases hc
    rfl

/-- R30: a commit of another posture, before its plan reaches the controllers. -/
def Ev.committing (e : Ev) (p : Posture) : Ev :=
  ((e.modPosture fun c => { c with committed := p, candidate := p, dwell := .idle }).raise .posture).mod fun s =>
    s.mapRecords fun r => { r with moveTo := none }

theorem State.mapRecords_overrides (s : State) {f : Record → Record} (hf : ∀ r, (f r).moveTo = none) :
    (s.mapRecords f).NoOverrides := by
  intro i r hr
  rw [State.record?_eq_some, State.entry_mapRecords] at hr
  split at hr
  · cases hr
    exact hf _
  · next hfree => exact absurd hr (hfree r)

section
variable (e : Ev) {p : Posture}

theorem Ev.commit_same (h : e.s.posture.committed = p) : e.commit p = e := if_pos h

theorem Ev.commit_new (h : p ≠ e.s.posture.committed) :
    e.commit p = { (e.committing p).applyPlan with resolveAll := true } := if_neg h.symm

theorem Ev.committing_posture :
    (e.committing p).s.posture = { e.s.posture with committed := p, candidate := p, dwell := .idle } :=
  State.mapRecords_posture _ _

theorem Ev.committing_attn : (e.committing p).s.attn = { e.s.attn with flags := { e.s.attn.flags with posture := true } } :=
  State.mapRecords_attn _ _

theorem Ev.committing_shared : (e.committing p).s.shared = e.s.shared := State.mapRecords_shared _ _

theorem Ev.committing_others : (e.committing p).s.rules = e.s.rules ∧ (e.committing p).s.link = e.s.link ∧
    (e.committing p).s.table.gens = e.s.table.gens ∧ (e.committing p).s.table.focus = e.s.table.focus ∧
    (e.committing p).s.now = e.s.now := by
  unfold Ev.committing
  exact ⟨State.mapRecords_rules _ _, State.mapRecords_link _ _, by simp only [Ev.mod, State.mapRecords]; rfl,
    by simp only [Ev.mod, State.mapRecords]; rfl, State.mapRecords_now _ _⟩

theorem Ev.committing_overrides : (e.committing p).s.NoOverrides := State.mapRecords_overrides _ fun _ => rfl

@[simp] theorem Ev.commit_posture : (e.commit p).s.posture = e.s.posture.commit p := by
  by_cases h : e.s.posture.committed = p
  · rw [e.commit_same h, Classifier.commit_same h]
  · rw [e.commit_new (Ne.symm h), Classifier.commit_new h]
    exact (Ev.applyPlan_posture _).trans e.committing_posture

/-- R30: a commit raises POSTURE and touches no other flag. -/
theorem Ev.commit_attn : (e.commit p).s.attn = { e.s.attn with flags := { e.s.attn.flags with
    posture := e.s.attn.flags.posture || decide (e.s.posture.committed ≠ p) } } := by
  by_cases h : e.s.posture.committed = p
  · rw [e.commit_same h]
    simp [h]
  · rw [e.commit_new (Ne.symm h)]
    refine ((Ev.applyPlan_attn _).trans e.committing_attn).trans ?_
    simp [h]

/-- R30, R123, R135, R137: what a commit of another posture leaves. -/
theorem Ev.commit_shared (h : p ≠ e.s.posture.committed) : (e.commit p).s.shared =
    { e.s.shared with joined := joinedNext (e.commit p).s.joinConditions e.s.shared.joined } := by
  rw [e.commit_new h]
  refine (Ev.applyPlan_shared _).trans ?_
  rw [e.committing_shared]

theorem Ev.commit_overrides (h : p ≠ e.s.posture.committed) : (e.commit p).s.NoOverrides := by
  rw [e.commit_new h]
  exact Ev.applyPlan_overrides _ e.committing_overrides

theorem Ev.commit_planLit (h : p ≠ e.s.posture.committed) (q : PanelId) :
    ((e.commit p).s.panel q).planLit = { e.s.posture with committed := p }.planLit q := by
  rw [e.commit_new h]
  refine (Ev.applyPlan_planLit _ q).trans ?_
  rw [e.committing_posture]
  rfl

/-- What a commit leaves alone beside the classifier. -/
theorem Ev.commit_others (h : p ≠ e.s.posture.committed) : (e.commit p).s.rules = e.s.rules ∧
    (e.commit p).s.link = e.s.link ∧ (e.commit p).s.table.gens = e.s.table.gens ∧
    (e.commit p).s.table.focus = e.s.table.focus ∧ (e.commit p).s.now = e.s.now := by
  obtain ⟨rules, link, gens, focus, now⟩ := e.committing_others (p := p)
  have blocks := Ev.applyPlan_blocks (e.committing p)
  rw [e.commit_new h]
  exact ⟨blocks.rules.trans rules, blocks.link.trans link, blocks.gens.trans gens, blocks.focus.trans focus,
    blocks.now.trans now⟩

end

/-! ### The plan of each posture -/

/-- R31: the panels that the plan lights. -/
theorem Classifier.planLit_iff (c : Classifier) (q : PanelId) :
    c.planLit q = true ↔ c.committed = .book ∨ c.committed = .flat ∨ c.committed = .tent ∨
      c.committed = .folded ∧ q = c.front := by
  unfold Classifier.planLit
  cases c.committed <;> simp

/-- R31: the panel that the plan turns. -/
theorem Classifier.rotated?_iff (c : Classifier) (q : PanelId) :
    c.rotated? = some q ↔ c.committed = .tent ∧ q ≠ c.front := by
  unfold Classifier.rotated?
  have turned : otherPanel c.front = q ↔ q ≠ c.front := by cases c.front <;> cases q <;> decide
  cases c.committed <;> simp [turned]

/-! ### The joined mode conditions -/

theorem joinedNext_of_holds {j : JoinedMode} (h : j ≠ .notJoined) : joinedNext true j = j := if_neg h

/-- R135, R137: the three changes of the joined mode, and the cases without one. -/
theorem Ev.evalJoined_cases (e : Ev) :
    (e.s.joinConditions = true → e.s.shared.joined = .notJoined →
      e.evalJoined = e.mod fun s => s.setJoined .lockPending) ∧
    (e.s.joinConditions = false → e.s.shared.joined = .lockPending →
      e.evalJoined = e.mod fun s => s.setJoined .notJoined) ∧
    (e.s.joinConditions = false → e.s.shared.joined = .joined →
      e.evalJoined = { e.mod fun s => s.setJoined .notJoined with resolveAll := true }) ∧
    (e.s.joinConditions = true ∧ e.s.shared.joined ≠ .notJoined ∨
      e.s.joinConditions = false ∧ e.s.shared.joined = .notJoined → e.evalJoined = e) := by
  refine ⟨fun hc hj => ?_, fun hc hj => ?_, fun hc hj => ?_, fun h => ?_⟩
  · simp only [Ev.evalJoined, hc, hj]
  · simp only [Ev.evalJoined, hc, hj]
  · simp only [Ev.evalJoined, hc, hj]
  · rcases h with ⟨hc, hj⟩ | ⟨hc, hj⟩
    · cases hs : e.s.shared.joined with
      | notJoined => exact absurd hs hj
      | lockPending | joined => simp only [Ev.evalJoined, hc, hs]
    · simp only [Ev.evalJoined, hc, hj]

/-- R135, R137: the joined mode after a change of plan, as the conditions then hold. -/
theorem joined_follows {s t : State}
    (h : t.shared = { s.shared with joined := joinedNext t.joinConditions s.shared.joined }) :
    (t.joinConditions = true → s.shared.joined = .notJoined → t.shared = { s.shared with joined := .lockPending }) ∧
    (t.joinConditions = true → s.shared.joined ≠ .notJoined → t.shared = s.shared) ∧
    (t.joinConditions = false → t.shared = { s.shared with joined := .notJoined }) := by
  refine ⟨fun hc hj => ?_, fun hc hj => ?_, fun hc => ?_⟩
  · rw [h, hc, hj]
    rfl
  · rw [h, hc, joinedNext_of_holds hj]
  · rw [h, hc]
    rfl

/-- Settles O36: a commit by `Ev.commit_new`, the plan by cases on the posture, and the joined mode by `Ev.evalJoined_cases`
and `joined_follows`. -/
theorem commitAndPlan : Obligations.CommitAndPlan := by
  refine ⟨fun e => e.commit_same rfl, fun e p hp => ?_, fun c q => ⟨c.planLit_iff q, c.rotated?_iff q, c.join_iff⟩,
    fun e q => ⟨e.applyPlan_planLit q, e.applyPlan_blocks⟩, fun e => rfl, fun e holds hh => ?_,
    fun e e' holds he hh => ?_⟩
  · obtain ⟨rules, link, gens, focus, now⟩ := e.commit_others hp
    have posture : (e.commit p).s.posture = { e.s.posture with committed := p, candidate := p, dwell := .idle } := by
      rw [e.commit_posture, Classifier.commit_new hp.symm]
    refine ⟨posture, ?_, ?_, fun q => ?_, e.commit_overrides hp, e.commit_hinge p, rules, link, gens, focus, now, ?_⟩
    · rw [e.commit_attn]
      simp [hp.symm]
    · rw [e.commit_new hp]
    · rw [e.commit_planLit hp q, Classifier.planLit_iff]
    · rw [e.commit_attn]
  · obtain rfl : holds = (e.s.joinConditions = true) := propext (hh.trans e.s.joinConditions_iff.symm)
    simp only [Bool.not_eq_true]
    exact e.evalJoined_cases
  · obtain rfl : holds = (e'.s.joinConditions = true) := propext (hh.trans e'.s.joinConditions_iff.symm)
    simp only [Bool.not_eq_true]
    have shared : e'.s.shared = { e.s.shared with joined := joinedNext e'.s.joinConditions e.s.shared.joined } := by
      rcases he with rfl | ⟨p, hp, rfl⟩
      · exact e.applyPlan_shared
      · exact e.commit_shared hp
    obtain ⟨begins, stays, ends⟩ := joined_follows shared
    refine ⟨begins, stays, ends, fun hc hj => ?_⟩
    rcases he with rfl | ⟨p, hp, rfl⟩
    · exact e.applyPlan_resolveAll hc hj
    · rw [e.commit_new hp]

end Sys2Proof.Machine
end

section
/-! SUPPORT. The Posture Classifier's decisions: the candidate for an angle, the fold switch check and the evaluation of a
frame. -/

namespace Sys2Proof.Machine

/-! ### The candidate for an angle -/

section
variable {c : Classifier} {f : Nat}

theorem Classifier.candidateFor_in (h : c.inWidened f c.committed = true) : c.candidateFor f = c.committed := if_pos h

theorem Classifier.candidateFor_out (h : c.inWidened f c.committed = false) : c.candidateFor f = c.plainBand f :=
  if_neg (Bool.eq_false_iff.1 h)

/-- R24: the widened band of each posture, with its lower end counted down from the boundary. -/
theorem Classifier.inWidened_iff (ok : c.Ok) (hf : f ≤ 3600) :
    (c.inWidened f .closed = true ↔ f < c.b1 + c.margin) ∧
    (c.inWidened f .book = true ↔ c.b1 - c.margin ≤ f ∧ f < c.b2 + c.margin) ∧
    (c.inWidened f .flat = true ↔ c.b2 - c.margin ≤ f ∧ f < c.b3 + c.margin) ∧
    (c.inWidened f .tent = true ↔ c.b3 - c.margin ≤ f ∧ f < c.b4 + c.margin) ∧
    (c.inWidened f .folded = true ↔ c.b4 - c.margin ≤ f) := by
  obtain ⟨h1, h12, h23, h34, h4⟩ := ok.widths
  simp only [Classifier.inWidened, Bool.and_eq_true, decide_eq_true_eq]
  exact ⟨trivial, by omega, by omega, by omega, by omega⟩

/-- R23: the plain bands. -/
theorem Classifier.plainBand_iff (ok : c.Ok) (f : Nat) :
    (c.plainBand f = .closed ↔ f < c.b1) ∧ (c.plainBand f = .book ↔ c.b1 ≤ f ∧ f < c.b2) ∧
    (c.plainBand f = .flat ↔ c.b2 ≤ f ∧ f < c.b3) ∧ (c.plainBand f = .tent ↔ c.b3 ≤ f ∧ f < c.b4) ∧
    (c.plainBand f = .folded ↔ c.b4 ≤ f) := by
  obtain ⟨-, h12, h23, h34, -⟩ := ok.order
  unfold Classifier.plainBand
  split_ifs <;> simp only [true_iff, false_iff] <;> omega

/-- R24: with a margin of 0 the widened band of a posture is its plain band. -/
theorem Classifier.candidateFor_margin_zero (ok : c.Ok) (hf : f ≤ 3600) (hm : c.margin = 0) :
    c.candidateFor f = c.plainBand f := by
  cases hw : c.inWidened f c.committed with
  | false => exact c.candidateFor_out hw
  | true =>
    rw [c.candidateFor_in hw]
    obtain ⟨closed, book, flat, tent, folded⟩ := c.inWidened_iff ok hf
    obtain ⟨pclosed, pbook, pflat, ptent, pfolded⟩ := c.plainBand_iff ok f
    cases hp : c.committed <;> rw [hp] at hw
    case unknown => cases hw
    case closed => exact (pclosed.2 (by have := closed.1 hw; omega)).symm
    case book => exact (pbook.2 (by have := book.1 hw; omega)).symm
    case flat => exact (pflat.2 (by have := flat.1 hw; omega)).symm
    case tent => exact (ptent.2 (by have := tent.1 hw; omega)).symm
    case folded => exact (pfolded.2 (by have := folded.1 hw; omega)).symm

end

/-- A posture whose widened band is `inside`: it is the candidate there, and the plain band is elsewhere. -/
theorem Classifier.candidateFor_cases {c : Classifier} {f : Nat} {p : Posture} {inside : Prop} (hp : c.committed = p)
    (hi : c.inWidened f p = true ↔ inside) :
    (inside → c.candidateFor f = p) ∧ (¬inside → c.candidateFor f = c.plainBand f) := by
  subst hp
  exact ⟨fun h => c.candidateFor_in (hi.2 h), fun h => c.candidateFor_out (Bool.eq_false_iff.2 (mt hi.1 h))⟩

/-- Settles O57: in each posture the widened band by `Classifier.inWidened_iff`, and the plain bands. -/
theorem candidateRule : Obligations.CandidateRule := by
  refine ⟨fun c f ok hf => ?_, rfl, fun c hp h1 h2 h3 _ hm => ?_⟩
  · obtain ⟨closed, book, flat, tent, folded⟩ := c.inWidened_iff ok hf
    obtain ⟨pclosed, pbook, pflat, ptent, pfolded⟩ := c.plainBand_iff ok f
    refine ⟨fun hp => ?_, fun hp => ?_, fun hp => ?_, fun hp => ?_, fun hp => ?_, pclosed, pbook, pflat, ptent, pfolded,
      c.candidateFor_margin_zero ok hf⟩
    · obtain ⟨inside, outside⟩ := c.candidateFor_cases hp closed
      exact ⟨inside, fun h => outside (by omega)⟩
    · obtain ⟨inside, outside⟩ := c.candidateFor_cases hp book
      exact ⟨fun lo hi => inside ⟨lo, hi⟩, fun h => outside (by omega)⟩
    · obtain ⟨inside, outside⟩ := c.candidateFor_cases hp flat
      exact ⟨fun lo hi => inside ⟨lo, hi⟩, fun h => outside (by omega)⟩
    · obtain ⟨inside, outside⟩ := c.candidateFor_cases hp tent
      exact ⟨fun lo hi => inside ⟨lo, hi⟩, fun h => outside (by omega)⟩
    · obtain ⟨inside, outside⟩ := c.candidateFor_cases hp folded
      exact ⟨inside, fun h => outside (by omega)⟩
  · simp [Classifier.candidateFor, Classifier.inWidened, Classifier.plainBand, hp, h1, h2, h3, hm]

/-! ### The fold switch check -/

/-- R34: the classifier when the check holds or commits CLOSED. -/
def Classifier.closeNow (c : Classifier) : Classifier :=
  { c with committed := .closed, candidate := .closed, dwell := .idle, disagreement := false }

/-- R35: the classifier in disagreement. -/
def Classifier.disagree (c : Classifier) : Classifier :=
  { c with dwell := .idle, candidate := c.committed, disagreement := true }

section
variable (e : Ev)

@[simp] theorem Ev.modPosture_posture (f : Classifier → Classifier) : (e.modPosture f).s.posture = f e.s.posture := rfl

theorem Ev.closeNow_posture : e.closeNow.s.posture = e.s.posture.closeNow := by
  rw [Ev.closeNow, Ev.commit_posture, Ev.modPosture_posture]
  exact Classifier.commit_ready rfl rfl

/-- R34: the check raises POSTURE when it commits, and no other flag. -/
theorem Ev.closeNow_attn : e.closeNow.s.attn = { e.s.attn with flags := { e.s.attn.flags with
    posture := e.s.attn.flags.posture || decide (e.s.posture.committed ≠ .closed) } } :=
  Ev.commit_attn _

/-- R35: the disagreement, with HINGE at its onset. -/
theorem Ev.disagree_eq : e.disagree = { e with s := { e.s with
    posture := e.s.posture.disagree
    attn := { e.s.attn with flags := { e.s.attn.flags with
      hinge := e.s.attn.flags.hinge || !e.s.posture.disagreement } } } } := by
  unfold Ev.disagree
  cases h : e.s.posture.disagreement <;>
    simp [Ev.modPosture, Ev.raise, Ev.mod, State.raise, FlagSet.put, Classifier.disagree]

/-- The check is not made. -/
theorem Ev.foldCheck_none (h : e.s.posture.switchHeld = false ∨ e.s.hinge.input = .disabled) : e.foldCheck = e := by
  unfold Ev.foldCheck
  rcases h with h | h
  · exact if_neg (Bool.eq_false_iff.1 h)
  · rw [h]
    exact ite_self _

/-- The check holds or commits CLOSED. -/
theorem Ev.foldCheck_closes (hs : e.s.posture.switchHeld = true) (h : e.s.hinge.input = .acquiring ∨
    e.s.hinge.input = .lost ∨ e.s.hinge.input = .tracking ∧ e.s.hinge.filtered ≤ e.s.posture.agreeLimit) :
    e.foldCheck = e.closeNow := by
  refine (if_pos hs).trans ?_
  rcases h with h | h | ⟨h, ha⟩
  · rw [h]
  · rw [h]
  · rw [h]
    exact if_pos ha

/-- The check finds a disagreement. -/
theorem Ev.foldCheck_disagrees (hs : e.s.posture.switchHeld = true) (h : e.s.hinge.input = .tracking)
    (ha : e.s.posture.agreeLimit < e.s.hinge.filtered) : e.foldCheck = e.disagree := by
  refine (if_pos hs).trans ?_
  rw [h]
  exact if_neg (Nat.not_le.2 ha)

/-- R34, R35: what the fold switch check can do. -/
theorem Ev.foldCheck_cases :
    ((e.s.posture.switchHeld = false ∨ e.s.hinge.input = .disabled) ∧ e.foldCheck = e) ∨ e.foldCheck = e.closeNow ∨
    (e.s.hinge.input = .tracking ∧ e.s.posture.agreeLimit < e.s.hinge.filtered ∧ e.foldCheck = e.disagree) := by
  cases hs : e.s.posture.switchHeld with
  | false => exact .inl ⟨.inl rfl, e.foldCheck_none (.inl hs)⟩
  | true =>
    cases hi : e.s.hinge.input with
    | disabled => exact .inl ⟨.inr rfl, e.foldCheck_none (.inr hi)⟩
    | acquiring => exact .inr (.inl (e.foldCheck_closes hs (.inl hi)))
    | lost => exact .inr (.inl (e.foldCheck_closes hs (.inr (.inl hi))))
    | tracking =>
      rcases Nat.lt_or_ge e.s.posture.agreeLimit e.s.hinge.filtered with ha | ha
      · exact .inr (.inr ⟨rfl, ha, e.foldCheck_disagrees hs hi ha⟩)
      · exact .inr (.inl (e.foldCheck_closes hs (.inr (.inr ⟨hi, ha⟩))))

end

/-- Settles O37: the three outcomes of the check. -/
theorem foldSwitchCheck : Obligations.FoldSwitchCheck := by
  refine fun e => ⟨e.foldCheck_none, fun hs h => ?_, fun hs h ha => ?_⟩
  · rw [e.foldCheck_closes hs h, e.closeNow_attn]
    refine ⟨e.closeNow_posture, rfl, e.closeNow_hinge, ?_⟩
    rw [Bool.or_eq_true, decide_eq_true_eq]
  · rw [e.foldCheck_disagrees hs h ha]
    exact e.disagree_eq

/-! ### The evaluation of a frame -/

section
variable (e : Ev)

theorem Ev.evaluate_held (h : e.s.posture.switchHeld = true) : e.evaluate = e.foldCheck := if_pos h

theorem Ev.evaluate_unknown (h : e.s.posture.switchHeld = false) (hp : e.s.posture.committed = .unknown) :
    e.evaluate = if e.s.hinge.swinging then
        e.modPosture fun x => { x with candidate := x.plainBand e.s.hinge.filtered, dwell := .idle }
      else e.commit (e.s.posture.plainBand e.s.hinge.filtered) :=
  (if_neg (Bool.eq_false_iff.1 h)).trans (if_pos hp)

theorem Ev.evaluate_known (h : e.s.posture.switchHeld = false) (hp : e.s.posture.committed ≠ .unknown) :
    e.evaluate = e.applyDwell (e.s.posture.candidateFor e.s.hinge.filtered) :=
  (if_neg (Bool.eq_false_iff.1 h)).trans (if_neg hp)

variable {c : Posture}

/-- R27: the candidate is the posture in force. -/
theorem Ev.applyDwell_cancels (h : c = e.s.posture.committed) :
    e.applyDwell c = e.modPosture fun x => { x with candidate := c, dwell := .idle } := if_pos h

/-- R27: the dwell under way goes on. -/
theorem Ev.applyDwell_keeps (h : c ≠ e.s.posture.committed) (hc : c = e.s.posture.candidate) {t : Nat}
    (hd : e.s.posture.dwell = .running t) : e.applyDwell c = e := by
  rw [Ev.applyDwell, if_neg h, hd]
  exact if_pos hc

/-- R27, R28: a deferred dwell commits when the hinge no longer swings. -/
theorem Ev.applyDwell_deferred (h : c ≠ e.s.posture.committed) (hc : c = e.s.posture.candidate)
    (hd : e.s.posture.dwell = .deferred) : e.applyDwell c = if e.s.hinge.swinging then e else e.commit c := by
  rw [Ev.applyDwell, if_neg h, hd]
  exact if_pos hc

/-- R27: another candidate, or the first, starts a dwell. -/
theorem Ev.applyDwell_starts (h : c ≠ e.s.posture.committed)
    (hd : e.s.posture.dwell = .idle ∨ c ≠ e.s.posture.candidate) : e.applyDwell c = e.startDwell c := by
  rw [Ev.applyDwell, if_neg h]
  split
  · rfl
  · next hrun => exact if_neg (hd.resolve_left (by rw [hrun]; simp))
  · next hdef => exact if_neg (hd.resolve_left (by rw [hdef]; simp))

/-- R27: a dwell that takes time. -/
theorem Ev.startDwell_timed (h : 0 < e.s.posture.dwellMs) : e.startDwell c =
    e.modPosture fun x => { x with candidate := c, dwell := .running (e.s.now + x.dwellMs * 1000) } :=
  if_neg (Nat.pos_iff_ne_zero.1 h)

/-- R27: a dwell time of 0. -/
theorem Ev.startDwell_untimed (h : e.s.posture.dwellMs = 0) : e.startDwell c =
    if e.s.hinge.swinging then e.modPosture fun x => { x with candidate := c, dwell := .deferred }
    else (e.modPosture fun x => { x with candidate := c }).commit c := if_pos h

end

/-- Settles O38: the cases of `Ev.evaluate` and of `Ev.applyDwell`. -/
theorem evaluationOfAFrame : Obligations.EvaluationOfAFrame := by
  intro e cand hcand
  have known (h : e.s.posture.switchHeld = false) (hp : e.s.posture.committed ≠ .unknown) :
      e.evaluate = e.applyDwell cand := hcand ▸ e.evaluate_known h hp
  refine ⟨e.evaluate_held, fun h hp hs => ?_, fun h hp hs => ?_, fun h hp hc => ?_, fun t h hp hc hk hd => ?_,
    fun h hp hc hk hd => ?_, fun h hp hc hd hms => ?_, fun h hp hc hd hms => ?_⟩
  · rw [e.evaluate_unknown h hp, hs]
    rfl
  · rw [e.evaluate_unknown h hp, hs]
    rfl
  · rw [known h hp, e.applyDwell_cancels hc]
    rfl
  · rw [known h hp, e.applyDwell_keeps hc hk hd]
  · rw [known h hp, e.applyDwell_deferred hc hk hd]
  · rw [known h hp, e.applyDwell_starts hc hd, e.startDwell_timed hms]
    rfl
  · rw [known h hp, e.applyDwell_starts hc hd, e.startDwell_untimed hms]
    split
    · rfl
    · exact (Ev.commit_posture _).trans (Classifier.commit_new hc.symm)

end Sys2Proof.Machine
end

section
/-! SUPPORT. The commands of the Posture Classifier: its events, its requests in their turn, and the reports. -/

namespace Sys2Proof.Machine

/-! ### Value codes -/

@[simp] theorem boolOfByte_bitByte (b : Bool) : boolOfByte (bitByte b) = some b := by cases b <;> rfl

@[simp] theorem panelOfByte_code (p : PanelId) : panelOfByte (panelCode p) = some p := by cases p <;> rfl

@[simp] theorem postureOfByte_code (p : Posture) : postureOfByte p.code = some p := by cases p <;> rfl

/-- A byte that is the code of no panel. -/
theorem panelOfByte_none {b : Byte} (h : ∀ p, b ≠ panelCode p) : panelOfByte b = none := by
  unfold panelOfByte
  split
  · next hb => exact absurd (BitVec.eq_of_toNat_eq hb) (h .p0)
  · next hb => exact absurd (BitVec.eq_of_toNat_eq hb) (h .p1)
  · rfl

/-- A byte that is the code of no posture. -/
theorem postureOfByte_none {b : Byte} (h : ∀ p, b ≠ Posture.code p) : postureOfByte b = none := by
  unfold postureOfByte
  split
  · next hb => exact absurd (BitVec.eq_of_toNat_eq hb) (h .unknown)
  · next hb => exact absurd (BitVec.eq_of_toNat_eq hb) (h .closed)
  · next hb => exact absurd (BitVec.eq_of_toNat_eq hb) (h .book)
  · next hb => exact absurd (BitVec.eq_of_toNat_eq hb) (h .flat)
  · next hb => exact absurd (BitVec.eq_of_toNat_eq hb) (h .tent)
  · next hb => exact absurd (BitVec.eq_of_toNat_eq hb) (h .folded)
  · rfl

/-! ### Reports -/

/-- R121: a queue entry, with the time its buffer wait has left. -/
theorem State.queueEntry_eq (s : State) : s.queueEntry = fun j =>
    [byteOf j.handle.gen.val, byteOf j.handle.index.val, j.phase.code,
      panelMask (j.target.pieces.map TargetPiece.panel), bitByte j.next.isSome] ++
      natHalf (match j.waiting, j.expiry with
        | true, some t => (t - s.now + 999) / 1000
        | _, _ => 0) := by
  funext j
  unfold State.queueEntry
  cases j.waiting <;> cases j.expiry <;> rfl

/-- Settles O25: both owners report what the classifier and the queue hold, and the frame taken changes neither. -/
theorem postureAndQueueReports : Obligations.PostureAndQueueReports := by
  refine ⟨fun s h => ?_, fun s h => ?_⟩
  · have ha := answers_of_owner (owner := fun s => report s s.postureReport) h rfl rfl
    rw [State.handed_answered, State.postureReport, State.dwellRemaining, State.handed_posture, State.handed_hinge] at ha
    simp only [State.remainingMs, State.handed_now] at ha
    exact ha
  · have ha := answers_of_owner (owner := fun s => report s s.queueReport) h rfl rfl
    rw [State.handed_answered, State.queueReport, State.handed_queue, State.queueEntry_eq, State.handed_now] at ha
    exact ha

/-! ### FOLD edges, the debounce timer and the dwell -/

section
variable {s : State}

theorem foldEdge_none {level : Bool} (h : level = s.posture.rawLevel) : Answers (.foldEdge level) s s :=
  congrArg Host.Outcome.next (if_pos h)

/-- R33: the debounce time is 8 ms. -/
theorem foldEdge_starts {level : Bool} (h : level ≠ s.posture.rawLevel) (hl : s.link.state ≠ .resetting) :
    Answers (.foldEdge level) s
      { s with posture := { s.posture with rawLevel := level, debounceTimer := some (s.now + 8000) } } :=
  congrArg Host.Outcome.next ((if_neg h).trans (if_neg hl))

/-- R181: during a reset the pin is followed. -/
theorem foldEdge_recorded {level : Bool} (h : level ≠ s.posture.rawLevel) (hl : s.link.state = .resetting) :
    Answers (.foldEdge level) s { s with posture := { s.posture with rawLevel := level } } :=
  congrArg Host.Outcome.next ((if_neg h).trans (if_pos hl))

theorem debounceExpiry_answers {t : Nat} (ht : s.posture.debounceTimer = some t) :
    Answers .debounceExpiry s (Ev.start { s.elapse (t - s.now) with
      posture := { s.posture with debounceTimer := none } }).takeLevel.done := by
  simp only [Answers, exec, execDebounceExpiry, ht]
  rfl

theorem dwellExpiry_answers {t : Nat} (ht : s.posture.dwell = .running t) :
    Answers .dwellExpiry s (Ev.start (s.elapse (t - s.now))).dwellEnd.done := by
  simp only [Answers, exec, execDwellExpiry, ht]
  rfl

theorem dwellExpiry_stopped (h : ∀ t, s.posture.dwell ≠ .running t) : Answers .dwellExpiry s s := by
  cases hd : s.posture.dwell with
  | running t => exact absurd hd (h t)
  | idle | deferred => simp only [Answers, exec, execDwellExpiry, hd]

end

section
variable (e : Ev)

theorem Ev.takeLevel_same (h : e.s.posture.rawLevel = e.s.posture.debounced) : e.takeLevel = e := if_pos h

/-- R33, R34: an assertion makes the fold switch check. -/
theorem Ev.takeLevel_asserted (hr : e.s.posture.rawLevel = true) (hd : e.s.posture.debounced = false) :
    e.takeLevel = (e.modPosture fun c => { c with debounced := true }).foldCheck := by
  simp [Ev.takeLevel, hr, hd]

/-- R36: a release clears the disagreement. -/
theorem Ev.takeLevel_released (hr : e.s.posture.rawLevel = false) (hd : e.s.posture.debounced = true) :
    e.takeLevel = e.modPosture fun c => { c with debounced := false, disagreement := false } := by
  simp [Ev.takeLevel, hr, hd]

theorem Ev.dwellEnd_defers (h : e.s.hinge.swinging = true) :
    e.dwellEnd = e.modPosture fun x => { x with dwell := .deferred } := if_pos h

theorem Ev.dwellEnd_commits (h : e.s.hinge.swinging = false) :
    e.dwellEnd = (e.modPosture fun x => { x with dwell := .idle }).commit e.s.posture.candidate :=
  if_neg (Bool.eq_false_iff.1 h)

end

/-- Settles O50: the three cases of an edge, the debounced level by `Ev.takeLevel`, and the dwell by `Ev.dwellEnd`. -/
theorem postureEvents : Obligations.PostureEvents := by
  refine ⟨fun s level => ⟨foldEdge_none, foldEdge_starts, foldEdge_recorded⟩, fun s ht => ?_, fun s v t ht hv => ?_,
    fun s v t ht hv => ?_, fun s h => dwellExpiry_stopped h⟩
  · simp only [Answers, exec, execDebounceExpiry, ht]
  · have ha := debounceExpiry_answers ht
    subst hv
    refine ⟨fun w h hw => ⟨w.settled_frame, ?_⟩, fun e hr hd he => ⟨e.done_frame, ?_⟩,
      fun w hr hd hw => ⟨w.settled_frame, ?_⟩⟩
    · rw [Ev.takeLevel_same _ h] at ha
      exact hw ▸ ha
    · rw [Ev.takeLevel_asserted _ hr hd] at ha
      exact he ▸ ha
    · rw [Ev.takeLevel_released _ hr hd] at ha
      exact hw ▸ ha
  · have ha := dwellExpiry_answers ht
    subst hv
    refine ⟨fun w h hw => ⟨w.settled_frame, ?_⟩, fun e h he => ⟨e.done_frame, ?_⟩⟩
    · rw [Ev.dwellEnd_defers _ h] at ha
      exact hw ▸ ha
    · rw [Ev.dwellEnd_commits _ h] at ha
      exact he ▸ ha

/-! ### The owners of the posture requests -/

section
variable (u : State)

/-- R40: the switch in use, with the check. -/
theorem ownSetSwitch_on (limit : Half) : ownSetSwitch 1 limit u =
    ((Ev.start { u with posture := { u.posture with
        switchUse := true, agreeLimit := min 900 limit.toNat } }).foldCheck.done,
      ⟨.ok, 1 :: natHalf (min 900 limit.toNat)⟩) := rfl

/-- R40: the switch out of use. -/
theorem ownSetSwitch_off (limit : Half) : ownSetSwitch 0 limit u =
    ({ u with posture := { u.posture with
        switchUse := false, agreeLimit := min 900 limit.toNat, disagreement := false } }.settled,
      ⟨.ok, 0 :: natHalf (min 900 limit.toNat)⟩) := rfl

/-- R37: a forced posture is committed while the input is DISABLED. -/
theorem ownForcePosture_commits (p : Posture) (h : u.hinge.input = .disabled) :
    ownForcePosture p.code u = (((Ev.start u).commit p).done, ⟨.ok, [p.code]⟩) := by
  have committed : ((Ev.start u).commit p).done.posture.committed = p := by
    rw [(Ev.done_inputs _).posture, Ev.commit_posture]
    by_cases hp : (Ev.start u).s.posture.committed = p
    · rw [Classifier.commit_same hp, hp]
    · rw [Classifier.commit_new hp]
  simp [ownForcePosture, h, committed]

theorem ownForcePosture_busy (p : Posture) (h : u.hinge.input ≠ .disabled) :
    ownForcePosture p.code u = refuse u .busy := by
  simp [ownForcePosture, h]

theorem ownSetFront_same : ownSetFront (panelCode u.posture.front) u = (u, ⟨.ok, []⟩) := by
  simp [ownSetFront]

/-- R41: another front panel is a plan change. -/
theorem ownSetFront_changes {p : PanelId} (h : p ≠ u.posture.front) : ownSetFront (panelCode p) u =
    ((Ev.start { u with posture := { u.posture with front := p } }).planChange.done, ⟨.accepted, []⟩) := by
  simp only [ownSetFront, panelOfByte_code, if_neg h]
  rfl

theorem ownSetSpan_same : ownSetSpan (bitByte u.posture.span) u = (u, ⟨.ok, []⟩) := by
  simp [ownSetSpan]

/-- R42: the other span setting is a plan change. -/
theorem ownSetSpan_changes {on : Bool} (h : on ≠ u.posture.span) : ownSetSpan (bitByte on) u =
    ((Ev.start { u with posture := { u.posture with span := on } }).planChange.done, ⟨.accepted, []⟩) := by
  simp only [ownSetSpan, boolOfByte_bitByte, if_neg h]
  rfl

end

/-! ### The posture requests in their turn -/

section
variable {s : State} {b : Byte}

theorem setSwitch_answers {limit : Half} {n : Nat} (h : s.turn (.setSwitch b limit)) (hn : n = min 900 limit.toNat) :
    (2 ≤ b.toNat → Answers (.setSwitch b limit) s (s.answered .badValue [])) ∧
    (∀ e : Ev, b = 1 → e = (Ev.start { s.handed (.setSwitch b limit) with posture := { s.posture with
        switchUse := true, agreeLimit := n } }).foldCheck →
      e.s.EngineFrame e.done ∧ Answers (.setSwitch b limit) s (e.done.answered .ok (b :: natHalf n))) ∧
    (∀ v : State, b = 0 → v = { s.handed (.setSwitch b limit) with posture := { s.posture with
        switchUse := false, agreeLimit := n, disagreement := false } } →
      v.EngineFrame v.settled ∧ Answers (.setSwitch b limit) s (v.settled.answered .ok (b :: natHalf n))) := by
  subst hn
  have own : exec (.setSwitch b limit) s = .next (s.runRequest (.setSwitch b limit) (ownSetSwitch b limit)) := rfl
  refine ⟨fun hb => ?_, fun e hb he => ⟨e.done_frame, ?_⟩, fun v hb hv => ⟨v.settled_frame, ?_⟩⟩
  · exact answers_refused h own (by rw [ownSetSwitch, boolOfByte_of_two_le hb])
  · subst hb
    have ha := answers_of_owner h own (ownSetSwitch_on _ limit)
    rw [State.handed_posture] at ha
    exact he ▸ ha
  · subst hb
    have ha := answers_of_owner h own (ownSetSwitch_off _ limit)
    rw [State.handed_posture] at ha
    exact hv ▸ ha

theorem forcePosture_answers (h : s.turn (.forcePosture b)) :
    ((∀ p, b ≠ Posture.code p) → Answers (.forcePosture b) s (s.answered .badValue [])) ∧
    (∀ p, b = Posture.code p → s.hinge.input ≠ .disabled → Answers (.forcePosture b) s (s.answered .busy [])) ∧
    (∀ p e, b = Posture.code p → s.hinge.input = .disabled → e = (Ev.start (s.handed (.forcePosture b))).commit p →
      e.s.EngineFrame e.done ∧ Answers (.forcePosture b) s (e.done.answered .ok [b])) := by
  have own : exec (.forcePosture b) s = .next (s.runRequest (.forcePosture b) (ownForcePosture b)) := rfl
  refine ⟨fun hb => ?_, fun p hb hi => ?_, fun p e hb hi he => ⟨e.done_frame, ?_⟩⟩
  · exact answers_refused h own (by rw [ownForcePosture, postureOfByte_none hb])
  · subst hb
    exact answers_refused h own (ownForcePosture_busy _ p (by rwa [State.handed_hinge]))
  · subst hb
    exact he ▸ answers_of_owner h own (ownForcePosture_commits _ p (by rwa [State.handed_hinge]))

theorem setFront_answers (h : s.turn (.setFront b)) :
    ((∀ p, b ≠ panelCode p) → Answers (.setFront b) s (s.answered .badValue [])) ∧
    (b = panelCode s.posture.front → Answers (.setFront b) s (s.answered .ok [])) ∧
    (∀ p e, b = panelCode p → p ≠ s.posture.front →
      e = (Ev.start { s.handed (.setFront b) with posture := { s.posture with front := p } }).applyPlan →
      e.s.EngineFrame { e with resolveAll := true }.done ∧
      Answers (.setFront b) s ({ e with resolveAll := true }.done.answered .accepted [])) := by
  have own : exec (.setFront b) s = .next (s.runRequest (.setFront b) (ownSetFront b)) := rfl
  refine ⟨fun hb => ?_, fun hb => ?_, fun p e hb hp he => ⟨Ev.done_frame { e with resolveAll := true }, ?_⟩⟩
  · exact answers_refused h own (by rw [ownSetFront, panelOfByte_none hb])
  · have same := ownSetFront_same (s.handed (.setFront b))
    rw [State.handed_posture, ← hb] at same
    have ha := answers_of_owner h own same
    rwa [State.handed_answered] at ha
  · subst hb
    have ha := answers_of_owner h own (ownSetFront_changes _ (by rwa [State.handed_posture]))
    rw [State.handed_posture] at ha
    exact he ▸ ha

theorem setSpan_answers (h : s.turn (.setSpan b)) :
    (2 ≤ b.toNat → Answers (.setSpan b) s (s.answered .badValue [])) ∧
    (b = bitByte s.posture.span → Answers (.setSpan b) s (s.answered .ok [])) ∧
    (∀ on e, b = bitByte on → on ≠ s.posture.span →
      e = (Ev.start { s.handed (.setSpan b) with posture := { s.posture with span := on } }).applyPlan →
      e.s.EngineFrame { e with resolveAll := true }.done ∧
      Answers (.setSpan b) s ({ e with resolveAll := true }.done.answered .accepted [])) := by
  have own : exec (.setSpan b) s = .next (s.runRequest (.setSpan b) (ownSetSpan b)) := rfl
  refine ⟨fun hb => ?_, fun hb => ?_, fun on e hb hon he => ⟨Ev.done_frame { e with resolveAll := true }, ?_⟩⟩
  · exact answers_refused h own (by rw [ownSetSpan, boolOfByte_of_two_le hb])
  · have same := ownSetSpan_same (s.handed (.setSpan b))
    rw [State.handed_posture, ← hb] at same
    have ha := answers_of_owner h own same
    rwa [State.handed_answered] at ha
  · subst hb
    have ha := answers_of_owner h own (ownSetSpan_changes _ (by rwa [State.handed_posture]))
    rw [State.handed_posture] at ha
    exact he ▸ ha

end

/-- Settles O35: one lemma for each request. -/
theorem postureRequests : Obligations.PostureRequests :=
  ⟨fun _ _ _ _ h hn => setSwitch_answers h hn, fun _ _ h => forcePosture_answers h, fun _ _ h => setFront_answers h,
    fun _ _ h => setSpan_answers h⟩

end Sys2Proof.Machine
end

section
/-! SUPPORT. What every step keeps of the Posture Classifier: its settings in their ranges, and CLOSED while the fold switch holds
it. -/

namespace Sys2Proof.Machine

/-! ### What the classifier's decisions leave alone -/

/-- The classifier with its decisions cleared: posture, candidate, dwell and disagreement. -/
def Classifier.undecided (c : Classifier) : Classifier :=
  { c with committed := .unknown, candidate := .unknown, dwell := .idle, disagreement := false }

theorem Classifier.undecided_ok {c : Classifier} : c.undecided.Ok ↔ c.Ok := ⟨fun h => { h with }, fun h => { h with }⟩

/-- The decisions have no part in the ranges of the settings. -/
theorem Classifier.Ok.of_undecided {c d : Classifier} (ok : c.Ok) (h : d.undecided = c.undecided) : d.Ok :=
  Classifier.undecided_ok.1 (h ▸ Classifier.undecided_ok.2 ok)

/-- The decisions have no part in whether the switch decides. -/
theorem Classifier.switchHeld_of_undecided {c d : Classifier} (h : d.undecided = c.undecided) :
    d.switchHeld = c.switchHeld :=
  show d.undecided.switchHeld = c.undecided.switchHeld from congrArg Classifier.switchHeld h

section
variable (e : Ev)

theorem Ev.commit_undecided (p : Posture) : (e.commit p).s.posture.undecided = e.s.posture.undecided := by
  rw [Ev.commit_posture]
  unfold Classifier.commit
  split <;> rfl

theorem Ev.closeNow_undecided : e.closeNow.s.posture.undecided = e.s.posture.undecided := by
  rw [Ev.closeNow_posture]
  rfl

theorem Ev.foldCheck_undecided : e.foldCheck.s.posture.undecided = e.s.posture.undecided := by
  rcases e.foldCheck_cases with ⟨-, h⟩ | h | ⟨-, -, h⟩
  · rw [h]
  · rw [h, Ev.closeNow_undecided]
  · rw [h, Ev.disagree_eq]
    rfl

theorem Ev.startDwell_undecided (c : Posture) : (e.startDwell c).s.posture.undecided = e.s.posture.undecided := by
  unfold Ev.startDwell
  split
  · split
    · rfl
    · exact Ev.commit_undecided _ c
  · rfl

theorem Ev.applyDwell_undecided (c : Posture) : (e.applyDwell c).s.posture.undecided = e.s.posture.undecided := by
  unfold Ev.applyDwell
  split
  · rfl
  · split
    · exact e.startDwell_undecided c
    · split
      · rfl
      · exact e.startDwell_undecided c
    · split
      · split
        · rfl
        · exact e.commit_undecided c
      · exact e.startDwell_undecided c

theorem Ev.evaluate_undecided : e.evaluate.s.posture.undecided = e.s.posture.undecided := by
  unfold Ev.evaluate
  split
  · exact e.foldCheck_undecided
  · split
    · split
      · rfl
      · exact e.commit_undecided _
    · exact e.applyDwell_undecided _

theorem Ev.dwellEnd_undecided : e.dwellEnd.s.posture.undecided = e.s.posture.undecided := by
  unfold Ev.dwellEnd
  split
  · rfl
  · exact Ev.commit_undecided _ _

end

/-! ### The fold switch holds CLOSED -/

theorem State.SameInputs.switchOk {s t : State} (h : s.SameInputs t) (ok : s.SwitchOk) : t.SwitchOk := by
  obtain ⟨hinge, posture⟩ := h
  exact ⟨by rw [hinge, posture]; exact ok.untrusted, by rw [hinge, posture]; exact ok.agreeing,
    by rw [hinge, posture]; exact ok.dwell⟩

/-- R28: outside TRACKING no dwell is under way. -/
theorem State.SwitchOk.dwell_idle {s : State} (ok : s.SwitchOk) (h : s.hinge.input ≠ .tracking) :
    s.posture.dwell = .idle :=
  Decidable.not_not.1 fun hd => h (ok.dwell hd).1

theorem State.SwitchOk.tracking {s : State} (ok : s.SwitchOk) (h : s.posture.dwell ≠ .idle) : s.hinge.input = .tracking :=
  (ok.dwell h).1

/-- A switch that does not hold asks for a dwell in TRACKING alone. -/
theorem State.switchOk_of_released {s : State} (h : s.posture.switchHeld = false)
    (hd : s.posture.dwell ≠ .idle → s.hinge.input = .tracking) : s.SwitchOk where
  untrusted := fun hs => by simp [h] at hs
  agreeing := fun hs => by simp [h] at hs
  dwell := fun hne => ⟨hd hne, h⟩

/-- A DISABLED input asks for no dwell alone. -/
theorem State.switchOk_of_disabled {s : State} (h : s.hinge.input = .disabled) (hd : s.posture.dwell = .idle) :
    s.SwitchOk where
  untrusted := fun _ hi => by simp [h] at hi
  agreeing := fun _ hi => by simp [h] at hi
  dwell := fun hne => absurd hd hne

/-- R34, R35: the check leaves CLOSED or a disagreement, with no dwell under way. -/
theorem Ev.foldCheck_switchOk (e : Ev) (hd : e.s.posture.dwell ≠ .idle → e.s.hinge.input = .tracking) :
    e.foldCheck.s.SwitchOk := by
  rcases e.foldCheck_cases with ⟨hs | hi, h⟩ | h | ⟨hi, ha, h⟩
  · rw [h]
    exact State.switchOk_of_released hs hd
  · rw [h]
    exact State.switchOk_of_disabled hi (Decidable.not_not.1 fun hne => by cases hi.symm.trans (hd hne))
  · have hp := e.closeNow_posture
    rw [h]
    exact ⟨fun _ _ => by rw [hp]; rfl, fun _ _ _ => by rw [hp]; rfl, fun hne => absurd (by rw [hp]; rfl) hne⟩
  · rw [h, e.disagree_eq]
    exact ⟨fun _ hn => by rcases hn with hn | hn <;> exact absurd (hi.symm.trans hn) (by decide),
      fun _ _ hle => absurd hle (Nat.not_le.2 ha), fun hne => absurd rfl hne⟩

/-- R25: a frame evaluated in TRACKING is the check's while the switch holds. -/
theorem Ev.evaluate_switchOk (e : Ev) (ht : e.s.hinge.input = .tracking) : e.evaluate.s.SwitchOk := by
  cases hs : e.s.posture.switchHeld with
  | true =>
    rw [e.evaluate_held hs]
    exact e.foldCheck_switchOk fun _ => ht
  | false =>
    exact State.switchOk_of_released ((Classifier.switchHeld_of_undecided e.evaluate_undecided).trans hs)
      fun _ => e.evaluate_hinge ▸ ht

/-! ### The two properties together -/

/-- What every command keeps of the classifier. -/
structure State.KeepsPosture (s t : State) : Prop where
  settings : s.posture.Ok → t.posture.Ok
  switch : s.SwitchOk → t.SwitchOk

theorem State.KeepsPosture.refl (s : State) : s.KeepsPosture s := ⟨id, id⟩

theorem State.KeepsPosture.trans {s t u : State} (h : s.KeepsPosture t) (k : t.KeepsPosture u) : s.KeepsPosture u :=
  ⟨k.settings ∘ h.settings, k.switch ∘ h.switch⟩

theorem State.SameInputs.keepsPosture {s t : State} (h : s.SameInputs t) : s.KeepsPosture t :=
  ⟨fun ok => h.posture.symm ▸ ok, h.switchOk⟩

/-- The end of an event leaves the inputs as the event's own effects made them. -/
theorem State.KeepsPosture.done {s : State} {e : Ev} (h : s.KeepsPosture e.s) : s.KeepsPosture e.done :=
  h.trans e.done_inputs.keepsPosture

/-- A request keeps what its owner keeps. -/
theorem State.runRequest_keepsPosture {owner : State → State × Reply} (h : ∀ u : State, u.KeepsPosture (owner u).1)
    (s : State) (c : Instr) : s.KeepsPosture (s.runRequest c owner) := by
  by_cases ht : s.turn c
  · rw [State.runRequest_turn ht]
    have hh : s.SameInputs (s.handed c) := ⟨s.handed_hinge c, s.handed_posture c⟩
    exact (hh.keepsPosture.trans (h _)).trans (State.SameInputs.keepsPosture ⟨rfl, rfl⟩)
  · rw [State.runRequest_busy ht]
    exact s.discard_inputs.keepsPosture

/-- A change of the hinge unit's state outside its input state and its angle. -/
theorem State.setHinge_keepsPosture (s : State) {h : Hinge} (hi : h.input = s.hinge.input)
    (hf : h.filtered = s.hinge.filtered) : s.KeepsPosture { s with hinge := h } where
  settings := id
  switch := fun ok =>
    ⟨fun hs hn => ok.untrusted hs (hi ▸ hn), fun hs hn hl => ok.agreeing hs (hi ▸ hn) (hf ▸ hl), fun hd => by
      obtain ⟨ht, hs⟩ := ok.dwell hd
      exact ⟨hi.trans ht, hs⟩⟩

/-! ### The sensor line -/

/-- R4, R11, R29: a bad event. -/
theorem State.badEvent_keepsPosture (s : State) (c : BadCause) : s.KeepsPosture ((Ev.start s).badEvent c).done := by
  by_cases hl : s.hinge.input = .tracking ∧ s.hinge.badLimit ≤ (s.hinge.countBad c).bad
  · rw [Ev.badEvent_lost hl.1 hl.2]
    refine State.KeepsPosture.done ⟨fun ok => ok.of_undecided (Ev.foldCheck_undecided _), fun _ => ?_⟩
    exact Ev.foldCheck_switchOk _ fun hd => absurd rfl hd
  · rw [Ev.badEvent_counted (by rwa [← Nat.not_le, ← not_and_or])]
    exact State.KeepsPosture.done (s.setHinge_keepsPosture rfl rfl)

/-- R3: the silent timer restarts, and a SILENT bad event is counted. -/
theorem State.silent_keepsPosture (s : State) : s.KeepsPosture ((Ev.start s).restartSilent.badEvent .silent).done :=
  (s.setHinge_keepsPosture (h := { s.hinge with silentTimer := some (s.after s.hinge.silentMs) }) rfl rfl).trans
    (State.badEvent_keepsPosture _ .silent)

/-- R5, R25: a good frame, evaluated in TRACKING. -/
theorem State.goodFrame_keepsPosture (s : State) (raw field : Nat) (count : Fin 16) :
    s.KeepsPosture ((Ev.start s).goodFrame raw field count).done := by
  rw [Ev.goodFrame_start]
  have hiff := s.hinge.goodFrame_input raw field count
  split
  · next ht =>
    exact State.KeepsPosture.done
      ⟨fun ok => ok.of_undecided (Ev.evaluate_undecided _), fun _ => Ev.evaluate_switchOk _ (hiff.2 ht)⟩
  · next ht =>
    have hframe := congrArg Hinge.input (s.hinge.goodFrame_frame raw field count)
    have hinput : (s.hinge.goodFrame raw field count).input = s.hinge.input := hframe.trans (if_neg ht)
    have hnot : s.hinge.input ≠ .tracking := fun h => ht (hiff.1 (hinput.trans h))
    exact State.KeepsPosture.done ⟨id, fun ok =>
      ⟨fun hs hn => ok.untrusted hs (hinput ▸ hn), fun _ hn => absurd (hinput.symm.trans hn) hnot,
        fun hd => absurd (ok.tracking hd) hnot⟩⟩

/-- R1, R2: the end of reception. -/
theorem State.receive_keepsPosture (s : State) (r : Reception) : s.KeepsPosture (s.receive r) := by
  have arrived := s.setHinge_keepsPosture (h := s.hinge.arrived r s.now) rfl rfl
  cases hc : receptionBadCause r with
  | some c =>
    rw [s.receive_bad hc]
    exact arrived.trans (State.badEvent_keepsPosture _ c)
  | none =>
    cases r with
    | framingError => cases hc
    | frame w =>
      rw [s.receive_good hc]
      exact arrived.trans (State.goodFrame_keepsPosture _ _ _ _)

theorem State.frameCell_keepsPosture (s : State) (bits : List Bool) (v : Bool) : s.KeepsPosture (s.frameCell bits v) := by
  unfold State.frameCell
  split
  · exact s.setHinge_keepsPosture rfl rfl
  · split
    · exact s.receive_keepsPosture _
    · exact s.receive_keepsPosture _

/-! ### Resets -/

/-- A reset leaves no decision, and the debounced level released. -/
theorem State.beginSoftReset_keepsPosture (s : State) : s.KeepsPosture s.beginSoftReset where
  settings := fun ok => { ok with }
  switch := fun _ => State.switchOk_of_released (Bool.and_false _) fun hd => absurd rfl hd

theorem State.powerOn_keepsPosture (s : State) (now : Nat) (raw : Bool) (waiting : List Instr) :
    s.KeepsPosture (State.powerOn now raw waiting) where
  settings := fun _ => Classifier.powerOn_ok now raw
  switch := fun _ => State.switchOk_of_released rfl fun hd => absurd rfl hd

theorem State.beginPowerOn_keepsPosture (s : State) (risen : Bool) : s.KeepsPosture (s.beginPowerOn risen) :=
  (s.powerOn_keepsPosture s.now s.posture.rawLevel s.pending).trans
    ⟨fun ok => { ok with }, fun _ => State.switchOk_of_released rfl fun hd => absurd rfl hd⟩

theorem State.endSoftReset_keepsPosture (s : State) : s.KeepsPosture s.endSoftReset where
  settings := fun ok => { ok with }
  switch := fun ok => ⟨ok.untrusted, ok.agreeing, ok.dwell⟩

theorem State.resetRequest_keepsPosture (s : State) : s.KeepsPosture s.resetRequest := by
  unfold State.resetRequest
  split
  · exact s.beginSoftReset_keepsPosture
  · exact s.beginSoftReset_keepsPosture
  · exact s.discard_inputs.keepsPosture
  · exact s.discard_inputs.keepsPosture

theorem State.takeFrame_keepsPosture (s : State) (j : Except Status Instr) : s.KeepsPosture (s.takeFrame j) := by
  unfold State.takeFrame
  split
  · exact State.SameInputs.keepsPosture ⟨rfl, rfl⟩
  · exact s.beginSoftReset_keepsPosture
  · exact State.SameInputs.keepsPosture ⟨rfl, rfl⟩

/-! ### Requests -/

/-- R9: the input enabled; the fold switch check is made. -/
theorem State.enableInput_keepsPosture (s : State) (hi : s.hinge.input = .disabled) :
    s.KeepsPosture (Ev.start s).enableInput.done :=
  .done ⟨fun ok => ok.of_undecided (Ev.foldCheck_undecided _), fun ok =>
    Ev.foldCheck_switchOk _ fun hd => absurd (ok.dwell_idle (by simp [hi])) hd⟩

/-- R8, R29: the input disabled; a dwell under way is dropped with TRACKING. -/
theorem State.disableInput_keepsPosture (s : State) : s.KeepsPosture (Ev.start s).disableInput.done := by
  rw [Ev.disableInput_start]
  refine .done ⟨fun ok => ok.of_undecided ?_, fun ok => State.switchOk_of_disabled rfl ?_⟩
  · show (s.posture.inputDisabled _).undecided = _
    unfold Classifier.inputDisabled
    split <;> rfl
  · show (s.posture.inputDisabled _).dwell = .idle
    unfold Classifier.inputDisabled
    split
    · rfl
    · next ht => exact ok.dwell_idle (by simpa using ht)

theorem ownHingeEnable_keepsPosture (value : Byte) (s : State) : s.KeepsPosture (ownHingeEnable value s).1 := by
  unfold ownHingeEnable
  split
  · exact .refl s
  · simp only
    split
    · next hd _ => exact s.enableInput_keepsPosture (of_decide_eq_true hd)
    · exact s.disableInput_keepsPosture
    · exact .refl s

theorem ownSetCalibration_keepsPosture (points : Vector Half 9) (s : State) :
    s.KeepsPosture (ownSetCalibration points s).1 := by
  unfold ownSetCalibration
  split
  · exact s.setHinge_keepsPosture rfl rfl
  · exact .refl s

theorem ownSetFilter_keepsPosture (shift interval threshold silent limit : Byte) (s : State) :
    s.KeepsPosture (ownSetFilter shift interval threshold silent limit s).1 :=
  s.setHinge_keepsPosture (h := s.hinge.withFilter shift interval threshold silent limit) rfl rfl

/-- R39: the new bands are in order and wide enough; the dwell is dropped. -/
theorem ownSetBands_keepsPosture (b1 b2 b3 b4 margin dwell : Half) (s : State) :
    s.KeepsPosture (ownSetBands b1 b2 b3 b4 margin dwell s).1 := by
  unfold ownSetBands
  split
  · next hb =>
    obtain ⟨h1, h12, h23, h34, h4, hm, w1, w12, w23, w34, w4⟩ := (bandsOk_iff _ _ _ _ _).1 hb
    exact ⟨fun ok => ⟨⟨h1, h12, h23, h34, h4⟩, hm, ⟨w1, w12, w23, w34, w4⟩, Nat.min_le_left _ _, ok.agreeLimit⟩,
      fun ok => ⟨ok.untrusted, ok.agreeing, fun hd => absurd rfl hd⟩⟩
  · exact .refl s

/-- R40: the new agree limit is at most 90.0°; the check is made, or the switch does not hold. -/
theorem ownSetSwitch_keepsPosture (use : Byte) (limit : Half) (s : State) :
    s.KeepsPosture (ownSetSwitch use limit s).1 := by
  have limited (on : Bool) (ok : s.posture.Ok) :
      { s.posture with switchUse := on, agreeLimit := min 900 limit.toNat }.Ok :=
    { ok with agreeLimit := Nat.min_le_left _ _ }
  unfold ownSetSwitch
  split
  · exact .refl s
  · next on _ =>
    cases on with
    | true =>
      exact .done ⟨fun ok => (limited true ok).of_undecided (Ev.foldCheck_undecided _),
        fun ok => Ev.foldCheck_switchOk _ ok.tracking⟩
    | false =>
      exact .done ⟨fun ok => (limited false ok).of_undecided rfl,
        fun ok => State.switchOk_of_released rfl ok.tracking⟩

/-- R37: a posture is forced only while the input is DISABLED. -/
theorem ownForcePosture_keepsPosture (code : Byte) (s : State) : s.KeepsPosture (ownForcePosture code s).1 := by
  unfold ownForcePosture
  split
  · exact .refl s
  · next p _ =>
    split
    · next hi =>
      refine .done ⟨fun ok => ok.of_undecided (Ev.commit_undecided _ p), fun ok => ?_⟩
      refine State.switchOk_of_disabled ((congrArg Hinge.input (Ev.commit_hinge _ p)).trans hi) ?_
      rw [Ev.commit_posture]
      unfold Classifier.commit
      split
      · exact ok.dwell_idle (by simp [hi])
      · rfl
    · exact .refl s

/-- R32: a plan change with the classifier's front panel or span setting changed. -/
theorem State.planChange_keepsPosture (s : State) {c : Classifier} (hok : s.posture.Ok → c.Ok)
    (hswitch : s.SwitchOk → { s with posture := c }.SwitchOk) :
    s.KeepsPosture (Ev.start { s with posture := c }).planChange.done :=
  .done <| State.KeepsPosture.trans (t := { s with posture := c }) ⟨hok, hswitch⟩
    (Ev.applyPlan_blocks (Ev.start { s with posture := c })).inputs.keepsPosture

theorem ownSetFront_keepsPosture (value : Byte) (s : State) : s.KeepsPosture (ownSetFront value s).1 := by
  unfold ownSetFront
  split
  · exact .refl s
  · split
    · exact .refl s
    · exact s.planChange_keepsPosture (fun ok => { ok with }) fun ok => ⟨ok.untrusted, ok.agreeing, ok.dwell⟩

theorem ownSetSpan_keepsPosture (value : Byte) (s : State) : s.KeepsPosture (ownSetSpan value s).1 := by
  unfold ownSetSpan
  split
  · exact .refl s
  · split
    · exact .refl s
    · exact s.planChange_keepsPosture (fun ok => { ok with }) fun ok => ⟨ok.untrusted, ok.agreeing, ok.dwell⟩

/-! ### The classifier's events -/

/-- R33: the pin is followed. -/
theorem State.setRaw_keepsPosture (s : State) (level : Bool) (t : Timer) :
    s.KeepsPosture { s with posture := { s.posture with rawLevel := level, debounceTimer := t } } where
  settings := fun ok => { ok with }
  switch := fun ok => ⟨ok.untrusted, ok.agreeing, ok.dwell⟩

/-- R33, R34, R36: the debounced level taken. -/
theorem State.takeLevel_keepsPosture (s : State) : s.KeepsPosture (Ev.start s).takeLevel.done := by
  have asserted (ok : s.posture.Ok) : { s.posture with debounced := true }.Ok := { ok with }
  unfold Ev.takeLevel
  split
  · exact .done (.refl s)
  · split
    · exact .done ⟨fun ok => (asserted ok).of_undecided (Ev.foldCheck_undecided _),
        fun ok => Ev.foldCheck_switchOk _ ok.tracking⟩
    · exact .done ⟨fun ok => { ok with }, fun ok => State.switchOk_of_released (Bool.and_false _) ok.tracking⟩

/-- R28: the end of a dwell, which was under way in TRACKING with the switch not holding. -/
theorem State.dwellEnd_keepsPosture (s : State) (h : s.posture.dwell ≠ .idle) :
    s.KeepsPosture (Ev.start s).dwellEnd.done := by
  refine .done ⟨fun ok => ok.of_undecided (Ev.dwellEnd_undecided _), fun ok => ?_⟩
  obtain ⟨ht, hs⟩ := ok.dwell h
  exact State.switchOk_of_released ((Classifier.switchHeld_of_undecided (Ev.dwellEnd_undecided _)).trans hs)
    fun _ => (Ev.dwellEnd_hinge _).symm ▸ ht

/-! ### Every command -/

theorem exec_keepsPosture (c : Instr) (s : State) : ∃ t, exec c s = .next t ∧ s.KeepsPosture t := by
  cases hc : movesInputs c with
  | false =>
    obtain ⟨t, ht, same⟩ := exec_inputs hc s
    exact ⟨t, ht, same.keepsPosture⟩
  | true =>
    have reached (t : Nat) : s.KeepsPosture (s.reach t) := State.SameInputs.keepsPosture ⟨rfl, rfl⟩
    cases c
    case writeTransaction bytes n =>
      refine ⟨_, rfl, ?_⟩
      split
      · exact s.takeFrame_keepsPosture _
      · exact s.takeFrame_keepsPosture _
      · exact s.discard_inputs.keepsPosture
      · exact s.discard_inputs.keepsPosture
    case powerOnReset => exact ⟨_, rfl, s.beginPowerOn_keepsPosture _⟩
    case powerOnResetEnd =>
      refine ⟨_, rfl, ?_⟩
      split
      · exact s.powerOn_keepsPosture _ _ _
      · exact .refl s
    case softResetEnd =>
      refine ⟨_, rfl, ?_⟩
      split
      · exact s.endSoftReset_keepsPosture
      · exact .refl s
    case reset => exact ⟨_, rfl, s.resetRequest_keepsPosture⟩
    case hingeEnable v => exact ⟨_, rfl, s.runRequest_keepsPosture (ownHingeEnable_keepsPosture v) _⟩
    case setCalibration points => exact ⟨_, rfl, s.runRequest_keepsPosture (ownSetCalibration_keepsPosture points) _⟩
    case setFilter => exact ⟨_, rfl, s.runRequest_keepsPosture (ownSetFilter_keepsPosture _ _ _ _ _) _⟩
    case lineIdle =>
      refine ⟨_, rfl, ?_⟩
      split
      · exact s.setHinge_keepsPosture rfl rfl
      · exact .refl s
    case frameArrival r =>
      refine ⟨_, rfl, ?_⟩
      split
      · exact s.receive_keepsPosture r
      · exact .refl s
    case cellTimeout =>
      refine ⟨_, rfl, ?_⟩
      split
      · split
        · exact (reached _).trans (State.receive_keepsPosture _ _)
        · exact .refl s
      · exact .refl s
    case silentExpiry =>
      refine ⟨_, rfl, ?_⟩
      split
      · exact .refl s
      · exact (reached _).trans (State.silent_keepsPosture _)
    case hsnsCell n =>
      refine ⟨_, rfl, ?_⟩
      split
      · split
        · exact .refl s
        · split
          · exact s.receive_keepsPosture _
          · exact s.setHinge_keepsPosture rfl rfl
        · exact s.frameCell_keepsPosture _ _
      · exact .refl s
    case dwellExpiry =>
      refine ⟨_, rfl, ?_⟩
      split
      · next t ht => exact (reached t).trans (State.dwellEnd_keepsPosture _ fun hd => by cases ht.symm.trans hd)
      · exact .refl s
    case foldEdge level =>
      refine ⟨_, rfl, ?_⟩
      split
      · exact .refl s
      · split
        · exact s.setRaw_keepsPosture level _
        · exact s.setRaw_keepsPosture level _
    case debounceExpiry =>
      refine ⟨_, rfl, ?_⟩
      split
      · exact .refl s
      · next t _ =>
        exact ((reached t).trans (State.setRaw_keepsPosture _ _ none)).trans (State.takeLevel_keepsPosture _)
    case setBands => exact ⟨_, rfl, s.runRequest_keepsPosture (ownSetBands_keepsPosture _ _ _ _ _ _) _⟩
    case setSwitch => exact ⟨_, rfl, s.runRequest_keepsPosture (ownSetSwitch_keepsPosture _ _) _⟩
    case forcePosture => exact ⟨_, rfl, s.runRequest_keepsPosture (ownForcePosture_keepsPosture _) _⟩
    case setFront => exact ⟨_, rfl, s.runRequest_keepsPosture (ownSetFront_keepsPosture _) _⟩
    case setSpan => exact ⟨_, rfl, s.runRequest_keepsPosture (ownSetSpan_keepsPosture _) _⟩
    all_goals cases hc

/-- What every command and a microsecond without one keep, whatever waits, every step keeps. -/
theorem keptByStep_of_exec {P : State → Prop} (hwaiting : ∀ s rest, P s → P { s with pending := rest })
    (helapse : ∀ s, P s → P (s.elapse 1)) (hexec : ∀ c s, P s → ∃ t, exec c s = .next t ∧ P t) : KeptByStep P := by
  intro s t hs ht
  have answered (c : Instr) (u : State) (hu : P u) (h : exec c u = .next t) : P t := by
    obtain ⟨v, hv, hP⟩ := hexec c u hu
    cases hv.symm.trans h
    exact hP
  unfold step at ht
  split at ht
  · unfold idle at ht
    split at ht
    · exact answered _ s hs ht
    · cases ht
      exact helapse s hs
  · exact answered _ _ (hwaiting s _ hs) ht

/-- Settles O9: each command keeps it, by `exec_keepsPosture`. -/
theorem switchKept : Obligations.SwitchKept :=
  keptByStep_of_exec (fun _ _ ok => ⟨ok.untrusted, ok.agreeing, ok.dwell⟩) (fun s ok => (s.elapse_inputs 1).switchOk ok)
    fun c s ok => by
      obtain ⟨t, ht, kept⟩ := exec_keepsPosture c s
      exact ⟨t, ht, kept.switch ok⟩

end Sys2Proof.Machine
end

section
/-! SUPPORT. What every step keeps of the settings the Panel Controllers share (R144, R145): only their own requests and a
power-on reset change them. -/

namespace Sys2Proof.Machine

/-! ### The shared settings -/

/-- What the controllers share, with the joined mode left out. -/
def State.settings (s : State) : Shared := { s.shared with joined := .notJoined }

theorem State.settings_of_shared {s t : State} (h : t.shared = s.shared) : t.settings = s.settings :=
  congrArg (fun g : Shared => { g with joined := .notJoined }) h

theorem State.settings_ok {s : State} : s.settings.Ok ↔ s.shared.Ok := ⟨fun h => { h with }, fun h => { h with }⟩

/-- The joined mode has no part in the ranges. -/
theorem Shared.Ok.of_settings {s t : State} (ok : s.shared.Ok) (h : t.settings = s.settings) : t.shared.Ok :=
  State.settings_ok.1 (h ▸ State.settings_ok.2 ok)

theorem State.EngineFrame.settings {s t : State} (h : s.EngineFrame t) : t.settings = s.settings :=
  State.settings_of_shared h.shared

theorem State.TableFrame.settings {s t : State} (h : s.TableFrame t) : t.settings = s.settings :=
  State.settings_of_shared h.shared

/-- An operation made for each member of a list keeps the settings if one does. -/
theorem Ev.foldl_settings {α : Type} (f : Ev → α → Ev) (hf : ∀ (e : Ev) (a : α), (f e a).s.settings = e.s.settings)
    (l : List α) (e : Ev) : (l.foldl f e).s.settings = e.s.settings := by
  induction l generalizing e with
  | nil => rfl
  | cons a l ih => exact (ih (f e a)).trans (hf e a)

/-! ### Service, power and the plan -/

section
variable (e : Ev) (p : PanelId)

theorem Ev.done_settings : e.done.settings = e.s.settings := e.done_frame.settings

theorem Ev.evalJoined_settings : e.evalJoined.s.settings = e.s.settings := by
  rw [Ev.evalJoined_s]
  rfl

theorem Ev.leaveService_settings (b : Bool) : (e.leaveService p b).s.settings = e.s.settings :=
  (e.leaveService_reports p b).settings.trans (Ev.evalJoined_settings _)

theorem Ev.powerDown_settings : (e.powerDown p).s.settings = e.s.settings := by
  simp only [Ev.powerDown]
  split
  · exact Ev.leaveService_settings _ p _
  · rfl

theorem Ev.demandOff_settings : (e.demandOff p).s.settings = e.s.settings := by
  unfold Ev.demandOff
  split
  · exact e.powerDown_settings p
  · exact e.powerDown_settings p
  · exact e.powerDown_settings p
  · rfl

theorem State.modPanel_settings (s : State) (f : Panel → Panel) : (s.modPanel p f).settings = s.settings := rfl

theorem State.enterOff_settings (s : State) : (s.enterOff p).settings = s.settings :=
  State.settings_of_shared (s.enterOff_shared p)

theorem State.checkPowerUp_settings (s : State) : (s.checkPowerUp p).settings = s.settings :=
  State.settings_of_shared (s.checkPowerUp_shared p)

theorem Ev.changeDemand_settings (f : Panel → Panel) : (e.changeDemand p f).s.settings = e.s.settings := by
  simp only [Ev.changeDemand]
  split
  · exact State.checkPowerUp_settings p _
  · exact Ev.demandOff_settings _ p
  · rfl

theorem Ev.setEnable_settings (on : Bool) : (e.setEnable p on).s.settings = e.s.settings :=
  e.changeDemand_settings p _

theorem Ev.applyPlan_settings : e.applyPlan.s.settings = e.s.settings := by
  rw [State.settings, Ev.applyPlan_shared]
  rfl

theorem Ev.goOffline_settings (c : FaultCause) : (e.goOffline p c).s.settings = e.s.settings := by
  simp only [Ev.goOffline]
  split
  · exact Ev.leaveService_settings _ p _
  · rfl

theorem Ev.leaveOffline_settings : (e.leaveOffline p).s.settings = e.s.settings :=
  State.enterOff_settings p _

/-! ### The health counter -/

theorem Ev.checkWarning_settings : (e.checkWarning p).s.settings = e.s.settings := by
  simp only [Ev.checkWarning]
  split
  · split <;> rfl
  · rfl

theorem Ev.checkLevels_settings : (e.checkLevels p).s.settings = e.s.settings := by
  simp only [Ev.checkLevels]
  split
  · exact e.goOffline_settings p _
  · split
    · rfl
    · split <;> rfl

theorem Ev.checkHealth_settings : (e.checkHealth p).s.settings = e.s.settings :=
  (Ev.checkLevels_settings _ p).trans (e.checkWarning_settings p)

theorem Ev.checkTimeout_settings (s : State) : (Ev.checkTimeout p s e).s.settings = e.s.settings := by
  unfold Ev.checkTimeout
  split
  · exact e.checkHealth_settings p
  · rfl

/-! ### The frame start -/

theorem Ev.reportApplied_tableFrame (s : State) (k : Fin 16) : e.s.TableFrame (Ev.reportApplied p s e k).s := by
  unfold Ev.reportApplied
  split
  · exact .refl _
  · simp only
    split
    · refine State.TableFrame.trans ?_ (State.modJob_tableFrame _ _ _)
      refine State.TableFrame.trans ?_ (State.checkCurrency_tableFrame _ _)
      exact State.modRecord_tableFrame _ _ fun _ => rfl
    · refine State.TableFrame.trans ?_ (State.modJob_tableFrame _ _ _)
      refine State.TableFrame.trans ?_ (State.checkCurrency_tableFrame _ _)
      refine State.TableFrame.trans ?_ (State.checkRetired_tableFrame _ _)
      exact State.modRecord_tableFrame _ _ fun _ => rfl

theorem Ev.reportFrame_settings (s : State) : (Ev.reportFrame p s e).s.settings = e.s.settings :=
  (Ev.foldl_tableFrame _ (fun d k => Ev.reportApplied_tableFrame d p s k) _ e).settings

theorem State.openFrame_settings (s : State) : (s.openFrame p).settings = s.settings :=
  State.settings_of_shared (s.openFrame_shared p)

theorem Ev.soloFrame_settings : (e.soloFrame p).s.settings = e.s.settings := by
  simp only [Ev.soloFrame]
  rw [Ev.checkTimeout_settings, (Ev.endSteps_frame _).settings, Ev.reportFrame_settings]
  exact State.openFrame_settings p _

theorem Ev.jointFrame_settings : e.jointFrame.s.settings = e.s.settings := by
  simp only [Ev.jointFrame]
  rw [Ev.checkTimeout_settings, Ev.checkTimeout_settings, (Ev.endSteps_frame _).settings, Ev.reportFrame_settings,
    Ev.reportFrame_settings]
  exact (State.openFrame_settings .p1 _).trans (State.openFrame_settings .p0 _)

theorem Ev.frameStart_settings : (e.frameStart p).s.settings = e.s.settings := by
  unfold Ev.frameStart
  split
  · exact e.jointFrame_settings
  · exact Ev.jointFrame_settings _
  · exact e.soloFrame_settings _

theorem Ev.enterOn_settings : (e.enterOn p).s.settings = e.s.settings := by
  unfold Ev.enterOn
  rw [Ev.evalJoined_settings, (Ev.examineAll_frame _).settings]
  exact Ev.soloFrame_settings _ p

/-! ### The classifier's decisions -/

theorem Ev.commit_settings (c : Posture) : (e.commit c).s.settings = e.s.settings := by
  by_cases h : e.s.posture.committed = c
  · rw [e.commit_same h]
  · rw [State.settings, e.commit_shared (Ne.symm h)]
    rfl

theorem Ev.foldCheck_settings : e.foldCheck.s.settings = e.s.settings := by
  rcases e.foldCheck_cases with ⟨-, h⟩ | h | ⟨-, -, h⟩
  · rw [h]
  · rw [h]
    exact Ev.commit_settings _ _
  · rw [h, Ev.disagree_eq]
    rfl

theorem Ev.startDwell_settings (c : Posture) : (e.startDwell c).s.settings = e.s.settings := by
  unfold Ev.startDwell
  split
  · split
    · rfl
    · exact Ev.commit_settings _ c
  · rfl

theorem Ev.applyDwell_settings (c : Posture) : (e.applyDwell c).s.settings = e.s.settings := by
  unfold Ev.applyDwell
  split
  · rfl
  · split
    · exact e.startDwell_settings c
    · split
      · rfl
      · exact e.startDwell_settings c
    · split
      · split
        · rfl
        · exact e.commit_settings c
      · exact e.startDwell_settings c

theorem Ev.evaluate_settings : e.evaluate.s.settings = e.s.settings := by
  unfold Ev.evaluate
  split
  · exact e.foldCheck_settings
  · split
    · split
      · rfl
      · exact e.commit_settings _
    · exact e.applyDwell_settings _

theorem Ev.dwellEnd_settings : e.dwellEnd.s.settings = e.s.settings := by
  unfold Ev.dwellEnd
  split
  · rfl
  · exact Ev.commit_settings _ _

theorem Ev.takeLevel_settings : e.takeLevel.s.settings = e.s.settings := by
  unfold Ev.takeLevel
  split
  · rfl
  · split
    · exact Ev.foldCheck_settings _
    · rfl

end

/-! ### The sensor line -/

section
variable (s : State)

theorem State.badEvent_settings (c : BadCause) : ((Ev.start s).badEvent c).done.settings = s.settings := by
  rw [Ev.done_settings]
  simp only [Ev.badEvent]
  split
  · exact Ev.foldCheck_settings _
  · rfl

theorem State.goodFrame_settings (raw field : Nat) (count : Fin 16) :
    ((Ev.start s).goodFrame raw field count).done.settings = s.settings := by
  rw [Ev.done_settings, Ev.goodFrame_start]
  split
  · exact Ev.evaluate_settings _
  · rfl

theorem State.receive_settings (r : Reception) : (s.receive r).settings = s.settings := by
  cases hc : receptionBadCause r with
  | some c =>
    rw [s.receive_bad hc]
    exact State.badEvent_settings _ c
  | none =>
    cases r with
    | framingError => cases hc
    | frame w =>
      rw [s.receive_good hc]
      exact State.goodFrame_settings _ _ _ _

theorem State.frameCell_settings (bits : List Bool) (v : Bool) : (s.frameCell bits v).settings = s.settings := by
  unfold State.frameCell
  split
  · rfl
  · split
    · exact s.receive_settings _
    · exact s.receive_settings _

/-! ### The link -/

theorem State.discard_settings : s.discard.settings = s.settings := by
  rw [State.discard_eq]
  split <;> rfl

theorem State.takeFrame_settings (j : Except Status Instr) : (s.takeFrame j).settings = s.settings := by
  unfold State.takeFrame
  split <;> rfl

theorem State.resetRequest_settings : s.resetRequest.settings = s.settings := by
  unfold State.resetRequest
  split
  · rfl
  · rfl
  · exact s.discard_settings
  · exact s.discard_settings

theorem State.read_settings (busy : Bool) (n : Nat) : (s.read busy n).settings = s.settings := by
  simp only [State.read, State.deliver]
  split
  · split <;> rfl
  · rfl

/-- A request keeps what its owner keeps of the shared settings. -/
theorem State.runRequest_shared {owner : State → State × Reply}
    (h : ∀ u : State, u.shared.Ok → (owner u).1.shared.Ok) (c : Instr) (ok : s.shared.Ok) :
    (s.runRequest c owner).shared.Ok := by
  by_cases ht : s.turn c
  · rw [State.runRequest_turn ht]
    exact h (s.handed c) ((s.handed_shared c).symm ▸ ok)
  · rw [State.runRequest_busy ht]
    exact ok.of_settings s.discard_settings

/-! ### The acknowledgement paths -/

theorem State.atTimer_settings {f : State → State} (h : ∀ u : State, (f u).settings = u.settings) (t : Timer) :
    (s.atTimer t f).settings = s.settings := by
  cases t with
  | none => rfl
  | some t => exact h _

theorem State.trainOk_settings (p : PanelId) : (s.trainOk p).settings = s.settings := by
  unfold State.trainOk
  split
  · exact (Ev.done_settings _).trans (Ev.enterOn_settings _ p)
  · rfl

theorem State.settleAck_settings (p : PanelId) (f : Panel → Panel) : (s.settleAck p f).settings = s.settings := by
  unfold State.settleAck
  split
  · exact (Ev.done_settings _).trans (Ev.checkHealth_settings _ p)
  · rfl

theorem State.ackByte_settings (p : PanelId) (code : Byte) (stop : Bool) :
    (s.ackByte p code stop).settings = s.settings := by
  unfold State.ackByte
  split
  · split
    · exact s.trainOk_settings p
    · split
      · exact s.settleAck_settings p _
      · exact s.settleAck_settings p _
  · exact State.settleAck_settings _ p _

theorem State.settings_ite {p : Prop} [Decidable p] {s t : State} (h : t.settings = s.settings) :
    (if p then t else s).settings = s.settings := by
  split
  · exact h
  · rfl

end

/-! ### Requests of the hinge, the posture and the panels -/

section
variable (s : State)

theorem ownHingeEnable_settings (value : Byte) : (ownHingeEnable value s).1.settings = s.settings := by
  unfold ownHingeEnable
  split
  · rfl
  · simp only
    split
    · exact (Ev.done_settings _).trans (Ev.foldCheck_settings _)
    · rw [Ev.disableInput_start]
      exact Ev.done_settings _
    · rfl

theorem ownSetCalibration_settings (points : Vector Half 9) : (ownSetCalibration points s).1.settings = s.settings := by
  unfold ownSetCalibration
  split <;> rfl

theorem ownSetBands_settings (b1 b2 b3 b4 margin dwell : Half) :
    (ownSetBands b1 b2 b3 b4 margin dwell s).1.settings = s.settings := by
  unfold ownSetBands
  split <;> rfl

theorem ownSetSwitch_settings (use : Byte) (limit : Half) : (ownSetSwitch use limit s).1.settings = s.settings := by
  unfold ownSetSwitch
  split
  · rfl
  · simp only [Ev.done_settings]
    split
    · exact Ev.foldCheck_settings _
    · rfl

theorem ownForcePosture_settings (code : Byte) : (ownForcePosture code s).1.settings = s.settings := by
  unfold ownForcePosture
  split
  · rfl
  · split
    · exact (Ev.done_settings _).trans (Ev.commit_settings _ _)
    · rfl

theorem Ev.planChange_settings (e : Ev) : e.planChange.done.settings = e.s.settings :=
  (Ev.done_settings _).trans e.applyPlan_settings

theorem ownSetFront_settings (value : Byte) : (ownSetFront value s).1.settings = s.settings := by
  unfold ownSetFront
  split
  · rfl
  · split
    · rfl
    · exact Ev.planChange_settings _

theorem ownSetSpan_settings (value : Byte) : (ownSetSpan value s).1.settings = s.settings := by
  unfold ownSetSpan
  split
  · rfl
  · split
    · rfl
    · exact Ev.planChange_settings _

theorem ownSetRefresh_settings (panel : Byte) (period lead : Half) :
    (ownSetRefresh panel period lead s).1.settings = s.settings := by
  unfold ownSetRefresh
  split
  · rfl
  · simp only [State.pendRefresh]
    split <;> rfl

theorem ownPanelEnable_settings (panel value : Byte) : (ownPanelEnable panel value s).1.settings = s.settings := by
  unfold ownPanelEnable
  split
  · exact (Ev.done_settings _).trans (Ev.setEnable_settings _ _ _)
  · rfl

theorem ownReadPanel_settings (panel : Byte) : (ownReadPanel panel s).1.settings = s.settings := by
  unfold ownReadPanel
  split <;> rfl

theorem ownPanelRecover_settings (panel : Byte) : (ownPanelRecover panel s).1.settings = s.settings := by
  unfold ownPanelRecover
  split
  · rfl
  · simp only
    split
    · exact (Ev.done_settings _).trans (Ev.leaveOffline_settings _ _)
    · rfl

theorem ownSetRecoveryMode_settings (panel recovery capture : Byte) :
    (ownSetRecoveryMode panel recovery capture s).1.settings = s.settings := by
  unfold ownSetRecoveryMode
  split <;> rfl

/-- R144: the geometry taken is in range. -/
theorem ownSetPanelGeometry_shared (w h g : Half) (ok : s.shared.Ok) : (ownSetPanelGeometry w h g s).1.shared.Ok := by
  unfold ownSetPanelGeometry
  split
  · next hg =>
    simp only [geometryOk, Bool.and_eq_true, decide_eq_true_eq] at hg
    obtain ⟨⟨⟨⟨w1, w2⟩, h1⟩, h2⟩, hs⟩ := hg
    split
    · refine Shared.Ok.of_settings ?_ (Ev.done_settings _)
      exact { ok with width := ⟨w1, w2⟩, height := ⟨h1, h2⟩, seam := hs }
    · exact ok
  · exact ok

/-- R145: the timings taken are clamped to their ranges. -/
theorem Shared.Ok.withTimings {g : Shared} (ok : g.Ok) (rail rst train down off quiet : Nat) :
    (g.withTimings rail rst train down off quiet).Ok :=
  { ok with
    rail := ⟨le_clamp _ _ _, clamp_le (by decide) _⟩
    rst := ⟨le_clamp _ _ _, clamp_le (by decide) _⟩
    train := ⟨le_clamp _ _ _, clamp_le (by decide) _⟩
    down := ⟨le_clamp _ _ _, clamp_le (by decide) _⟩
    off := Nat.min_le_left _ _
    quiet := ⟨le_clamp _ _ _, clamp_le (by decide) _⟩ }

/-- R143: the lending setting has no part in the ranges. -/
theorem ownSetLending_shared (lender count : Byte) (ok : s.shared.Ok) : (ownSetLending lender count s).1.shared.Ok := by
  unfold ownSetLending
  split
  · exact ok
  · split
    · split
      · exact ok
      · split
        · refine Shared.Ok.of_settings ?_ (Ev.done_settings _)
          exact { ok with }
        · exact ok
    · exact ok

end
end Sys2Proof.Machine
end

section
/-! SUPPORT. The requests of the records and of the attention flags have no part in the shared settings; and what every command
does with them. -/

namespace Sys2Proof.Machine

/-! ### Requests of the records -/

section
variable (e : Ev) (i : Fin 40)

theorem Ev.reply_settings (payload : State → List Byte) : (e.reply payload).1.settings = e.s.settings := e.done_settings

theorem Ev.reresolve_settings : (e.reresolve i).s.settings = e.s.settings := (e.reresolve_frame i).settings

theorem Ev.modRecord_settings (f : Record → Record) : (e.modRecord i f).s.settings = e.s.settings :=
  State.settings_of_shared (e.s.modRecord_shared i f)

theorem Ev.restage_settings (f : SlotConfig → SlotConfig) : (e.restage i f).s.settings = e.s.settings :=
  State.settings_of_shared (State.restageAll_shared _ i f)

theorem Ev.settleWait_settings : (e.settleWait i).s.settings = e.s.settings := (Ev.examine_frame _ i).settings

theorem State.checkCurrency_settings (s : State) : (s.checkCurrency i).settings = s.settings :=
  (s.checkCurrency_tableFrame i).settings

theorem Ev.offer_settings (r : Record) (b : Buffer) (c : OfferCase) : (e.offer i r b c).s.settings = e.s.settings := by
  cases c with
  | mismatch => rfl
  | settles =>
    simp only [Ev.offer]
    rw [Ev.settleWait_settings]
    exact (State.checkCurrency_settings i _).trans (e.modRecord_settings i _)
  | restages =>
    exact (State.checkCurrency_settings i _).trans ((Ev.restage_settings _ i _).trans (e.modRecord_settings i _))
  | direct =>
    simp only [Ev.offer]
    split
    · exact (Ev.reresolve_settings _ i).trans (e.modRecord_settings i _)
    · exact e.modRecord_settings i _

theorem Ev.amended_settings (old new : Record) : (e.amended i old new).s.settings = e.s.settings := by
  have restaged (p : Prop) [Decidable p] (f : SlotConfig → SlotConfig) :
      (if p then e.restage i f else e).s.settings = e.s.settings := by
    split
    · exact e.restage_settings i f
    · rfl
  simp only [Ev.amended]
  split
  · exact (Ev.reresolve_settings _ i).trans (restaged _ _)
  · exact restaged _ _

/-- R62: the register, then the focus marks and re-resolutions of the old and the new record. -/
theorem Ev.changeFocus_settings (new : Option Handle) : (e.changeFocus new).s.settings = e.s.settings := by
  have step (o : Option Handle) (d : Ev) {f : Handle → Ev} (hf : ∀ h, (f h).s.settings = d.s.settings) :
      (o.elim d f).s.settings = d.s.settings := by
    cases o with
    | none => rfl
    | some h => exact hf h
  simp only [Ev.changeFocus]
  refine Eq.trans (step new _ ?last) (Eq.trans (step e.s.table.focus _ ?first) (Eq.trans (step new _ ?gains)
    (step e.s.table.focus _ ?loses)))
  case last => exact fun h => Ev.reresolve_settings _ h.index
  case first => exact fun h => Ev.reresolve_settings _ h.index
  case gains => exact fun h => Ev.restage_settings _ h.index _
  case loses => exact fun h => Ev.restage_settings _ h.index _

theorem Ev.cancelJob_settings : (e.cancelJob i).s.settings = e.s.settings := by
  unfold Ev.cancelJob
  split
  · rfl
  · exact (State.checkCurrency_settings i _).trans (State.settings_of_shared (State.freeOwnClaims_shared _ i))

theorem State.withdrawRecord_settings (s : State) : (s.withdrawRecord i).settings = s.settings := by
  simp only [State.withdrawRecord]
  refine State.settings_of_shared ((State.modRecord_shared _ i _).trans ?_)
  split <;> rfl

theorem Ev.retire_settings : (e.retire i).s.settings = e.s.settings := by
  have removed (u : State) : ((u.stageRemovals i).modRecord i fun r => { r with state := .retiring }).settings = u.settings :=
    State.settings_of_shared ((State.modRecord_shared _ i _).trans (u.stageRemovals_shared i))
  exact (State.checkRetired_tableFrame _ i).settings.trans ((removed _).trans
    ((Ev.cancelJob_settings (e.mod fun s => s.withdrawRecord i) i).trans (e.s.withdrawRecord_settings i)))

end

section
variable (s : State)

theorem ownCreateSurface_settings (cls owner : Half) (home z flags : Byte) (fill : Word) (buffer : Option Descriptor) :
    (ownCreateSurface cls owner home z flags fill buffer s).1.settings = s.settings := by
  unfold ownCreateSurface
  split
  · rfl
  · split
    · rfl
    · split
      · rfl
      · simp only
        rw [Ev.reply_settings, Ev.reresolve_settings]
        exact State.settings_of_shared ((State.setEntry_shared _ _ _).trans (by split <;> rfl))

theorem ownOfferBuffer_settings (h : HandleField) (d : Descriptor) : (ownOfferBuffer h d s).1.settings = s.settings := by
  unfold ownOfferBuffer
  split
  · rfl
  · split
    · rfl
    · split
      · rfl
      · simp only
        split
        · rfl
        · exact (Ev.done_settings _).trans (Ev.offer_settings (Ev.start s.countOffer) _ _ _ _)

theorem ownAmendSurface_settings (h : HandleField) (presence z home : Byte) (cls owner : Half) (flags : Byte) (fill : Word) :
    (ownAmendSurface h presence z home cls owner flags fill s).1.settings = s.settings := by
  unfold ownAmendSurface
  split
  · rfl
  · next i r _ =>
    split
    · exact (Ev.reply_settings _ _).trans (Ev.amended_settings _ i r _)
    · rfl

/-- A request that rewrites a record and re-resolves it. -/
theorem State.rewrite_settings (i : Fin 40) (r : Record) (payload : State → List Byte) :
    (((Ev.start (s.setEntry i (.used r))).reresolve i).reply payload).1.settings = s.settings :=
  (Ev.reply_settings _ _).trans (Ev.reresolve_settings _ i)

theorem ownSetVariant_settings (h : HandleField) (postures target fallback : Byte) (rect : Option RectField) :
    (ownSetVariant h postures target fallback rect s).1.settings = s.settings := by
  unfold ownSetVariant
  split
  · rfl
  · split
    · split
      · rfl
      · simp only
        split
        · rfl
        · exact s.rewrite_settings _ _ _
    · rfl

theorem ownClearVariants_settings (h : HandleField) : (ownClearVariants h s).1.settings = s.settings := by
  unfold ownClearVariants
  split
  · rfl
  · split
    · rfl
    · exact s.rewrite_settings _ _ _

theorem ownMoveSurface_settings (h : HandleField) (target : Byte) (rect : Option RectField) :
    (ownMoveSurface h target rect s).1.settings = s.settings := by
  unfold ownMoveSurface
  split
  · rfl
  · split
    · rfl
    · exact s.rewrite_settings _ _ _

theorem State.focusOn_settings (new : Option Handle) : (s.focusOn new).1.settings = s.settings := by
  unfold State.focusOn
  split
  · rfl
  · exact (Ev.reply_settings _ _).trans (Ev.changeFocus_settings _ new)

theorem ownSetFocus_settings (h : HandleField) : (ownSetFocus h s).1.settings = s.settings := by
  unfold ownSetFocus
  split
  · exact s.focusOn_settings none
  · split
    · rfl
    · exact s.focusOn_settings _

theorem ownLookupSurface_settings (h : HandleField) : (ownLookupSurface h s).1.settings = s.settings := by
  unfold ownLookupSurface
  split <;> rfl

theorem ownFindSurfaces_settings (kind : Byte) (value : Word) (cursor : Byte) :
    (ownFindSurfaces kind value cursor s).1.settings = s.settings := by
  unfold ownFindSurfaces
  split
  · rfl
  · split <;> rfl

theorem ownRetireSurface_settings (h : HandleField) : (ownRetireSurface h s).1.settings = s.settings := by
  unfold ownRetireSurface
  split
  · rfl
  · exact (Ev.done_settings _).trans (Ev.retire_settings _ _)

theorem ownRetireOwner_settings (owner : Half) : (ownRetireOwner owner s).1.settings = s.settings :=
  (Ev.done_settings _).trans (Ev.foldl_settings Ev.retire Ev.retire_settings (s.ownedRecords owner) (Ev.start s))

theorem ownWriteRule_settings (index : Byte) (f : RuleField) : (ownWriteRule index f s).1.settings = s.settings := by
  unfold ownWriteRule
  split
  · split
    · rfl
    · exact (Ev.reply_settings _ _).trans (Ev.reresolveAll_frame _).settings
  · rfl

theorem ownReadRule_settings (index : Byte) : (ownReadRule index s).1.settings = s.settings := by
  unfold ownReadRule
  split
  · rfl
  · split <;> rfl

/-! ### Requests of the attention flags -/

theorem ownAckAttention_settings (flags : Byte) : (ownAckAttention flags s).1.settings = s.settings := by
  unfold ownAckAttention
  split <;> rfl

theorem ownAttnEnable_settings (flags : Byte) : (ownAttnEnable flags s).1.settings = s.settings := by
  unfold ownAttnEnable
  split <;> rfl

theorem ownAttnDisable_settings (flags : Byte) : (ownAttnDisable flags s).1.settings = s.settings := by
  unfold ownAttnDisable
  split <;> rfl

theorem State.clearReported_settings (i : Fin 40) : (s.clearReported i).settings = s.settings := by
  unfold State.clearReported
  split <;> rfl

theorem State.clearAll_settings (l : List (Fin 40)) : (l.foldl State.clearReported s).settings = s.settings := by
  induction l generalizing s with
  | nil => rfl
  | cons i l ih => exact (ih _).trans (s.clearReported_settings i)

theorem State.moveCursor_settings (l : List (Fin 40)) : (s.moveCursor l).settings = s.settings := by
  unfold State.moveCursor
  split <;> rfl

theorem ownReadNotices_settings : (ownReadNotices s).1.settings = s.settings :=
  (State.refreshNotice_frame _).settings.trans ((State.moveCursor_settings _ _).trans (s.clearAll_settings s.reported))

end

/-! ### Every command -/

theorem exec_shared_ok (c : Instr) (s : State) (ok : s.shared.Ok) : ∃ t, exec c s = .next t ∧ t.shared.Ok := by
  have kept {t : State} (h : t.settings = s.settings) : t.shared.Ok := ok.of_settings h
  have owned {owner : State → State × Reply} (h : ∀ u : State, (owner u).1.settings = u.settings) :
      (s.runRequest c owner).shared.Ok :=
    s.runRequest_shared (fun u hu => hu.of_settings (h u)) c ok
  have timer {f : State → State} (h : ∀ u : State, (f u).settings = u.settings) (t : Timer) :
      (s.atTimer t f).shared.Ok := kept (s.atTimer_settings h t)
  have timerIf {p : Prop} [Decidable p] {f : State → State} (h : ∀ u : State, (f u).settings = u.settings) (t : Timer) :
      (if p then s.atTimer t f else s).shared.Ok := kept (s.settings_ite (s.atTimer_settings h t))
  cases c
  case writeTransaction bytes n =>
    refine ⟨_, rfl, kept ?_⟩
    split
    · exact s.takeFrame_settings _
    · exact s.takeFrame_settings _
    · exact s.discard_settings
    · exact s.discard_settings
  case readTransaction busy n =>
    refine ⟨_, rfl, kept ?_⟩
    split
    · rfl
    · exact s.read_settings busy n
  case ignoredTransaction => exact ⟨_, rfl, ok⟩
  case powerOnReset => exact ⟨_, rfl, Shared.powerOn_ok⟩
  case powerOnResetEnd =>
    refine ⟨_, rfl, ?_⟩
    split
    · exact Shared.powerOn_ok
    · exact ok
  case softResetEnd => exact ⟨_, rfl, kept (s.settings_ite rfl)⟩
  case reset => exact ⟨_, rfl, kept s.resetRequest_settings⟩
  case lineIdle => exact ⟨_, rfl, kept (s.settings_ite rfl)⟩
  case frameArrival r => exact ⟨_, rfl, kept (s.settings_ite (s.receive_settings r))⟩
  case cellTimeout =>
    refine ⟨_, rfl, kept (s.settings_ite ?_)⟩
    split
    · exact State.receive_settings _ _
    · rfl
  case silentExpiry =>
    refine ⟨_, rfl, kept ?_⟩
    split
    · rfl
    · exact State.badEvent_settings _ .silent
  case hsnsCell n =>
    refine ⟨_, rfl, kept (s.settings_ite ?_)⟩
    split
    · rfl
    · split
      · exact s.receive_settings _
      · rfl
    · exact s.frameCell_settings _ _
  case dwellExpiry =>
    refine ⟨_, rfl, kept ?_⟩
    split
    · exact (Ev.done_settings _).trans (Ev.dwellEnd_settings _)
    · rfl
  case foldEdge level =>
    refine ⟨_, rfl, kept ?_⟩
    split
    · rfl
    · split <;> rfl
  case debounceExpiry =>
    refine ⟨_, rfl, kept ?_⟩
    split
    · rfl
    · exact (Ev.done_settings _).trans (Ev.takeLevel_settings _)
  case deadlineExpiry i =>
    refine ⟨_, rfl, kept ?_⟩
    split
    · rfl
    · next t _ =>
      exact (Ev.done_settings _).trans ((Ev.examine_frame _ i).settings.trans
        (Ev.expireWait_frame (Ev.start (s.reach t)) i).settings)
  case readHinge | readPosture | readQueue | readStatus | setNoticeThreshold | setFilter =>
    exact ⟨_, rfl, owned fun _ => rfl⟩
  case hingeEnable v => exact ⟨_, rfl, owned fun u => ownHingeEnable_settings u v⟩
  case setCalibration points => exact ⟨_, rfl, owned fun u => ownSetCalibration_settings u points⟩
  case setBands => exact ⟨_, rfl, owned fun u => ownSetBands_settings u _ _ _ _ _ _⟩
  case setSwitch => exact ⟨_, rfl, owned fun u => ownSetSwitch_settings u _ _⟩
  case forcePosture => exact ⟨_, rfl, owned fun u => ownForcePosture_settings u _⟩
  case setFront => exact ⟨_, rfl, owned fun u => ownSetFront_settings u _⟩
  case setSpan => exact ⟨_, rfl, owned fun u => ownSetSpan_settings u _⟩
  case createSurface => exact ⟨_, rfl, owned fun u => ownCreateSurface_settings u _ _ _ _ _ _ _⟩
  case offerBuffer => exact ⟨_, rfl, owned fun u => ownOfferBuffer_settings u _ _⟩
  case amendSurface => exact ⟨_, rfl, owned fun u => ownAmendSurface_settings u _ _ _ _ _ _ _ _⟩
  case setVariant => exact ⟨_, rfl, owned fun u => ownSetVariant_settings u _ _ _ _ _⟩
  case clearVariants => exact ⟨_, rfl, owned fun u => ownClearVariants_settings u _⟩
  case setFocus => exact ⟨_, rfl, owned fun u => ownSetFocus_settings u _⟩
  case lookupSurface => exact ⟨_, rfl, owned fun u => ownLookupSurface_settings u _⟩
  case findSurfaces => exact ⟨_, rfl, owned fun u => ownFindSurfaces_settings u _ _ _⟩
  case retireSurface => exact ⟨_, rfl, owned fun u => ownRetireSurface_settings u _⟩
  case retireOwner => exact ⟨_, rfl, owned fun u => ownRetireOwner_settings u _⟩
  case writeRule => exact ⟨_, rfl, owned fun u => ownWriteRule_settings u _ _⟩
  case readRule => exact ⟨_, rfl, owned fun u => ownReadRule_settings u _⟩
  case moveSurface => exact ⟨_, rfl, owned fun u => ownMoveSurface_settings u _ _ _⟩
  case setPanelGeometry => exact ⟨_, rfl, s.runRequest_shared (fun u => ownSetPanelGeometry_shared u _ _ _) _ ok⟩
  case setPowerTiming => exact ⟨_, rfl, s.runRequest_shared (fun u hu => hu.withTimings _ _ _ _ _ _) _ ok⟩
  case setLending => exact ⟨_, rfl, s.runRequest_shared (fun u => ownSetLending_shared u _ _) _ ok⟩
  case setRefresh => exact ⟨_, rfl, owned fun u => ownSetRefresh_settings u _ _ _⟩
  case panelEnable => exact ⟨_, rfl, owned fun u => ownPanelEnable_settings u _ _⟩
  case readPanel => exact ⟨_, rfl, owned fun u => ownReadPanel_settings u _⟩
  case panelRecover => exact ⟨_, rfl, owned fun u => ownPanelRecover_settings u _⟩
  case setRecoveryMode => exact ⟨_, rfl, owned fun u => ownSetRecoveryMode_settings u _ _ _⟩
  case ackAttention => exact ⟨_, rfl, owned fun u => ownAckAttention_settings u _⟩
  case attnEnable => exact ⟨_, rfl, owned fun u => ownAttnEnable_settings u _⟩
  case attnDisable => exact ⟨_, rfl, owned fun u => ownAttnDisable_settings u _⟩
  case readNotices => exact ⟨_, rfl, owned ownReadNotices_settings⟩
  case offTimeExpiry p =>
    exact ⟨_, rfl, timer (fun u => (State.checkPowerUp_settings p _).trans (u.modPanel_settings p _)) _⟩
  case railStageEnd p => exact ⟨_, rfl, timerIf (fun u => u.modPanel_settings p _) _⟩
  case resetStageEnd p => exact ⟨_, rfl, timerIf (fun u => u.modPanel_settings p _) _⟩
  case trainingExpiry p =>
    exact ⟨_, rfl, timerIf (fun u => (Ev.done_settings _).trans (Ev.goOffline_settings (Ev.start u) p _)) _⟩
  case powerDownEnd p =>
    exact ⟨_, rfl, timerIf (fun u => (State.enterOff_settings p _).trans (u.modPanel_settings p _)) _⟩
  case trainOk p => exact ⟨_, rfl, kept (s.settings_ite (s.trainOk_settings p))⟩
  case frameOk p => exact ⟨_, rfl, kept (s.settings_ite (s.settleAck_settings p _))⟩
  case frameBad p => exact ⟨_, rfl, kept (s.settings_ite (s.settleAck_settings p _))⟩
  case unknownAckCode p code stop => exact ⟨_, rfl, kept (s.settings_ite (s.ackByte_settings p code stop))⟩
  case ackPathIdle p => exact ⟨_, rfl, ok⟩
  case frameStart p =>
    exact ⟨_, rfl, kept (s.settings_ite ((Ev.done_settings _).trans (Ev.frameStart_settings _ p)))⟩
  case stagingCutoff p => exact ⟨_, rfl, kept (s.settings_ite (State.settings_of_shared (State.cutoff_shared _ p)))⟩
  case quietExpiry p =>
    exact ⟨_, rfl, timerIf (fun u => (Ev.done_settings _).trans ((Ev.leaveOffline_settings _ p).trans
      (u.modPanel_settings p _))) _⟩
  case stabilityExpiry p => exact ⟨_, rfl, timer (fun u => u.modPanel_settings p _) _⟩

/-- Settles O8: the classifier's settings by `exec_keepsPosture`, the shared ones by `exec_shared_ok`. -/
theorem settingsKept : Obligations.SettingsKept :=
  keptByStep_of_exec (P := fun s => s.posture.Ok ∧ s.shared.Ok) (fun _ _ ok => ok) (fun _ ok => ok) fun c s ok => by
    obtain ⟨t, ht, kept⟩ := exec_keepsPosture c s
    obtain ⟨u, hu, shared⟩ := exec_shared_ok c s ok.2
    cases ht.symm.trans hu
    exact ⟨t, ht, kept.settings ok.1, shared⟩

end Sys2Proof.Machine
end

section
/-! SUPPORT. Rules of the layer slots, of the jobs and of a grant: which slot a record owns on a panel, which is free, what an
assignment finds and what a claim changes. -/

namespace Sys2Proof.Machine

/-! ### The lowest index that meets a condition -/

theorem finRange_find?_eq_some {n : Nat} {p : Fin n → Bool} {k : Fin n} :
    (List.finRange n).find? p = some k ↔ p k = true ∧ ∀ m < k, p m = false := by
  rw [← Fin.find?_eq_find?_finRange, Fin.find?_eq_some_iff]

theorem finRange_pairwise_lt (n : Nat) : (List.finRange n).Pairwise (· < ·) :=
  (List.sortedLT_finRange n).pairwise

/-! ### Layer slots -/

section
variable {s : State}

theorem State.uses_iff {p : PanelId} {k : Fin 16} : s.uses p k = true ↔ s.user k = p := beq_iff_eq

theorem LayerSlot.isFree_iff {x : LayerSlot} : x.isFree = true ↔ x = .free := by cases x <;> simp [LayerSlot.isFree]

theorem LayerSlot.isFree_eq_false_iff {x : LayerSlot} : x.isFree = false ↔ x ≠ .free := by
  cases x <;> simp [LayerSlot.isFree]

theorem LayerSlot.ownedBy_iff {x : LayerSlot} {i : Fin 40} :
    x.ownedBy i = true ↔ ∃ o, x.owner? = some o ∧ o.index = i := by
  unfold LayerSlot.ownedBy
  cases x.owner? <;> simp

theorem LayerSlot.ne_free_of_ownedBy {x : LayerSlot} {i : Fin 40} (h : x.ownedBy i = true) : x ≠ .free := by
  rintro rfl
  cases h

theorem State.mem_ownedSlots {i : Fin 40} {k : Fin 16} : k ∈ s.ownedSlots i ↔ (s.slot k).ownedBy i = true := by
  simp [State.ownedSlots, allSlots]

theorem State.ownedOn_eq_some {i : Fin 40} {p : PanelId} {k : Fin 16} : s.ownedOn i p = some k ↔
    ((s.slot k).ownedBy i = true ∧ s.user k = p) ∧ ∀ m < k, ¬((s.slot m).ownedBy i = true ∧ s.user m = p) := by
  simp [State.ownedOn, allSlots, finRange_find?_eq_some, ← State.uses_iff]

theorem State.ownedOn_eq_none {i : Fin 40} {p : PanelId} : s.ownedOn i p = none ↔
    ∀ m, ¬((s.slot m).ownedBy i = true ∧ s.user m = p) := by
  simp [State.ownedOn, allSlots, ← State.uses_iff]

theorem State.freeOn_eq_some {p : PanelId} {k : Fin 16} : s.freeOn p = some k ↔ (s.panel p).inService = true ∧
    (s.slot k = .free ∧ s.user k = p) ∧ ∀ m < k, ¬(s.slot m = .free ∧ s.user m = p) := by
  unfold State.freeOn
  split
  · next h => simp [h, allSlots, finRange_find?_eq_some, ← LayerSlot.isFree_iff, ← State.uses_iff]
  · next h => simp [h]

theorem State.freeOn_eq_none {p : PanelId} : s.freeOn p = none ↔
    ∀ m, ¬(s.slot m = .free ∧ s.user m = p ∧ (s.panel p).inService = true) := by
  unfold State.freeOn
  split
  · next h => simp [h, allSlots, ← LayerSlot.isFree_iff, ← State.uses_iff]
  · next h => simp [h]

end

/-! ### Jobs -/

section
variable {s : State} {i j : Fin 40} {f : Job → Job}

/-- A change of jobs that keeps their handles changes the job found, of that record alone. -/
theorem State.job?_modJob (hf : ∀ x, (f x).handle = x.handle) :
    (s.modJob i f).job? j = if j = i then (s.job? i).map f else s.job? j := by
  unfold State.job? State.modJob
  rw [List.find?_map]
  have same : ((fun x : Job => x.handle.index == j) ∘ fun x => if x.handle.index = i then f x else x) =
      fun x => x.handle.index == j := by
    funext x
    simp only [Function.comp]
    split
    · rw [hf]
    · rfl
  rw [same]
  cases hx : s.queue.find? fun x => x.handle.index == j with
  | none => split <;> simp_all
  | some x =>
    have hi : x.handle.index = j := by simpa using List.find?_some hx
    split
    · next h => subst h; simp [hx, hi]
    · next h => simp [hi, h]

theorem State.modJob_handles (hf : ∀ x, (f x).handle = x.handle) :
    (s.modJob i f).queue.map Job.handle = s.queue.map Job.handle := by
  unfold State.modJob
  rw [List.map_map]
  congr 1
  funext x
  simp only [Function.comp]
  split
  · exact hf x
  · rfl

theorem State.job?_some_index {x : Job} (h : s.job? i = some x) : x.handle.index = i := by
  simpa using List.find?_some h

theorem State.job?_of_queue {t : State} (h : t.queue = s.queue) : t.job? i = s.job? i := by
  unfold State.job?
  rw [h]

end

/-! ### A grant -/

section
variable {s : State} {i : Fin 40}

/-- R110: the slot a grant gives a target piece. -/
def State.Grants (s : State) (i : Fin 40) (t t' : TargetPiece) : Prop :=
  ∃ k, t' = { t with slot := some k } ∧ (s.ownedOn i t.panel = some k ∨ s.ownedOn i t.panel = none ∧ s.freeOn t.panel = some k)

theorem State.assign_eq_some {l l' : List TargetPiece} (h : s.assign i l = some l') :
    List.Forall₂ (s.Grants i) l l' := by
  induction l generalizing l' with
  | nil =>
    cases h
    exact .nil
  | cons t ts ih =>
    unfold State.assign at h
    split at h
    · next k rest hk hrest =>
      cases h
      refine .cons ⟨k, rfl, ?_⟩ (ih hrest)
      cases ho : s.ownedOn i t.panel with
      | none =>
        rw [ho] at hk
        exact .inr ⟨rfl, hk⟩
      | some m =>
        rw [ho] at hk
        exact .inl hk
    · cases h

theorem State.assign_eq_none_iff {l : List TargetPiece} : s.assign i l = none ↔
    ∃ t ∈ l, s.ownedOn i t.panel = none ∧ s.freeOn t.panel = none := by
  induction l with
  | nil => simp [State.assign]
  | cons t ts ih =>
    unfold State.assign
    cases ho : s.ownedOn i t.panel <;> cases hf : s.freeOn t.panel <;> cases hr : s.assign i ts <;> simp_all

/-- R110: a piece of a grant has a slot that its record owns, or a free one on a panel in service. -/
theorem State.Grants.slot {t t' : TargetPiece} (h : s.Grants i t t') {k : Fin 16} (hk : t'.slot = some k) :
    s.user k = t'.panel ∧ ((s.slot k).ownedBy i = true ∨ s.slot k = .free ∧ (s.panel t'.panel).inService = true) := by
  obtain ⟨m, rfl, hm⟩ := h
  cases hk
  rcases hm with hm | ⟨-, hm⟩
  · obtain ⟨⟨ho, hu⟩, -⟩ := State.ownedOn_eq_some.1 hm
    exact ⟨hu, .inl ho⟩
  · obtain ⟨hp, ⟨hf, hu⟩, -⟩ := State.freeOn_eq_some.1 hm
    exact ⟨hu, .inr ⟨hf, hp⟩⟩

theorem forall₂_of_mem_right {α β : Type} {R : α → β → Prop} {l : List α} {l' : List β} (h : List.Forall₂ R l l') {b : β}
    (hb : b ∈ l') : ∃ a ∈ l, R a b := by
  induction h with
  | nil => cases hb
  | cons hr _ ih =>
    rcases List.mem_cons.1 hb with rfl | hb
    · exact ⟨_, List.mem_cons_self, hr⟩
    · obtain ⟨a, ha, hr⟩ := ih hb
      exact ⟨a, List.mem_cons_of_mem _ ha, hr⟩

@[simp] theorem State.claim_handle (s : State) (i j : Fin 40) (l : List TargetPiece) : (s.claim i l).handle j = s.handle j := by
  induction l generalizing s with
  | nil => rfl
  | cons t ts ih =>
    unfold State.claim
    split
    · split
      · exact ih _
      · exact ih _
    · exact ih _

/-- R110: a claim takes the free slots among those of its pieces, and changes no other. -/
theorem State.slot_claim (s : State) (i : Fin 40) (l : List TargetPiece) (k : Fin 16) : (s.claim i l).slot k =
    if s.slot k = .free ∧ ∃ t ∈ l, t.slot = some k then .claimed (s.handle i) none else s.slot k := by
  induction l generalizing s with
  | nil => simp [State.claim]
  | cons t ts ih =>
    unfold State.claim
    split
    · next m hm =>
      split
      · next hf =>
        have hh : (s.setSlot m (.claimed (s.handle i) none)).handle i = s.handle i := rfl
        rw [ih, State.slot_setSlot, hh]
        by_cases hk : k = m
        · subst hk
          simp [LayerSlot.isFree_iff.1 hf, hm]
        · simp [hk, hm, Ne.symm hk]
      · next hf =>
        rw [ih]
        by_cases hk : k = m
        · subst hk
          have : s.slot k ≠ .free := fun h => hf (LayerSlot.isFree_iff.2 h)
          simp [this]
        · simp [hm, Ne.symm hk]
    · next hm => simp [ih, hm]

end
end Sys2Proof.Machine
end

section
/-! SUPPORT. What the Handover Engine and the end of an event never do: they make no record RETIRING, and they take no slot of a
panel that is out of service. -/

namespace Sys2Proof.Machine

/-! ### The relation -/

/-- No record is newly RETIRING, and a FREE slot that a panel out of service uses stays FREE (R110). -/
structure State.Steady (s t : State) : Prop where
  panels : t.panels = s.panels
  shared : t.shared = s.shared
  retiring : ∀ i r', t.entry i = .used r' → r'.state = .retiring → ∃ r, s.entry i = .used r ∧ r.state = .retiring
  dark : ∀ k, (s.panel (s.user k)).inService = false → s.slot k = .free → t.slot k = .free

theorem State.Steady.refl (s : State) : s.Steady s := ⟨rfl, rfl, fun _ r h hr => ⟨r, h, hr⟩, fun _ _ h => h⟩

theorem State.panel_of_panels {s t : State} (h : t.panels = s.panels) (p : PanelId) : t.panel p = s.panel p :=
  congrArg (Panels.get · p) h

theorem State.user_of_shared {s t : State} (h : t.shared = s.shared) (k : Fin 16) : t.user k = s.user k :=
  congrArg (fun g : Shared => usingPanel g.lender g.lent k) h

theorem State.Steady.trans {s t u : State} (h : s.Steady t) (k : t.Steady u) : s.Steady u where
  panels := k.panels.trans h.panels
  shared := k.shared.trans h.shared
  retiring := fun i r hr hs => by
    obtain ⟨r', hr', hs'⟩ := k.retiring i r hr hs
    exact h.retiring i r' hr' hs'
  dark := fun n hd hf => k.dark n
    (by rwa [State.user_of_shared h.shared, State.panel_of_panels h.panels]) (h.dark n hd hf)

/-- An update that leaves the panels and the records alone, and takes no slot of a panel out of service. -/
theorem State.Steady.of_table {s t : State} (hp : t.panels = s.panels) (hg : t.shared = s.shared)
    (ht : t.table = s.table) (hk : ∀ k, (s.panel (s.user k)).inService = false → s.slot k = .free → t.slot k = .free) :
    s.Steady t :=
  ⟨hp, hg, fun i r hr hs => ⟨r, (congrArg (fun x : Table => x.slots[i]) ht).symm.trans hr, hs⟩, hk⟩

theorem State.Steady.of_queue (s : State) (q : List Job) : s.Steady { s with queue := q } :=
  .of_table rfl rfl rfl fun _ _ h => h

theorem State.modJob_steady (s : State) (i : Fin 40) (f : Job → Job) : s.Steady (s.modJob i f) := .of_queue s _

/-- A change of a record that does not make it RETIRING. -/
theorem State.modRecord_steady (s : State) (i : Fin 40) (f : Record → Record)
    (hf : ∀ r : Record, (f r).state = .retiring → r.state = .retiring) : s.Steady (s.modRecord i f) where
  panels := by simp
  shared := by simp
  retiring := fun j r' hr hs => by
    rw [State.entry_modRecord] at hr
    split at hr
    · next h =>
      subst h
      split at hr
      · next r he =>
        cases hr
        exact ⟨r, he, hf r hs⟩
      · next hn => exact absurd hr (hn r')
    · exact ⟨r', hr, hs⟩
  dark := fun k _ h => by simpa [State.slot] using h

/-- An operation made for each member of a list is steady if one is. -/
theorem Ev.foldl_steady {α : Type} (f : Ev → α → Ev) (hf : ∀ (e : Ev) (a : α), e.s.Steady (f e a).s) (l : List α) (e : Ev) :
    e.s.Steady (l.foldl f e).s := by
  induction l generalizing e with
  | nil => exact .refl _
  | cons a l ih => exact (hf e a).trans (ih (f e a))

/-! ### Operations of the engine -/

section
variable (e : Ev) (i : Fin 40)

theorem Ev.modJob_steady (f : Job → Job) : e.s.Steady (e.modJob i f).s := .of_queue e.s _

theorem Ev.modRecord_steady (f : Record → Record) (hf : ∀ r : Record, (f r).state = .retiring → r.state = .retiring) :
    e.s.Steady (e.modRecord i f).s := e.s.modRecord_steady i f hf

theorem Ev.examine_steady : e.s.Steady (e.examine i).s := by
  unfold Ev.examine
  split
  · split
    · exact e.modJob_steady i _
    · exact .refl _
  · exact .refl _

theorem Ev.expireWait_steady : e.s.Steady (e.expireWait i).s :=
  (e.modRecord_steady i _ fun _ h => by exact h).trans (Ev.modJob_steady _ i _)

theorem Ev.beginWait_steady (z : Size) (d : Nat) : e.s.Steady (e.beginWait i z d).s := by
  have begun := (e.modRecord_steady i (fun r => { r with wanted := some z, marks := { r.marks with wanted := true } })
    fun _ h => by exact h).trans (Ev.modJob_steady _ i fun j => { j with waiting := true, expiry := some (e.s.after d) })
  simp only [Ev.beginWait]
  split
  · exact begun.trans (Ev.expireWait_steady _ i)
  · exact begun

theorem Ev.bufferCondition_steady (j : Job) : e.s.Steady (e.bufferCondition i j).s := by
  unfold Ev.bufferCondition
  split
  · exact (e.modRecord_steady i _ fun _ h => by exact h).trans (Ev.modJob_steady _ i _)
  · split
    · exact e.modJob_steady i _
    · exact e.beginWait_steady i _ _

theorem Ev.prepare_steady : e.s.Steady (e.prepare i).s := by
  unfold Ev.prepare
  split
  · exact ((e.modJob_steady i _).trans (Ev.bufferCondition_steady _ i _)).trans (Ev.examine_steady _ i)
  · exact .refl _

theorem Ev.createJob_steady (res : Resolution) : e.s.Steady (e.createJob i res).s := by
  refine State.Steady.trans ?_ (Ev.prepare_steady _ i)
  refine (State.Steady.of_queue e.s (if e.s.isFocus i then Job.fresh (e.s.handle i) res :: e.s.queue
    else e.s.queue ++ [Job.fresh (e.s.handle i) res])).trans ?_
  exact State.modRecord_steady _ i _ fun _ h => by cases h

theorem Ev.setPendingMark_steady : e.s.Steady (e.setPendingMark i).s :=
  (e.modRecord_steady i (fun r => { r with resPending := true }) fun _ h => h).trans
    (.of_table rfl rfl rfl fun _ _ h => h)

theorem Ev.settleMark_steady (r : Record) (res : Resolution) : e.s.Steady (e.settleMark i r res).s := by
  unfold Ev.settleMark
  split
  · exact e.modRecord_steady i _ fun _ h => by exact h
  · split
    · exact e.createJob_steady i res
    · exact .refl _

theorem Ev.redirectJob_steady (j : Job) (res : Resolution) : e.s.Steady (e.redirectJob i j res).s := by
  have prepared := (e.modJob_steady i fun j => { j with target := res }).trans
    (Ev.prepare_steady { (e.modJob i fun j => { j with target := res }) with changed := true } i)
  unfold Ev.redirectJob
  split
  · exact prepared
  · exact prepared
  · exact e.modJob_steady i _
  · exact e.modJob_steady i _

theorem Ev.pass_steady (r : Record) (res : Resolution) : e.s.Steady (e.pass i r res).s := by
  unfold Ev.pass
  split
  · exact e.redirectJob_steady i _ res
  · split
    · exact e.settleMark_steady i r res
    · split
      · exact e.createJob_steady i res
      · exact e.setPendingMark_steady i

theorem Ev.reresolve_steady : e.s.Steady (e.reresolve i).s := by
  unfold Ev.reresolve
  split
  · exact .refl _
  · split
    · simp only
      split
      · exact .refl _
      · exact e.pass_steady i _ _
    · exact .refl _

theorem Ev.reresolveAll_steady : e.s.Steady e.reresolveAll.s :=
  Ev.foldl_steady _ (fun e i => e.reresolve_steady i) _ e

theorem State.claim_table (s : State) (l : List TargetPiece) : (s.claim i l).table = s.table := by
  induction l generalizing s with
  | nil => rfl
  | cons t ts ih =>
    unfold State.claim
    split
    · split
      · exact ih _
      · exact ih _
    · exact ih _

/-- R110: a grant claims slots of panels in service alone. -/
theorem State.claim_steady (s : State) {l l' : List TargetPiece} (h : s.assign i l = some l') : s.Steady (s.claim i l') := by
  refine .of_table (s.claim_frame i l').panels (s.claim_frame i l').shared (s.claim_table i l') fun k hd hf => ?_
  rw [State.slot_claim, if_neg]
  · exact hf
  · rintro ⟨-, t', ht', hk⟩
    obtain ⟨t, -, hg⟩ := forall₂_of_mem_right (State.assign_eq_some h) ht'
    obtain ⟨hu, ho | ⟨-, hs⟩⟩ := hg.slot hk
    · exact LayerSlot.ne_free_of_ownedBy ho hf
    · rw [hu, hs] at hd
      cases hd

/-- Staging takes no slot. -/
theorem State.stageAt_steady (s : State) (k : Fin 16) (st : Staged) : s.Steady (s.stageAt k st) :=
  .of_table rfl rfl rfl fun m _ hf => by
    rw [State.stageAt, State.slot_setSlot]
    split
    · next h =>
      subst h
      rw [hf]
      rfl
    · exact hf

theorem State.stageAction_steady (s : State) (l : List TargetPiece) (a : SlotAction) : s.Steady (s.stageAction i l a) := by
  unfold State.stageAction
  split
  · exact s.stageAt_steady _ _
  · split
    · exact s.stageAt_steady _ _
    · exact .refl _

theorem State.stageActions_steady (s : State) (l : List TargetPiece) (as : List SlotAction) :
    s.Steady (as.foldl (fun s a => s.stageAction i l a) s) := by
  induction as generalizing s with
  | nil => exact .refl _
  | cons a as ih => exact (s.stageAction_steady i l a).trans (ih _)

theorem Ev.stageStep_steady (l : List TargetPiece) (as : List SlotAction) : e.s.Steady (e.stageStep i l as).s :=
  (e.s.stageActions_steady i l as).trans (State.modJob_steady _ i _)

theorem Ev.grantOne_steady : e.s.Steady (e.grantOne i).s := by
  unfold Ev.grantOne
  split
  · split
    · split
      · next h =>
        refine State.Steady.trans ?_ (Ev.stageStep_steady _ i _ _)
        exact (e.s.claim_steady i h).trans (State.modJob_steady _ i _)
      · exact .refl _
    · exact .refl _
  · exact .refl _

theorem Ev.grantWalk_steady : e.s.Steady e.grantWalk.s :=
  Ev.foldl_steady _ (fun e i => e.grantOne_steady i) _ { e with walk := false }

theorem State.freeClaims_steady (s : State) (l : List SlotAction) : s.Steady (s.freeClaims l) :=
  .of_table rfl rfl rfl fun k _ hf => by
    unfold State.slot at hf
    simp only [State.slot, State.freeClaims, Fin.getElem_fin, Vector.getElem_ofFn] at hf ⊢
    simp [hf]

theorem Ev.redirect_steady (j : Job) (n : Resolution) : e.s.Steady (e.redirect i j n).s :=
  ((e.s.freeClaims_steady _).trans (State.modJob_steady _ i _)).trans
    (Ev.prepare_steady { ((e.mod fun s => s.freeClaims j.stepTwo).modJob i fun j => j.takeNext n) with
      walk := e.walk || e.s.anyClaimed j.stepTwo } i)

theorem Ev.complete_steady (j : Job) : e.s.Steady (e.complete i j).s := by
  have completed := e.modRecord_steady i (fun r => r.complete j.target (e.s.completed i j.target.pieces)) fun _ h => h
  simp only [Ev.complete]
  split
  · exact (completed.trans (Ev.modJob_steady _ i _)).trans (Ev.prepare_steady _ i)
  · refine (completed.trans (Ev.modRecord_steady _ i _ fun _ h => ?_)).trans (.of_queue _ _)
    simp only at h
    split at h <;> cases h

theorem Ev.endStep_steady (j : Job) : e.s.Steady (e.endStep j).s := by
  simp only [Ev.endStep]
  split
  · split
    · exact e.complete_steady _ j
    · exact e.redirect_steady _ j _
  · split
    · exact e.complete_steady _ j
    · exact (e.modJob_steady _ _).trans (Ev.stageStep_steady _ _ _ _)
  · exact e.complete_steady _ j

theorem Ev.takeUp_steady : e.s.Steady e.takeUp.s := by
  unfold Ev.takeUp
  split
  · exact .refl _
  · simp only
    split
    · exact e.reresolve_steady _
    · split
      · exact e.reresolve_steady _
      · exact e.reresolve_steady _

theorem Ev.settle_steady (w : Bool) (n : Nat) : e.s.Steady (Ev.settle w n e).s := by
  induction n generalizing e with
  | zero => exact .refl _
  | succ n ih =>
    unfold Ev.settle
    split
    · exact (e.endStep_steady _).trans (ih _)
    · split
      · exact e.takeUp_steady.trans (ih _)
      · split
        · exact e.grantWalk_steady.trans (ih _)
        · exact .refl _

theorem Ev.endSteps_steady : e.s.Steady e.endSteps.s := e.settle_steady false settleFuel

theorem Ev.resolveDue_steady : e.s.Steady e.resolveDue.s := by
  unfold Ev.resolveDue
  split
  · exact e.reresolveAll_steady
  · exact .refl _

theorem Ev.done_steady : e.s.Steady e.done :=
  (e.resolveDue_steady.trans (Ev.settle_steady _ true settleFuel)).trans (.of_table rfl rfl rfl fun _ _ h => h)

theorem Ev.examineAll_steady : e.s.Steady e.examineAll.s :=
  Ev.foldl_steady _ (fun e i => e.examine_steady i) _ e

end
end Sys2Proof.Machine
end

section
/-! SUPPORT. Where the variants of a record come from: every operation of the part leaves them as they were or empties them, and
makes a record RETIRING only with none left (R58, R65). SET_VARIANT alone adds one (R59). -/

namespace Sys2Proof.Machine

/-! ### The relation -/

/-- Every record keeps its variants and is not newly RETIRING, or has none. -/
def State.VariantsFrom (s t : State) : Prop := ∀ i r', t.entry i = .used r' → r'.variants = [] ∨
  ∃ r, s.entry i = .used r ∧ r'.variants = r.variants ∧ (r'.state = .retiring → r.state = .retiring)

/-- R58, R65: the property that every step keeps. -/
def State.VariantsOk (s : State) : Prop := ∀ i r, s.record? i = some r → r.VariantsOk

theorem Record.VariantsOk.of_nil {r : Record} (h : r.variants = []) : r.VariantsOk where
  count := by simp [h]
  some := by simp [h]
  disjoint := by simp [h]
  retiring := fun _ => h

theorem State.VariantsFrom.ok {s t : State} (h : s.VariantsFrom t) (ok : s.VariantsOk) : t.VariantsOk := by
  intro i r' hr'
  rcases h i r' ((State.record?_eq_some t).1 hr') with hv | ⟨r, hr, hv, hs⟩
  · exact .of_nil hv
  · obtain ⟨count, some, disjoint, retiring⟩ := ok i r ((State.record?_eq_some s).2 hr)
    rw [← hv] at count some disjoint retiring
    exact ⟨count, some, disjoint, fun h => retiring (hs h)⟩

theorem State.VariantsFrom.trans {s t u : State} (h : s.VariantsFrom t) (k : t.VariantsFrom u) : s.VariantsFrom u := by
  intro i r'' hr''
  rcases k i r'' hr'' with hv | ⟨r', hr', hv', hs'⟩
  · exact .inl hv
  · rcases h i r' hr' with hv | ⟨r, hr, hv, hs⟩
    · exact .inl (hv'.trans hv)
    · exact .inr ⟨r, hr, hv'.trans hv, hs ∘ hs'⟩

/-- An update that has no part in the record slots. -/
theorem State.VariantsFrom.of_slots {s t : State} (h : t.table.slots = s.table.slots) : s.VariantsFrom t :=
  fun i r hr => .inr ⟨r, by unfold State.entry at *; rwa [← h], rfl, id⟩

theorem State.VariantsFrom.refl (s : State) : s.VariantsFrom s := .of_slots rfl

theorem State.VariantsFrom.ite {p : Prop} [Decidable p] {s t : State} (h : s.VariantsFrom t) :
    s.VariantsFrom (if p then t else s) := by
  split
  · exact h
  · exact .refl s

theorem State.VariantsFrom.ite_not {p : Prop} [Decidable p] {s t : State} (h : s.VariantsFrom t) :
    s.VariantsFrom (if p then s else t) := by
  split
  · exact .refl s
  · exact h

theorem TableSlot.SameCore.used {a : TableSlot} {r' : Record} (h : a.SameCore (.used r')) :
    ∃ r, a = .used r ∧ r.SameCore r' := by
  cases a <;> simp_all [TableSlot.SameCore]

/-- The engine changes no variant and makes no record RETIRING. -/
theorem State.VariantsFrom.of_engine {s t : State} (h : s.EngineFrame t) (hs : s.Steady t) : s.VariantsFrom t := by
  intro i r' hr'
  have core := h.cores i
  rw [hr'] at core
  obtain ⟨r, hr, same⟩ := core.used
  refine .inr ⟨r, hr, same.variants, fun ht => ?_⟩
  obtain ⟨r0, hr0, h0⟩ := hs.retiring i r' hr' ht
  cases hr.symm.trans hr0
  exact h0

theorem State.setEntry_variants (s : State) (i : Fin 40) {x : TableSlot}
    (hx : ∀ r', x = .used r' → r'.variants = [] ∨
      ∃ r, s.entry i = .used r ∧ r'.variants = r.variants ∧ (r'.state = .retiring → r.state = .retiring)) :
    s.VariantsFrom (s.setEntry i x) := by
  intro j r' hr'
  rw [State.entry_setEntry] at hr'
  split at hr'
  · next h =>
    subst h
    exact hx r' hr'
  · exact .inr ⟨r', hr', rfl, id⟩

/-- A change of a record that keeps its variants and does not make it RETIRING. -/
theorem State.modRecord_variants (s : State) (i : Fin 40) {f : Record → Record} (hv : ∀ r, (f r).variants = r.variants)
    (hs : ∀ r, (f r).state = .retiring → r.state = .retiring) : s.VariantsFrom (s.modRecord i f) := by
  unfold State.modRecord
  split
  · next r hr =>
    refine s.setEntry_variants i fun r' hr' => ?_
    cases hr'
    exact .inr ⟨r, (State.record?_eq_some s).1 hr, hv r, hs r⟩
  · exact .refl s

/-- An operation made for each member of a list keeps the relation if one does. -/
theorem Ev.foldl_variants {α : Type} (f : Ev → α → Ev) (hf : ∀ (e : Ev) (a : α), e.s.VariantsFrom (f e a).s) (l : List α)
    (e : Ev) : e.s.VariantsFrom (l.foldl f e).s := by
  induction l generalizing e with
  | nil => exact .refl _
  | cons a l ih => exact (hf e a).trans (ih (f e a))

/-! ### The engine and the records' own checks -/

section
variable (e : Ev) (i : Fin 40) (s : State)

theorem Ev.done_variants : e.s.VariantsFrom e.done := .of_engine e.done_frame e.done_steady

theorem Ev.reresolve_variants : e.s.VariantsFrom (e.reresolve i).s := .of_engine (e.reresolve_frame i) (e.reresolve_steady i)

theorem Ev.examine_variants : e.s.VariantsFrom (e.examine i).s := .of_engine (e.examine_frame i) (e.examine_steady i)

theorem Record.makeCurrent_keeps (r : Record) (b : Buffer) :
    (r.makeCurrent b).variants = r.variants ∧ (r.makeCurrent b).state = r.state := by
  unfold Record.makeCurrent
  split <;> exact ⟨rfl, rfl⟩

theorem State.checkCurrency_variants : s.VariantsFrom (s.checkCurrency i) := by
  unfold State.checkCurrency
  split
  · exact .refl s
  · split
    · exact .refl s
    · next b _ =>
      split
      · exact s.modRecord_variants i (fun r => (r.makeCurrent_keeps b).1) fun r h => (r.makeCurrent_keeps b).2 ▸ h
      · exact .refl s

theorem State.checkRetired_variants : s.VariantsFrom (s.checkRetired i) := by
  unfold State.checkRetired State.enterRetired
  split
  · split
    · split
      · exact s.setEntry_variants i fun _ h => by cases h
      · exact .refl s
    · exact .refl s
  · exact .refl s

theorem State.loseSlot_variants (k : Fin 16) (b : Bool) : s.VariantsFrom (s.loseSlot i k b) := by
  unfold State.loseSlot
  refine State.VariantsFrom.trans (State.VariantsFrom.trans ?_ (State.checkRetired_variants i _))
    (State.checkCurrency_variants i _)
  refine s.modRecord_variants i (fun _ => rfl) fun r h => ?_
  simp only at h
  split at h
  · cases h
  · exact h

theorem State.modJob_variants (f : Job → Job) : s.VariantsFrom (s.modJob i f) := .of_slots rfl

theorem State.mapRecords_variants {f : Record → Record} (hv : ∀ r, (f r).variants = r.variants)
    (hs : ∀ r, (f r).state = r.state) : s.VariantsFrom (s.mapRecords f) := by
  intro j r' hr'
  rw [State.entry_mapRecords] at hr'
  split at hr'
  · next r he =>
    cases hr'
    exact .inr ⟨r, he, hv r, fun h => hs r ▸ h⟩
  · next hn => exact absurd hr' (hn r')

end

/-! ### Service, power, the plan and the frame start -/

section
variable (e : Ev) (p : PanelId)

theorem Ev.evalJoined_variants : e.s.VariantsFrom e.evalJoined.s := by
  rw [Ev.evalJoined_s]
  exact .of_slots rfl

theorem Ev.reportLoss_variants (b : Bool) (s : State) (k : Fin 16) : e.s.VariantsFrom (Ev.reportLoss b s e k).s := by
  unfold Ev.reportLoss
  split
  · exact .refl _
  · exact (State.loseSlot_variants _ _ k _).trans (State.modJob_variants _ _ _)

theorem Ev.leaveService_variants (b : Bool) : e.s.VariantsFrom (e.leaveService p b).s := by
  have stopped : e.s.VariantsFrom (e.modPanel p Panel.stopFrames).evalJoined.s :=
    State.VariantsFrom.trans (.of_slots rfl) (Ev.evalJoined_variants (e.modPanel p Panel.stopFrames))
  have freed : (e.modPanel p Panel.stopFrames).evalJoined.s.VariantsFrom
      ((e.modPanel p Panel.stopFrames).evalJoined.s.freeSlotsOf p) := .of_slots rfl
  exact (stopped.trans freed).trans (Ev.foldl_variants (Ev.reportLoss b (e.modPanel p Panel.stopFrames).evalJoined.s)
    (fun d k => Ev.reportLoss_variants d b _ k) _ ((e.modPanel p Panel.stopFrames).evalJoined.mod fun s => s.freeSlotsOf p))

theorem Ev.powerDown_variants : e.s.VariantsFrom (e.powerDown p).s := by
  simp only [Ev.powerDown]
  split
  · exact State.VariantsFrom.trans (.of_slots rfl) (Ev.leaveService_variants (e.modPanel p _) p _)
  · exact .of_slots rfl

theorem Ev.demandOff_variants : e.s.VariantsFrom (e.demandOff p).s := by
  unfold Ev.demandOff
  split
  · exact e.powerDown_variants p
  · exact e.powerDown_variants p
  · exact e.powerDown_variants p
  · exact .refl _

theorem State.modPanel_variants (s : State) (f : Panel → Panel) : s.VariantsFrom (s.modPanel p f) := .of_slots rfl

theorem State.checkPowerUp_variants (s : State) : s.VariantsFrom (s.checkPowerUp p) := .of_slots (by simp)

theorem State.enterOff_variants (s : State) : s.VariantsFrom (s.enterOff p) := .of_slots (by simp)

theorem Ev.changeDemand_variants (f : Panel → Panel) : e.s.VariantsFrom (e.changeDemand p f).s := by
  simp only [Ev.changeDemand]
  split
  · exact State.VariantsFrom.trans (.of_slots rfl) (State.checkPowerUp_variants p (e.s.modPanel p f))
  · exact State.VariantsFrom.trans (.of_slots rfl) (Ev.demandOff_variants (e.modPanel p f) p)
  · exact .of_slots rfl

theorem Ev.applyPlan_variants : e.s.VariantsFrom e.applyPlan.s :=
  ((e.changeDemand_variants .p0 _).trans (Ev.changeDemand_variants _ .p1 _)).trans (Ev.evalJoined_variants _)

theorem Ev.goOffline_variants (c : FaultCause) : e.s.VariantsFrom (e.goOffline p c).s := by
  simp only [Ev.goOffline]
  split
  · exact State.VariantsFrom.trans (.of_slots rfl) (Ev.leaveService_variants ((e.modPanel p _).raise .panel) p _)
  · exact .of_slots rfl

theorem Ev.leaveOffline_variants : e.s.VariantsFrom (e.leaveOffline p).s :=
  State.VariantsFrom.trans (.of_slots rfl) (State.enterOff_variants p (e.s.modPanel p _))

theorem Ev.checkWarning_variants : e.s.VariantsFrom (e.checkWarning p).s := by
  simp only [Ev.checkWarning]
  split
  · split
    · exact .refl _
    · exact .of_slots rfl
  · exact .of_slots rfl

theorem Ev.checkLevels_variants : e.s.VariantsFrom (e.checkLevels p).s := by
  simp only [Ev.checkLevels]
  split
  · exact e.goOffline_variants p _
  · split
    · exact .of_slots rfl
    · split
      · exact .of_slots rfl
      · exact .refl _

theorem Ev.checkHealth_variants : e.s.VariantsFrom (e.checkHealth p).s :=
  (e.checkWarning_variants p).trans (Ev.checkLevels_variants _ p)

theorem Ev.checkTimeout_variants (s : State) : e.s.VariantsFrom (Ev.checkTimeout p s e).s := by
  unfold Ev.checkTimeout
  split
  · exact e.checkHealth_variants p
  · exact .refl _

theorem Ev.reportApplied_variants (s : State) (k : Fin 16) : e.s.VariantsFrom (Ev.reportApplied p s e k).s := by
  unfold Ev.reportApplied
  split
  · exact .refl _
  · simp only
    split
    · refine State.VariantsFrom.trans ?_ (State.modJob_variants _ _ _)
      refine State.VariantsFrom.trans ?_ (State.checkCurrency_variants _ _)
      exact State.modRecord_variants _ _ (fun _ => rfl) fun _ h => h
    · refine State.VariantsFrom.trans ?_ (State.modJob_variants _ _ _)
      refine State.VariantsFrom.trans ?_ (State.checkCurrency_variants _ _)
      refine State.VariantsFrom.trans ?_ (State.checkRetired_variants _ _)
      exact State.modRecord_variants _ _ (fun _ => rfl) fun _ h => h

theorem Ev.reportFrame_variants (s : State) : e.s.VariantsFrom (Ev.reportFrame p s e).s :=
  Ev.foldl_variants _ (fun d k => Ev.reportApplied_variants d p s k) _ e

/-- The reports of a frame start, the ends of steps and the timeouts' checks come after updates of the panels and the slot bank. -/
theorem Ev.endSteps_variants : e.s.VariantsFrom e.endSteps.s := .of_engine e.endSteps_frame e.endSteps_steady

theorem Ev.soloFrame_variants : e.s.VariantsFrom (e.soloFrame p).s := by
  simp only [Ev.soloFrame]
  refine State.VariantsFrom.trans ?_ (Ev.checkTimeout_variants _ p _)
  refine State.VariantsFrom.trans ?_ (Ev.endSteps_variants _)
  refine State.VariantsFrom.trans ?_ (Ev.reportFrame_variants _ p _)
  exact .of_slots rfl

theorem Ev.jointFrame_variants : e.s.VariantsFrom e.jointFrame.s := by
  simp only [Ev.jointFrame]
  refine State.VariantsFrom.trans ?_ (Ev.checkTimeout_variants _ .p1 _)
  refine State.VariantsFrom.trans ?_ (Ev.checkTimeout_variants _ .p0 _)
  refine State.VariantsFrom.trans ?_ (Ev.endSteps_variants _)
  refine State.VariantsFrom.trans ?_ (Ev.reportFrame_variants _ .p1 _)
  refine State.VariantsFrom.trans ?_ (Ev.reportFrame_variants _ .p0 _)
  exact .of_slots rfl

theorem Ev.frameStart_variants : e.s.VariantsFrom (e.frameStart p).s := by
  unfold Ev.frameStart
  split
  · exact e.jointFrame_variants
  · exact State.VariantsFrom.trans (.of_slots rfl) (Ev.jointFrame_variants
      { (e.mod fun s => (s.modPanel .p1 fun x => { x with ackOwed := false }).setJoined .joined) with resolveAll := true })
  · exact e.soloFrame_variants _

theorem Ev.enterOn_variants : e.s.VariantsFrom (e.enterOn p).s := by
  unfold Ev.enterOn
  refine State.VariantsFrom.trans ?_ (Ev.evalJoined_variants _)
  refine State.VariantsFrom.trans ?_ (.of_engine (Ev.examineAll_frame _) (Ev.examineAll_steady _))
  refine State.VariantsFrom.trans ?_ (Ev.soloFrame_variants _ p)
  exact .of_slots rfl

/-! ### The classifier's decisions and the sensor line -/

theorem Ev.commit_variants (c : Posture) : e.s.VariantsFrom (e.commit c).s := by
  by_cases h : e.s.posture.committed = c
  · rw [e.commit_same h]
    exact .refl _
  · rw [e.commit_new (Ne.symm h)]
    refine State.VariantsFrom.trans ?_ (Ev.applyPlan_variants _)
    exact State.VariantsFrom.trans (.of_slots rfl) (State.mapRecords_variants _ (fun _ => rfl) fun _ => rfl)

theorem Ev.foldCheck_variants : e.s.VariantsFrom e.foldCheck.s := by
  rcases e.foldCheck_cases with ⟨-, h⟩ | h | ⟨-, -, h⟩
  · rw [h]
    exact .refl _
  · rw [h]
    exact State.VariantsFrom.trans (.of_slots rfl) (Ev.commit_variants (e.modPosture _) _)
  · rw [h, Ev.disagree_eq]
    exact .of_slots rfl

theorem Ev.startDwell_variants (c : Posture) : e.s.VariantsFrom (e.startDwell c).s := by
  unfold Ev.startDwell
  split
  · split
    · exact .of_slots rfl
    · exact State.VariantsFrom.trans (.of_slots rfl) (Ev.commit_variants (e.modPosture _) c)
  · exact .of_slots rfl

theorem Ev.applyDwell_variants (c : Posture) : e.s.VariantsFrom (e.applyDwell c).s := by
  unfold Ev.applyDwell
  split
  · exact .of_slots rfl
  · split
    · exact e.startDwell_variants c
    · split
      · exact .refl _
      · exact e.startDwell_variants c
    · split
      · split
        · exact .refl _
        · exact e.commit_variants c
      · exact e.startDwell_variants c

theorem Ev.evaluate_variants : e.s.VariantsFrom e.evaluate.s := by
  unfold Ev.evaluate
  split
  · exact e.foldCheck_variants
  · split
    · split
      · exact .of_slots rfl
      · exact e.commit_variants _
    · exact e.applyDwell_variants _

theorem Ev.dwellEnd_variants : e.s.VariantsFrom e.dwellEnd.s := by
  unfold Ev.dwellEnd
  split
  · exact .of_slots rfl
  · exact State.VariantsFrom.trans (.of_slots rfl) (Ev.commit_variants (e.modPosture _) _)

theorem Ev.takeLevel_variants : e.s.VariantsFrom e.takeLevel.s := by
  unfold Ev.takeLevel
  split
  · exact .refl _
  · split
    · exact State.VariantsFrom.trans (.of_slots rfl) (Ev.foldCheck_variants (e.modPosture _))
    · exact .of_slots rfl

theorem Ev.badEvent_variants (c : BadCause) : e.s.VariantsFrom (e.badEvent c).s := by
  simp only [Ev.badEvent]
  split
  · refine State.VariantsFrom.trans ?_ (Ev.foldCheck_variants _)
    exact .of_slots rfl
  · exact .of_slots rfl

end

section
variable (s : State)

theorem State.receive_variants (r : Reception) : s.VariantsFrom (s.receive r) := by
  cases hc : receptionBadCause r with
  | some c =>
    rw [s.receive_bad hc]
    generalize hu : ({ s with hinge := s.hinge.arrived r s.now } : State) = u
    have arrived : s.VariantsFrom u := hu ▸ .of_slots rfl
    exact arrived.trans ((Ev.badEvent_variants (Ev.start u) c).trans (Ev.done_variants _))
  | none =>
    cases r with
    | framingError => cases hc
    | frame w =>
      rw [s.receive_good hc, Ev.goodFrame_start]
      generalize hu : ({ s with hinge := s.hinge.arrived (.frame w) s.now } : State).tookFrame (frameCode w) (frameField w)
        (frameCount w) = u
      have took : s.VariantsFrom u := hu ▸ .of_slots rfl
      split
      · exact took.trans ((Ev.evaluate_variants (Ev.start u)).trans (Ev.done_variants _))
      · exact took.trans (Ev.done_variants (Ev.start u))

theorem State.frameCell_variants (bits : List Bool) (v : Bool) : s.VariantsFrom (s.frameCell bits v) := by
  unfold State.frameCell
  split
  · exact .of_slots rfl
  · split
    · exact s.receive_variants _
    · exact s.receive_variants _

end
end Sys2Proof.Machine
end

section
/-! SUPPORT. Requests that name a record: what their handle field finds (R44), and what a frame taken leaves of the records. -/

namespace Sys2Proof.Machine

section
variable {s : State} {f : HandleField} {i : Fin 40}

theorem State.liveRecord_none (h : s.checkHandle f = none) : s.liveRecord f = .error .badHandle := by
  simp [State.liveRecord, h]

theorem State.liveRecord_retiring (h : s.checkHandle f = some i) (hr : ∀ r, s.entry i = .used r → r.state = .retiring) :
    s.liveRecord f = .error .retiring := by
  simp only [State.liveRecord, h]
  cases hi : s.record? i with
  | none => rfl
  | some r => simp [hr r ((State.record?_eq_some s).1 hi)]

theorem State.liveRecord_ok {r : Record} (h : s.checkHandle f = some i) (he : s.entry i = .used r) (hs : r.state ≠ .retiring) :
    s.liveRecord f = .ok (i, r) := by
  simp [State.liveRecord, h, (State.record?_eq_some s).2 he, hs]

theorem State.entry_of_liveRecord {r : Record} (h : s.liveRecord f = .ok (i, r)) :
    s.entry i = .used r ∧ r.state ≠ .retiring := by
  unfold State.liveRecord at h
  split at h
  · cases h
  · split at h
    · next r' hr =>
      split at h
      · cases h
      · next hs =>
        cases h
        exact ⟨(State.record?_eq_some s).1 hr, hs⟩
    · cases h

end

section
variable (s : State) (c : Instr)

@[simp] theorem State.handed_entry (i : Fin 40) : (s.handed c).entry i = s.entry i := by
  unfold State.entry
  rw [State.handed_table]

@[simp] theorem State.handed_record? (i : Fin 40) : (s.handed c).record? i = s.record? i := by
  unfold State.record?
  rw [State.handed_entry]

@[simp] theorem State.handed_gen (i : Fin 40) : (s.handed c).gen i = s.gen i := by
  unfold State.gen
  rw [State.handed_table]

@[simp] theorem State.handed_handle (i : Fin 40) : (s.handed c).handle i = s.handle i := by
  unfold State.handle
  rw [State.handed_gen]

@[simp] theorem State.handed_checkHandle (f : HandleField) : (s.handed c).checkHandle f = s.checkHandle f := by
  simp only [State.checkHandle, State.handed_entry, State.handed_gen]

@[simp] theorem State.handed_liveRecord (f : HandleField) : (s.handed c).liveRecord f = s.liveRecord f := by
  simp only [State.liveRecord, State.handed_checkHandle, State.handed_record?]

@[simp] theorem State.handed_freeVariants : (s.handed c).freeVariants = s.freeVariants := by
  simp only [State.freeVariants, State.handed_record?]

end
end Sys2Proof.Machine
end

section
/-! SUPPORT. The variants after every command, and SET_VARIANT, which adds one. -/

namespace Sys2Proof.Machine

/-! ### Requests of the records -/

section
variable (e : Ev) (i : Fin 40)

theorem Ev.modRecord_variants {f : Record → Record} (hv : ∀ r, (f r).variants = r.variants)
    (hs : ∀ r, (f r).state = .retiring → r.state = .retiring) : e.s.VariantsFrom (e.modRecord i f).s :=
  e.s.modRecord_variants i hv hs

theorem Ev.restage_variants (f : SlotConfig → SlotConfig) : e.s.VariantsFrom (e.restage i f).s := .of_slots rfl

theorem Ev.offer_variants (r : Record) (b : Buffer) (c : OfferCase) : e.s.VariantsFrom (e.offer i r b c).s := by
  cases c with
  | mismatch => exact .refl _
  | settles =>
    simp only [Ev.offer, Ev.settleWait]
    refine State.VariantsFrom.trans ?_ (Ev.examine_variants _ i)
    refine State.VariantsFrom.trans ?_ (State.modJob_variants i _ _)
    refine State.VariantsFrom.trans ?_ (State.checkCurrency_variants i _)
    exact e.modRecord_variants i (fun _ => rfl) fun _ h => by exact h
  | restages =>
    refine State.VariantsFrom.trans ?_ (State.checkCurrency_variants i _)
    refine State.VariantsFrom.trans ?_ (Ev.restage_variants _ i _)
    exact e.modRecord_variants i (fun _ => rfl) fun _ h => by exact h
  | direct =>
    have taken : e.s.VariantsFrom (e.modRecord i fun r => { r.makeCurrent b with state := .parked }).s :=
      e.modRecord_variants i (fun r => (r.makeCurrent_keeps b).1) fun _ h => by cases h
    simp only [Ev.offer]
    split
    · exact taken.trans (Ev.reresolve_variants _ i)
    · exact taken

theorem Ev.amended_variants (old new : Record) : e.s.VariantsFrom (e.amended i old new).s := by
  have restaged (p : Prop) [Decidable p] (f : SlotConfig → SlotConfig) :
      e.s.VariantsFrom (if p then e.restage i f else e).s := by
    split
    · exact e.restage_variants i f
    · exact .refl _
  simp only [Ev.amended]
  split
  · exact (restaged _ _).trans (Ev.reresolve_variants _ i)
  · exact restaged _ _

theorem Ev.changeFocus_variants (new : Option Handle) : e.s.VariantsFrom (e.changeFocus new).s := by
  have step (o : Option Handle) (d : Ev) {f : Handle → Ev} (hf : ∀ h, d.s.VariantsFrom (f h).s) :
      d.s.VariantsFrom (o.elim d f).s := by
    cases o with
    | none => exact .refl _
    | some h => exact hf h
  simp only [Ev.changeFocus]
  refine State.VariantsFrom.trans (State.VariantsFrom.trans (State.VariantsFrom.trans (State.VariantsFrom.trans ?start
    (step e.s.table.focus _ ?loses)) (step new _ ?gains)) (step e.s.table.focus _ ?first)) (step new _ ?last)
  case start => exact .of_slots rfl
  case loses => exact fun h => Ev.restage_variants _ h.index _
  case gains => exact fun h => Ev.restage_variants _ h.index _
  case first => exact fun h => Ev.reresolve_variants _ h.index
  case last => exact fun h => (Ev.reresolve_variants _ h.index).trans (.of_slots rfl)

/-- R120: the cancellation of a job leaves every variant as it was. -/
theorem Ev.cancelJob_variants : e.s.VariantsFrom (e.cancelJob i).s := by
  unfold Ev.cancelJob
  split
  · exact .refl _
  · have freed : e.s.VariantsFrom (e.s.freeOwnClaims i) := .of_slots rfl
    exact (freed.trans (State.checkCurrency_variants i _)).trans (.of_slots rfl)

/-- R65: the record that a retirement makes RETIRING has lost its variants before. -/
theorem State.withdrawRecord_entry (s : State) (i j : Fin 40) : (s.withdrawRecord i).entry j =
    if j = i then (match s.entry i with
      | .used r => .used { r with variants := [], moveTo := none, resPending := false, wanted := none }
      | x => x) else s.entry j := by
  have same (m : Fin 40) :
      (if s.isFocus i then { s with table := { s.table with focus := none } } else s).entry m = s.entry m := by
    split <;> rfl
  simp only [State.withdrawRecord, State.entry_modRecord, same] <;> rfl

theorem Ev.retire_variants : e.s.VariantsFrom (e.retire i).s := by
  let withdrawn : Ev := e.mod fun s => s.withdrawRecord i
  have start : e.s.VariantsFrom withdrawn.s := fun j r' hr' => by
    replace hr' := (e.s.withdrawRecord_entry i j).symm.trans hr'
    split at hr'
    · split at hr'
      · cases hr'
        exact .inl rfl
      · next hn => exact absurd hr' (hn r')
    · exact .inr ⟨r', hr', rfl, id⟩
  have emptied (r : Record) (h : (withdrawn.cancelJob i).s.entry i = .used r) : r.variants = [] := by
    rcases withdrawn.cancelJob_variants i i r h with hv | ⟨r0, hr0, hv, -⟩
    · exact hv
    · replace hr0 := (e.s.withdrawRecord_entry i i).symm.trans hr0
      rw [if_pos rfl] at hr0
      split at hr0
      · cases hr0
        exact hv
      · next hn => exact absurd hr0 (hn r0)
  have marked : (withdrawn.cancelJob i).s.VariantsFrom
      (((withdrawn.cancelJob i).s.stageRemovals i).modRecord i fun r => { r with state := .retiring }) := fun j r' hr' => by
    have same (m : Fin 40) : ((withdrawn.cancelJob i).s.stageRemovals i).entry m = (withdrawn.cancelJob i).s.entry m := rfl
    rw [State.entry_modRecord, same, same] at hr'
    split at hr'
    · split at hr'
      · next r hr =>
        cases hr'
        exact .inl (emptied r hr)
      · next hn => exact absurd hr' (hn r')
    · exact .inr ⟨r', hr', rfl, id⟩
  exact ((start.trans (withdrawn.cancelJob_variants i)).trans marked).trans (State.checkRetired_variants i _)

end

section
variable (s : State)

/-- A request that rewrites a record, keeping its variants or emptying them, and re-resolves it. -/
theorem State.rewrite_variants {i : Fin 40} {r r' : Record} (h : s.entry i = .used r) (hs : r.state ≠ .retiring)
    (hv : r'.variants = r.variants ∨ r'.variants = []) (hs' : r'.state = r.state) (payload : State → List Byte) :
    s.VariantsFrom (((Ev.start (s.setEntry i (.used r'))).reresolve i).reply payload).1 := by
  refine State.VariantsFrom.trans ?_ ((Ev.reresolve_variants _ i).trans (Ev.done_variants _))
  refine s.setEntry_variants i fun _ h' => ?_
  cases h'
  rcases hv with hv | hv
  · exact .inr ⟨r, h, hv, fun hr => absurd (hs'.symm.trans hr) hs⟩
  · exact .inl hv

theorem ownCreateSurface_variants (cls owner : Half) (home z flags : Byte) (fill : Word) (buffer : Option Descriptor) :
    s.VariantsFrom (ownCreateSurface cls owner home z flags fill buffer s).1 := by
  unfold ownCreateSurface
  split
  · exact .refl s
  · split
    · exact .refl s
    · split
      · exact .refl s
      · simp only
        refine State.VariantsFrom.trans ?_ ((Ev.reresolve_variants _ _).trans (Ev.done_variants _))
        refine State.VariantsFrom.trans ?_ (State.setEntry_variants _ _ fun _ h => ?_)
        · split <;> exact .of_slots rfl
        · cases h
          cases buffer <;> exact .inl rfl

theorem ownOfferBuffer_variants (h : HandleField) (d : Descriptor) : s.VariantsFrom (ownOfferBuffer h d s).1 := by
  unfold ownOfferBuffer
  split
  · exact .refl s
  · split
    · exact .refl s
    · split
      · exact .refl s
      · simp only
        split
        · exact .refl s
        · have counted : s.VariantsFrom s.countOffer := .of_slots rfl
          exact (counted.trans (Ev.offer_variants (Ev.start s.countOffer) _ _ _ _)).trans (Ev.done_variants _)

theorem ownAmendSurface_variants (h : HandleField) (presence z home : Byte) (cls owner : Half) (flags : Byte) (fill : Word) :
    s.VariantsFrom (ownAmendSurface h presence z home cls owner flags fill s).1 := by
  unfold ownAmendSurface
  split
  · exact .refl s
  · next i r hr =>
    split
    · refine State.VariantsFrom.trans ?_ ((Ev.amended_variants _ i r _).trans (Ev.done_variants _))
      refine s.setEntry_variants i fun _ h' => ?_
      cases h'
      exact .inr ⟨r, (State.entry_of_liveRecord hr).1, rfl, id⟩
    · exact .refl s

theorem ownClearVariants_variants (h : HandleField) : s.VariantsFrom (ownClearVariants h s).1 := by
  unfold ownClearVariants
  split
  · exact .refl s
  · next hr =>
    split
    · exact .refl s
    · obtain ⟨he, hs⟩ := State.entry_of_liveRecord hr
      refine s.rewrite_variants he hs (.inr ?_) ?_ _ <;> rfl

theorem ownMoveSurface_variants (h : HandleField) (target : Byte) (rect : Option RectField) :
    s.VariantsFrom (ownMoveSurface h target rect s).1 := by
  unfold ownMoveSurface
  split
  · exact .refl s
  · next hr =>
    split
    · exact .refl s
    · obtain ⟨he, hs⟩ := State.entry_of_liveRecord hr
      refine s.rewrite_variants he hs (.inl ?_) ?_ _ <;> rfl

theorem State.focusOn_variants (new : Option Handle) : s.VariantsFrom (s.focusOn new).1 := by
  unfold State.focusOn
  split
  · exact .refl s
  · exact ((Ev.start s).changeFocus_variants new).trans (Ev.done_variants _)

theorem ownSetFocus_variants (h : HandleField) : s.VariantsFrom (ownSetFocus h s).1 := by
  unfold ownSetFocus
  split
  · exact s.focusOn_variants none
  · split
    · exact .refl s
    · exact s.focusOn_variants _

theorem ownRetireSurface_variants (h : HandleField) : s.VariantsFrom (ownRetireSurface h s).1 := by
  unfold ownRetireSurface
  split
  · exact .refl s
  · exact ((Ev.start s).retire_variants _).trans (Ev.done_variants _)

theorem ownRetireOwner_variants (owner : Half) : s.VariantsFrom (ownRetireOwner owner s).1 :=
  (Ev.foldl_variants Ev.retire (fun e i => e.retire_variants i) (s.ownedRecords owner) (Ev.start s)).trans
    (Ev.done_variants _)

theorem ownWriteRule_variants (index : Byte) (f : RuleField) : s.VariantsFrom (ownWriteRule index f s).1 := by
  unfold ownWriteRule
  split
  · split
    · exact .refl s
    · next r _ =>
      generalize hu : ({ s with rules := s.rules.set index.toNat r } : State) = u
      have stored : s.VariantsFrom u := hu ▸ .of_slots rfl
      exact stored.trans ((State.VariantsFrom.of_engine (Ev.reresolveAll_frame _) (Ev.reresolveAll_steady _)).trans
        (Ev.done_variants (Ev.start u).reresolveAll))
  · exact .refl s

theorem State.clearReported_variants (i : Fin 40) : s.VariantsFrom (s.clearReported i) := by
  unfold State.clearReported
  split
  · exact .refl s
  · next r he =>
    refine s.setEntry_variants i fun _ h => ?_
    cases h
    exact .inr ⟨r, he, rfl, id⟩
  · exact State.VariantsFrom.trans (s.setEntry_variants i (x := .free) fun _ h => by cases h) (.of_slots rfl)

theorem ownReadNotices_variants : s.VariantsFrom (ownReadNotices s).1 := by
  have cleared (l : List (Fin 40)) (u : State) : u.VariantsFrom (l.foldl State.clearReported u) := by
    induction l generalizing u with
    | nil => exact .refl u
    | cons i l ih => exact (u.clearReported_variants i).trans (ih _)
  have moved (l : List (Fin 40)) (u : State) : u.VariantsFrom (u.moveCursor l) := by
    unfold State.moveCursor
    split
    · exact .of_slots rfl
    · exact .refl u
  exact ((cleared s.reported s).trans (moved _ _)).trans (.of_slots rfl)

/-! ### SET_VARIANT -/

theorem PostureSet.without_has (a b : PostureSet) (p : Posture) : (a.without b).has p = (a.has p && !b.has p) := by
  cases p <;> rfl

/-- R59: the variants kept are not empty, and none is for a posture of the new one. -/
theorem mem_keptVariants {new : PostureSet} {l : List Variant} {v : Variant} (h : v ∈ keptVariants new l) :
    v.postures.isEmpty = false ∧ v.postures.disjoint new := by
  unfold keptVariants at h
  obtain ⟨hm, he⟩ := List.mem_filter.1 h
  obtain ⟨w, -, rfl⟩ := List.mem_map.1 hm
  refine ⟨by simpa using he, fun p hp => ?_⟩
  simp only [PostureSet.without_has, Bool.and_eq_true, Bool.not_eq_true'] at hp
  exact absurd hp.2 (by simp [hp.1.2])

theorem keptVariants_disjoint (new : PostureSet) {l : List Variant}
    (h : l.Pairwise fun a b => a.postures.disjoint b.postures) :
    (keptVariants new l).Pairwise fun a b => a.postures.disjoint b.postures := by
  unfold keptVariants
  refine List.Pairwise.filter _ (List.pairwise_map.2 (h.imp fun {a b} hab p hp => hab p ?_))
  simp only [PostureSet.without_has, Bool.and_eq_true] at hp
  exact ⟨hp.1.1, hp.2.1⟩

/-- R58, R59: the record with the variant added. -/
theorem Record.VariantsOk.add {r : Record} (ok : r.VariantsOk) {v : Variant} (hs : r.state ≠ .retiring)
    (hv : v.postures.isEmpty = false) (hk : (keptVariants v.postures r.variants).length < 4) :
    Record.VariantsOk { r with variants := keptVariants v.postures r.variants ++ [v] } where
  count := by simpa using hk
  some := fun w hw => by
    rcases List.mem_append.1 hw with hw | hw
    · exact (mem_keptVariants hw).1
    · rw [List.mem_singleton.1 hw]
      exact hv
  disjoint := List.pairwise_append.2 ⟨keptVariants_disjoint _ ok.disjoint, List.pairwise_singleton _ _, fun a ha b hb => by
    rw [List.mem_singleton.1 hb]
    exact (mem_keptVariants ha).2⟩
  retiring := fun h => absurd h hs

theorem ownSetVariant_variantsOk (h : HandleField) (postures target fallback : Byte) (rect : Option RectField)
    (ok : s.VariantsOk) : (ownSetVariant h postures target fallback rect s).1.VariantsOk := by
  unfold ownSetVariant
  split
  · exact ok
  · next i r hr =>
    obtain ⟨he, hs⟩ := State.entry_of_liveRecord hr
    split
    · split
      · exact ok
      · next hbad =>
        simp only
        split
        · exact ok
        · next hroom =>
          refine ((Ev.reresolve_variants _ i).trans (Ev.done_variants _)).ok ?_
          simp only [Bool.or_eq_true, not_or, postureByteBad] at hbad
          obtain ⟨⟨-, hempty⟩, -⟩ := hbad
          intro j r' hr'
          rw [State.record?_eq_some] at hr'
          replace hr' := (State.entry_setEntry s i j _).symm.trans hr'
          split at hr'
          · cases hr'
            refine (ok i r ((State.record?_eq_some s).2 he)).add (v := ⟨_, _, _, _⟩) hs (Bool.eq_false_iff.2 hempty) ?_
            exact Nat.lt_of_not_le fun hle => hroom (.inl hle)
          · exact ok j r' ((State.record?_eq_some s).2 hr')
    · exact ok

end

/-! ### Requests of the hinge, the posture and the panels -/

section
variable (s : State)

theorem Ev.planChange_variants (e : Ev) : e.s.VariantsFrom e.planChange.done := by
  have planned : e.s.VariantsFrom e.planChange.s := e.applyPlan_variants
  exact planned.trans (Ev.done_variants _)

theorem ownHingeEnable_variants (value : Byte) : s.VariantsFrom (ownHingeEnable value s).1 := by
  unfold ownHingeEnable
  split
  · exact .refl s
  · simp only
    split
    · refine State.VariantsFrom.trans ?_ (Ev.done_variants _)
      refine State.VariantsFrom.trans ?_ (Ev.foldCheck_variants _)
      exact .of_slots rfl
    · rw [Ev.disableInput_start]
      refine State.VariantsFrom.trans ?_ (Ev.done_variants _)
      exact .of_slots rfl
    · exact .refl s

theorem ownSetSwitch_variants (use : Byte) (limit : Half) : s.VariantsFrom (ownSetSwitch use limit s).1 := by
  unfold ownSetSwitch
  split
  · exact .refl s
  · refine State.VariantsFrom.trans ?_ (Ev.done_variants _)
    split
    · exact State.VariantsFrom.trans (.of_slots rfl) (Ev.foldCheck_variants ((Ev.start s).modPosture _))
    · exact .of_slots rfl

theorem ownForcePosture_variants (code : Byte) : s.VariantsFrom (ownForcePosture code s).1 := by
  unfold ownForcePosture
  split
  · exact .refl s
  · split
    · exact ((Ev.start s).commit_variants _).trans (Ev.done_variants _)
    · exact .refl s

theorem ownSetFront_variants (value : Byte) : s.VariantsFrom (ownSetFront value s).1 := by
  unfold ownSetFront
  split
  · exact .refl s
  · split
    · exact .refl s
    · exact State.VariantsFrom.trans (.of_slots rfl) (Ev.planChange_variants ((Ev.start s).modPosture _))

theorem ownSetSpan_variants (value : Byte) : s.VariantsFrom (ownSetSpan value s).1 := by
  unfold ownSetSpan
  split
  · exact .refl s
  · split
    · exact .refl s
    · exact State.VariantsFrom.trans (.of_slots rfl) (Ev.planChange_variants ((Ev.start s).modPosture _))

theorem ownSetPanelGeometry_variants (w h g : Half) : s.VariantsFrom (ownSetPanelGeometry w h g s).1 := by
  unfold ownSetPanelGeometry
  split
  · split
    · exact State.VariantsFrom.trans (.of_slots rfl) (Ev.done_variants _)
    · exact .refl s
  · exact .refl s

theorem ownSetLending_variants (lender count : Byte) : s.VariantsFrom (ownSetLending lender count s).1 := by
  unfold ownSetLending
  split
  · exact .refl s
  · split
    · split
      · exact .refl s
      · split
        · exact State.VariantsFrom.trans (.of_slots rfl) (Ev.done_variants _)
        · exact .refl s
    · exact .refl s

theorem ownPanelEnable_variants (panel value : Byte) : s.VariantsFrom (ownPanelEnable panel value s).1 := by
  unfold ownPanelEnable
  split
  · have enabled (p : PanelId) (on : Bool) : s.VariantsFrom ((Ev.start s).setEnable p on).s :=
      (Ev.start s).changeDemand_variants p _
    exact (enabled _ _).trans (Ev.done_variants _)
  · exact .refl s

theorem ownPanelRecover_variants (panel : Byte) : s.VariantsFrom (ownPanelRecover panel s).1 := by
  unfold ownPanelRecover
  split
  · exact .refl s
  · next p _ =>
    simp only
    split
    · exact State.VariantsFrom.trans (.of_slots rfl)
        ((Ev.leaveOffline_variants (Ev.start (s.modPanel p _)) p).trans (Ev.done_variants _))
    · exact .of_slots rfl

end

/-! ### Every command -/

/-- A request keeps what its owner keeps. -/
theorem State.runRequest_variantsOk {owner : State → State × Reply} (h : ∀ u : State, u.VariantsOk → (owner u).1.VariantsOk)
    (s : State) (c : Instr) (ok : s.VariantsOk) : (s.runRequest c owner).VariantsOk := by
  by_cases ht : s.turn c
  · rw [State.runRequest_turn ht]
    exact h (s.handed c) fun i r hr => ok i r (by rwa [State.handed_record?] at hr)
  · rw [State.runRequest_busy ht, State.discard_eq]
    split
    · exact ok
    · exact ok

theorem State.atTimer_variants {f : State → State} (h : ∀ u : State, u.VariantsFrom (f u)) (s : State) (t : Timer) :
    s.VariantsFrom (s.atTimer t f) := by
  cases t with
  | none => exact .refl s
  | some t => exact State.VariantsFrom.trans (.of_slots rfl) (h (s.reach t))

theorem State.trainOk_variants (s : State) (p : PanelId) : s.VariantsFrom (s.trainOk p) :=
  .ite ((Ev.enterOn_variants (Ev.start s) p).trans (Ev.done_variants _))

theorem State.settleAck_variants (s : State) (p : PanelId) (f : Panel → Panel) : s.VariantsFrom (s.settleAck p f) :=
  .ite (State.VariantsFrom.trans (.of_slots rfl)
    ((Ev.checkHealth_variants ((Ev.start s).modPanel p _) p).trans (Ev.done_variants _)))

theorem State.ackByte_variants (s : State) (p : PanelId) (code : Byte) (stop : Bool) : s.VariantsFrom (s.ackByte p code stop) := by
  unfold State.ackByte
  split
  · split
    · exact s.trainOk_variants p
    · split
      · exact s.settleAck_variants p _
      · exact s.settleAck_variants p _
  · exact State.VariantsFrom.trans (.of_slots rfl) (State.settleAck_variants (s.modPanel p _) p _)

/-- No record stands after a reset. -/
theorem State.variantsFrom_of_free (s : State) {t : State} (h : ∀ i, t.entry i = .free) : s.VariantsFrom t := by
  intro i r hr
  rw [h i] at hr
  cases hr

theorem exec_variantsOk (c : Instr) (s : State) (ok : s.VariantsOk) : ∃ t, exec c s = .next t ∧ t.VariantsOk := by
  have kept {t : State} (h : s.VariantsFrom t) : t.VariantsOk := h.ok ok
  have same {t : State} (h : t.table.slots = s.table.slots) : t.VariantsOk := kept (.of_slots h)
  have owned {owner : State → State × Reply} (h : ∀ u : State, u.VariantsFrom (owner u).1) :
      (s.runRequest c owner).VariantsOk := State.runRequest_variantsOk (fun u hu => (h u).ok hu) s c ok
  have settings {owner : State → State × Reply} (h : ∀ u : State, (owner u).1.table.slots = u.table.slots) :
      (s.runRequest c owner).VariantsOk := owned fun u => .of_slots (h u)
  have ended (u : State) (e : Ev) (h : u.VariantsFrom e.s) : u.VariantsFrom e.done := h.trans e.done_variants
  cases c
  case writeTransaction bytes n =>
    have taken : s.VariantsFrom (s.takeFrame (judge bytes n)) := by
      unfold State.takeFrame
      split
      · exact .of_slots rfl
      · exact s.variantsFrom_of_free fun i => (s.beginSoftReset_entry i).1
      · exact .of_slots rfl
    have discarded : s.VariantsFrom s.discard := .ite_not (.of_slots rfl)
    refine ⟨_, rfl, kept ?_⟩
    split
    · exact taken
    · exact taken
    · exact discarded
    · exact discarded
  case readTransaction busy n =>
    refine ⟨_, rfl, same ?_⟩
    simp only [State.read, State.deliver]
    split
    · rfl
    · split
      · split <;> rfl
      · rfl
  case ignoredTransaction => exact ⟨_, rfl, ok⟩
  case powerOnReset =>
    exact ⟨_, rfl, kept (s.variantsFrom_of_free fun i => State.powerOn_entry s.now s.posture.rawLevel s.pending i)⟩
  case powerOnResetEnd => exact ⟨_, rfl, kept (.ite (s.variantsFrom_of_free fun i => State.powerOn_entry _ _ _ i))⟩
  case softResetEnd => exact ⟨_, rfl, kept (.ite (.of_slots rfl))⟩
  case reset =>
    refine ⟨_, rfl, kept ?_⟩
    unfold State.resetRequest
    split
    · exact s.variantsFrom_of_free fun i => (s.beginSoftReset_entry i).1
    · exact s.variantsFrom_of_free fun i => (s.beginSoftReset_entry i).1
    · exact .ite_not (.of_slots rfl)
    · exact .ite_not (.of_slots rfl)
  case lineIdle => exact ⟨_, rfl, kept (.ite (.of_slots rfl))⟩
  case frameArrival r => exact ⟨_, rfl, kept (.ite (s.receive_variants r))⟩
  case cellTimeout =>
    refine ⟨_, rfl, kept (.ite ?_)⟩
    split
    · next t _ _ => exact State.VariantsFrom.trans (.of_slots rfl) ((s.reach t).receive_variants _)
    · exact .refl s
  case silentExpiry =>
    refine ⟨_, rfl, kept ?_⟩
    split
    · exact .refl s
    · next t _ =>
      refine ended s _ (State.VariantsFrom.trans ?_ (Ev.badEvent_variants _ _))
      exact .of_slots rfl
  case hsnsCell n =>
    refine ⟨_, rfl, kept (.ite ?_)⟩
    split
    · exact .refl s
    · split
      · exact s.receive_variants _
      · exact .of_slots rfl
    · exact s.frameCell_variants _ _
  case dwellExpiry =>
    refine ⟨_, rfl, kept ?_⟩
    split
    · next t _ => exact ended s _ (State.VariantsFrom.trans (.of_slots rfl) (Ev.dwellEnd_variants (Ev.start (s.reach t))))
    · exact .refl s
  case foldEdge level =>
    refine ⟨_, rfl, same ?_⟩
    split
    · rfl
    · split <;> rfl
  case debounceExpiry =>
    refine ⟨_, rfl, kept ?_⟩
    split
    · exact .refl s
    · next t _ =>
      exact ended s _ (State.VariantsFrom.trans (.of_slots rfl)
        (Ev.takeLevel_variants ((Ev.start (s.reach t)).modPosture fun c => { c with debounceTimer := none })))
  case deadlineExpiry i =>
    refine ⟨_, rfl, kept ?_⟩
    split
    · exact .refl s
    · next t _ =>
      have waited : (s.reach t).VariantsFrom ((Ev.start (s.reach t)).expireWait i).s :=
        .of_engine (Ev.expireWait_frame (Ev.start (s.reach t)) i) (Ev.expireWait_steady (Ev.start (s.reach t)) i)
      exact ended s _ (State.VariantsFrom.trans (.of_slots rfl) (waited.trans (Ev.examine_variants _ i)))
  case readHinge | readPosture | readQueue | readStatus | setNoticeThreshold | setFilter | setPowerTiming =>
    exact ⟨_, rfl, settings fun _ => rfl⟩
  case hingeEnable v => exact ⟨_, rfl, owned fun u => ownHingeEnable_variants u v⟩
  case setCalibration points => exact ⟨_, rfl, settings fun u => by unfold ownSetCalibration; split <;> rfl⟩
  case setBands => exact ⟨_, rfl, settings fun u => by unfold ownSetBands; split <;> rfl⟩
  case setSwitch => exact ⟨_, rfl, owned fun u => ownSetSwitch_variants u _ _⟩
  case forcePosture => exact ⟨_, rfl, owned fun u => ownForcePosture_variants u _⟩
  case setFront => exact ⟨_, rfl, owned fun u => ownSetFront_variants u _⟩
  case setSpan => exact ⟨_, rfl, owned fun u => ownSetSpan_variants u _⟩
  case createSurface => exact ⟨_, rfl, owned fun u => ownCreateSurface_variants u _ _ _ _ _ _ _⟩
  case offerBuffer => exact ⟨_, rfl, owned fun u => ownOfferBuffer_variants u _ _⟩
  case amendSurface => exact ⟨_, rfl, owned fun u => ownAmendSurface_variants u _ _ _ _ _ _ _ _⟩
  case setVariant =>
    exact ⟨_, rfl, State.runRequest_variantsOk (fun u hu => ownSetVariant_variantsOk u _ _ _ _ _ hu) s _ ok⟩
  case clearVariants => exact ⟨_, rfl, owned fun u => ownClearVariants_variants u _⟩
  case setFocus => exact ⟨_, rfl, owned fun u => ownSetFocus_variants u _⟩
  case lookupSurface => exact ⟨_, rfl, settings fun u => by unfold ownLookupSurface; split <;> rfl⟩
  case findSurfaces => exact ⟨_, rfl, settings fun u => by unfold ownFindSurfaces; split; rfl; split <;> rfl⟩
  case retireSurface => exact ⟨_, rfl, owned fun u => ownRetireSurface_variants u _⟩
  case retireOwner => exact ⟨_, rfl, owned fun u => ownRetireOwner_variants u _⟩
  case writeRule => exact ⟨_, rfl, owned fun u => ownWriteRule_variants u _ _⟩
  case readRule => exact ⟨_, rfl, settings fun u => by unfold ownReadRule; split; rfl; split <;> rfl⟩
  case moveSurface => exact ⟨_, rfl, owned fun u => ownMoveSurface_variants u _ _ _⟩
  case setPanelGeometry => exact ⟨_, rfl, owned fun u => ownSetPanelGeometry_variants u _ _ _⟩
  case setLending => exact ⟨_, rfl, owned fun u => ownSetLending_variants u _ _⟩
  case setRefresh =>
    exact ⟨_, rfl, settings fun u => by
      unfold ownSetRefresh
      split
      · rfl
      · simp only [State.pendRefresh]
        split <;> rfl⟩
  case panelEnable => exact ⟨_, rfl, owned fun u => ownPanelEnable_variants u _ _⟩
  case readPanel => exact ⟨_, rfl, settings fun u => by unfold ownReadPanel; split <;> rfl⟩
  case panelRecover => exact ⟨_, rfl, owned fun u => ownPanelRecover_variants u _⟩
  case setRecoveryMode => exact ⟨_, rfl, settings fun u => by unfold ownSetRecoveryMode; split <;> rfl⟩
  case ackAttention => exact ⟨_, rfl, settings fun u => by unfold ownAckAttention; split <;> rfl⟩
  case attnEnable => exact ⟨_, rfl, settings fun u => by unfold ownAttnEnable; split <;> rfl⟩
  case attnDisable => exact ⟨_, rfl, settings fun u => by unfold ownAttnDisable; split <;> rfl⟩
  case readNotices => exact ⟨_, rfl, owned ownReadNotices_variants⟩
  case offTimeExpiry p =>
    exact ⟨_, rfl, kept (s.atTimer_variants (fun u => (u.modPanel_variants p _).trans (State.checkPowerUp_variants p _)) _)⟩
  case railStageEnd p => exact ⟨_, rfl, kept (.ite (s.atTimer_variants (fun u => u.modPanel_variants p _) _))⟩
  case resetStageEnd p => exact ⟨_, rfl, kept (.ite (s.atTimer_variants (fun u => u.modPanel_variants p _) _))⟩
  case trainingExpiry p =>
    exact ⟨_, rfl, kept (.ite (s.atTimer_variants (fun u => ended u _ (Ev.goOffline_variants (Ev.start u) p _)) _))⟩
  case powerDownEnd p =>
    exact ⟨_, rfl, kept (.ite (s.atTimer_variants
      (fun u => (u.modPanel_variants p _).trans (State.enterOff_variants p _)) _))⟩
  case trainOk p => exact ⟨_, rfl, kept (.ite (s.trainOk_variants p))⟩
  case frameOk p => exact ⟨_, rfl, kept (.ite (s.settleAck_variants p _))⟩
  case frameBad p => exact ⟨_, rfl, kept (.ite (s.settleAck_variants p _))⟩
  case unknownAckCode p code stop => exact ⟨_, rfl, kept (.ite (s.ackByte_variants p code stop))⟩
  case ackPathIdle p => exact ⟨_, rfl, ok⟩
  case frameStart p =>
    refine ⟨_, rfl, kept (.ite (ended s _ ?_))⟩
    exact State.VariantsFrom.trans (.of_slots rfl) (Ev.frameStart_variants (Ev.start (s.elapse _)) p)
  case stagingCutoff p => exact ⟨_, rfl, kept (.ite (.of_slots rfl))⟩
  case quietExpiry p =>
    refine ⟨_, rfl, kept (.ite (s.atTimer_variants (fun u => ended u _ ?_) _))⟩
    exact State.VariantsFrom.trans (.of_slots rfl) (Ev.leaveOffline_variants ((Ev.start u).modPanel p _) p)
  case stabilityExpiry p => exact ⟨_, rfl, kept (s.atTimer_variants (fun u => u.modPanel_variants p _) _)⟩

/-- Settles O12: SET_VARIANT by `Record.VariantsOk.add`, every other command by `State.VariantsFrom`. -/
theorem variantsKept : Obligations.VariantsKept :=
  keptByStep_of_exec (P := State.VariantsOk) (fun _ _ ok => ok) (fun _ ok => ok) exec_variantsOk

end Sys2Proof.Machine
end

section
/-! SUPPORT. The requests that find and report records: the layout of a record's 143 bytes (R63), the scan of FIND_SURFACES (R64). -/

namespace Sys2Proof.Machine

/-! ### Lengths of the fields -/

@[simp] theorem halfBytes_length (h : Half) : (halfBytes h).length = 2 := rfl
@[simp] theorem wordBytes_length (w : Word) : (wordBytes w).length = 4 := rfl
@[simp] theorem zeros_length (n : Nat) : (zeros n).length = n := List.length_replicate
@[simp] theorem Handle.bytes_length (h : Handle) : h.bytes.length = 2 := rfl
@[simp] theorem Rect.bytes_length (r : Rect) : r.bytes.length = 8 := rfl
@[simp] theorem Size.bytes_length (z : Size) : z.bytes.length = 4 := rfl
@[simp] theorem Buffer.bytes_length (b : Buffer) : b.bytes.length = 12 := rfl
@[simp] theorem Piece.bytes_length (t : Piece) : t.bytes.length = 15 := rfl

theorem optBytes_length {α : Type} {n : Nat} {f : α → List Byte} (h : ∀ x, (f x).length = n) (o : Option α) :
    (optBytes n f o).length = n := by
  cases o with
  | none => exact zeros_length n
  | some x => exact h x

@[simp] theorem Variant.bytes_length (v : Variant) : v.bytes.length = 12 := by
  simp [Variant.bytes, optBytes_length Rect.bytes_length]

theorem places_length {α : Type} {size : Nat} {f : α → List Byte} (h : ∀ x, (f x).length = size) (n : Nat) (l : List α) :
    (places size f n l).length = n * size := by
  induction n generalizing l with
  | zero => simp [places]
  | succ n ih =>
    cases l with
    | nil => simp [places, ih, Nat.add_mul, Nat.add_comm]
    | cons x xs => simp [places, ih, h, Nat.add_mul, Nat.add_comm]

/-- R63, R185: a record's layout is of 143 bytes. -/
theorem Record.bytes_length (h : Handle) (r : Record) : (r.bytes h).length = 143 := by
  simp [Record.bytes, optBytes_length Buffer.bytes_length, optBytes_length Size.bytes_length,
    optBytes_length halfBytes_length, optBytes_length Rect.bytes_length, places_length Piece.bytes_length,
    places_length Variant.bytes_length]

theorem retiredBytes_length (h : Handle) (released : Option Half) (m : Marks) : (retiredBytes h released m).length = 143 := by
  simp [retiredBytes, optBytes_length halfBytes_length]

/-! ### LOOKUP_SURFACE -/

section
variable {s : State} {f : HandleField} {i : Fin 40}

theorem State.checkHandle_eq_some : s.checkHandle f = some i ↔
    f.idx.toNat = i.val ∧ s.entry i ≠ .free ∧ f.gen.toNat = (s.gen i).val := by
  have isFree (j : Fin 40) : (s.entry j).isFree = false ↔ s.entry j ≠ .free := by
    rw [← Bool.not_eq_true, TableSlot.isFree_iff]
  unfold State.checkHandle
  split
  · next hi =>
    simp only [Option.ite_none_right_eq_some, Bool.and_eq_true, Bool.not_eq_true', beq_iff_eq, Option.some.injEq, isFree]
    constructor
    · rintro ⟨h, rfl⟩
      exact ⟨rfl, h⟩
    · rintro ⟨hv, h⟩
      obtain rfl : (⟨f.idx.toNat, hi⟩ : Fin 40) = i := Fin.ext hv
      exact ⟨h, rfl⟩
  · next hi => simpa using fun hv : f.idx.toNat = i.val => absurd (hv ▸ i.isLt) hi

theorem State.checkHandle_eq_none (h : ∀ i : Fin 40, f.idx.toNat = i.val → s.entry i = .free ∨ f.gen.toNat ≠ (s.gen i).val) :
    s.checkHandle f = none := by
  cases hi : s.checkHandle f with
  | none => rfl
  | some i =>
    obtain ⟨hv, hf, hg⟩ := State.checkHandle_eq_some.1 hi
    rcases h i hv with h | h
    · exact absurd h hf
    · exact absurd hg h

/-- A byte is what its number writes. -/
theorem byteOf_eq {b : Byte} {n : Nat} (h : b.toNat = n) : byteOf n = b := by
  rw [← h, byteOf, BitVec.ofNat_toNat, BitVec.setWidth_eq]

theorem State.handle_bytes (h : s.checkHandle f = some i) : (s.handle i).bytes = [f.gen, f.idx] := by
  obtain ⟨hv, -, hg⟩ := State.checkHandle_eq_some.1 h
  exact congrArg₂ (fun a b => [a, b]) (byteOf_eq hg) (byteOf_eq hv)

theorem lookupSurface_answers (ht : s.turn (.lookupSurface f)) (h : s.checkHandle f = some i) :
    Answers (.lookupSurface f) s (s.answered .ok ((s.entry i).bytes (s.handle i))) := by
  have own : ownLookupSurface f (s.handed (.lookupSurface f)) =
      report (s.handed (.lookupSurface f)) ((s.entry i).bytes (s.handle i)) := by
    simp only [ownLookupSurface, State.handed_checkHandle, h, State.handed_entry, State.handed_handle]
  have ha := answers_of_owner ht rfl own
  rwa [State.handed_answered] at ha

theorem lookupSurface_refused (ht : s.turn (.lookupSurface f)) (h : s.checkHandle f = none) :
    Answers (.lookupSurface f) s (s.answered .badHandle []) :=
  answers_refused ht rfl (by simp only [ownLookupSurface, State.handed_checkHandle, h])

end

/-! ### FIND_SURFACES -/

section
variable {s : State}

theorem State.mem_found {c : Criterion} {n : Nat} {i : Fin 40} :
    i ∈ s.found c n ↔ n ≤ i.val ∧ c.meets (s.entry i) = true := by
  simp [State.found, allRecords]

theorem State.found_pairwise (c : Criterion) (n : Nat) : (s.found c n).Pairwise (· < ·) :=
  (finRange_pairwise_lt 40).filter _

theorem nextCursor_eq (l : List (Fin 40)) :
    nextCursor l = if 16 < l.length then byteOf ((l.getD 15 0).val + 1) else 0xFF#8 := by
  unfold nextCursor
  split
  · next h =>
    replace h : 16 < l.length := h
    rw [if_pos h, Config.handlesPerFind, List.getLast?_take, if_neg (by decide)]
    have h15 : 15 < l.length := by omega
    simp [h15]
  · next h => exact (if_neg h).symm

theorem findSurfaces_answers {kind cursor : Byte} {value : Word} (ht : s.turn (.findSurfaces kind value cursor))
    {c : Criterion} (hc : criterionOf kind value = some c) (hn : cursor.toNat ≤ 39) :
    Answers (.findSurfaces kind value cursor) s (s.answered .ok (s.findReport c cursor.toNat)) := by
  have same : (s.handed (.findSurfaces kind value cursor)).findReport c cursor.toNat = s.findReport c cursor.toNat := by
    simp only [State.findReport, State.found, State.handed_entry, State.handed_handle]
  have own : ownFindSurfaces kind value cursor (s.handed (.findSurfaces kind value cursor)) =
      report (s.handed (.findSurfaces kind value cursor)) (s.findReport c cursor.toNat) := by
    simp only [ownFindSurfaces, hc, if_neg (Nat.not_lt.2 hn), same]
  have ha := answers_of_owner ht rfl own
  rwa [State.handed_answered] at ha

theorem findSurfaces_refused {kind cursor : Byte} {value : Word} (ht : s.turn (.findSurfaces kind value cursor))
    (h : criterionOf kind value = none ∨ 39 < cursor.toNat) :
    Answers (.findSurfaces kind value cursor) s (s.answered .badValue []) := by
  refine answers_refused ht rfl ?_
  unfold ownFindSurfaces
  split
  · rfl
  · next hc =>
    rcases h with h | h
    · cases hc.symm.trans h
    · exact if_pos h

end

/-- Settles O26: the layout by the lengths of its fields, and the scan by `State.mem_found` and `nextCursor_eq`. -/
theorem lookupAndFindReport : Obligations.LookupAndFindReport := by
  refine ⟨fun s h ht => ⟨fun i hv hf hg => ?_, fun hn => ?_⟩, fun s kind cursor value ht => ⟨fun c hc hn => ?_, fun h => ?_⟩⟩
  · have found := State.checkHandle_eq_some.2 ⟨hv, hf, hg⟩
    refine ⟨_, lookupSurface_answers ht found, ?_, ?_, rfl⟩
    · cases he : s.entry i with
      | free => exact absurd he hf
      | used r => exact Record.bytes_length _ r
      | retired released m => exact retiredBytes_length _ released m
    · cases he : s.entry i with
      | free => exact absurd he hf
      | used r => simp [TableSlot.bytes, Record.bytes, State.handle_bytes found]
      | retired released m => simp [TableSlot.bytes, retiredBytes, State.handle_bytes found, retiredCode]
  · exact lookupSurface_refused ht (State.checkHandle_eq_none hn)
  · refine ⟨s.found c cursor.toNat, fun i => State.mem_found, State.found_pairwise c _, ?_⟩
    rw [← nextCursor_eq]
    exact findSurfaces_answers ht hc hn
  · exact findSurfaces_refused ht h

end Sys2Proof.Machine
end

section
/-! SUPPORT. READ_NOTICES: the order of the scan (R170), and what a report does to the records it lists (R68, R171). -/

namespace Sys2Proof.Machine

/-! ### The scan -/

/-- R170: the scan goes up from the cursor and round the table. -/
theorem scanOrder_eq (c : Fin 40) : scanOrder c = (List.range 40).map fun n => c + Fin.ofNat 40 n := by
  revert c
  decide +kernel

theorem Marks.any_eq (m : Marks) : m.any = decide (m ≠ .empty) := by
  obtain ⟨placement, wanted, stale, evicted, released, retired⟩ := m
  simp only [Marks.any, Marks.empty, ne_eq, Marks.mk.injEq]
  revert placement wanted stale evicted released retired
  decide

theorem State.reported_eq (s : State) : s.reported =
    (((List.range 40).map fun n => s.table.cursor + Fin.ofNat 40 n).filter fun i => (s.entry i).marks ≠ .empty).take 8 := by
  simp only [State.reported, scanOrder_eq, Marks.any_eq]
  rfl

theorem State.reported_nodup (s : State) : s.reported.Nodup := by
  refine List.Nodup.sublist (List.take_sublist _ _) (List.Nodup.filter _ ?_)
  rw [scanOrder_eq]
  generalize s.table.cursor = c
  revert c
  decide +kernel

/-! ### What a report does to a slot -/

/-- R68, R171: a slot after its record is reported. -/
def TableSlot.cleared : TableSlot → TableSlot
  | .used r => .used { r with marks := .empty }
  | _ => .free

section
variable (s : State)

theorem State.gen_advanceGen (i j : Fin 40) : (s.advanceGen i).gen j = if j = i then s.gen i + 1 else s.gen j := by
  by_cases h : j = i
  · subst h
    simp [State.advanceGen, State.gen]
  · have h' : i.val ≠ j.val := fun e => h (Fin.ext e.symm)
    simp [State.advanceGen, State.gen, h, h']

theorem State.entry_clearReported (i j : Fin 40) :
    (s.clearReported i).entry j = if j = i then (s.entry i).cleared else s.entry j := by
  unfold State.clearReported
  split
  · next h =>
    split
    · next hj => rw [hj, h]; rfl
    · rfl
  · next h => rw [State.entry_setEntry, h]; rfl
  · next h =>
    have same : ((s.setEntry i .free).advanceGen i).entry j = (s.setEntry i .free).entry j := rfl
    rw [same, State.entry_setEntry, h]
    rfl

theorem State.gen_clearReported (i j : Fin 40) :
    (s.clearReported i).gen j = if j = i ∧ (s.entry i).isRetired then s.gen i + 1 else s.gen j := by
  unfold State.clearReported
  split
  · next h => simp [h, TableSlot.isRetired]
  · next h =>
    rw [h, if_neg (by simp [TableSlot.isRetired])]
    rfl
  · next h =>
    rw [State.gen_advanceGen, h]
    simp only [TableSlot.isRetired, and_true]
    rfl

theorem State.clearReported_eq (i : Fin 40) : ∃ t, s.clearReported i = { s with table := t } ∧
    t.focus = s.table.focus ∧ t.cursor = s.table.cursor := by
  unfold State.clearReported
  split <;> exact ⟨_, rfl, rfl, rfl⟩

/-- The records of a list are reported one by one. -/
def State.clearAll (l : List (Fin 40)) : State := l.foldl State.clearReported s

theorem State.entry_clearAll {l : List (Fin 40)} (hl : l.Nodup) (i : Fin 40) :
    (s.clearAll l).entry i = if i ∈ l then (s.entry i).cleared else s.entry i := by
  unfold State.clearAll
  induction l generalizing s with
  | nil => simp
  | cons j l ih =>
    obtain ⟨hj, hl⟩ := List.nodup_cons.1 hl
    rw [List.foldl_cons, ih _ hl, State.entry_clearReported]
    by_cases h : i = j
    · subst h
      simp [hj]
    · simp [h]

theorem State.gen_clearAll {l : List (Fin 40)} (hl : l.Nodup) (i : Fin 40) :
    (s.clearAll l).gen i = if i ∈ l ∧ (s.entry i).isRetired then s.gen i + 1 else s.gen i := by
  unfold State.clearAll
  induction l generalizing s with
  | nil => simp
  | cons j l ih =>
    obtain ⟨hj, hl⟩ := List.nodup_cons.1 hl
    rw [List.foldl_cons, ih _ hl, State.gen_clearReported, State.entry_clearReported]
    by_cases h : i = j
    · subst h
      simp [hj]
    · simp [h]

theorem State.clearAll_eq (l : List (Fin 40)) : ∃ t, s.clearAll l = { s with table := t } ∧
    t.focus = s.table.focus ∧ t.cursor = s.table.cursor := by
  unfold State.clearAll
  induction l generalizing s with
  | nil => exact ⟨_, rfl, rfl, rfl⟩
  | cons i l ih =>
    obtain ⟨t, first, focus, cursor⟩ := s.clearReported_eq i
    obtain ⟨t', rest, focus', cursor'⟩ := ih { s with table := t }
    rw [List.foldl_cons, first]
    exact ⟨t', rest, focus'.trans focus, cursor'.trans cursor⟩

/-! ### The state a report leaves -/

/-- R170, R171: READ_NOTICES before its answer. -/
def State.noticed : State := ((s.clearAll s.reported).moveCursor s.reported).refreshNotice

theorem ownReadNotices_eq : ownReadNotices s = (s.noticed,
    ⟨.ok, byteOf s.reported.length :: s.reported.flatMap fun i => (s.entry i).notice (s.handle i)⟩) := rfl

theorem State.moveCursor_eq (l : List (Fin 40)) : s.moveCursor l =
    { s with table := { s.table with cursor := l.getLast?.elim s.table.cursor fun i => i + 1 } } := by
  unfold State.moveCursor
  split
  · next h => rw [h]; rfl
  · next h => rw [h]; rfl

theorem State.noticed_entry (i : Fin 40) :
    s.noticed.entry i = if i ∈ s.reported then (s.entry i).cleared else s.entry i := by
  rw [← s.entry_clearAll s.reported_nodup, State.noticed, State.moveCursor_eq]
  rfl

theorem State.noticed_gen (i : Fin 40) :
    s.noticed.gen i = if i ∈ s.reported ∧ (s.entry i).isRetired then s.gen i + 1 else s.gen i := by
  rw [← s.gen_clearAll s.reported_nodup, State.noticed, State.moveCursor_eq]
  rfl

theorem State.noticed_table : s.noticed.table.cursor = s.reported.getLast?.elim s.table.cursor (fun i => i + 1) ∧
    s.noticed.table.focus = s.table.focus := by
  obtain ⟨t, cleared, focus, cursor⟩ := s.clearAll_eq s.reported
  rw [State.noticed, State.moveCursor_eq, cleared, ← cursor]
  exact ⟨rfl, focus⟩

theorem State.noticed_eq : s.noticed = { s with table := s.noticed.table, attn := s.noticed.attn } := by
  obtain ⟨t, cleared, -, -⟩ := s.clearAll_eq s.reported
  rw [State.noticed, State.moveCursor_eq, cleared]
  rfl

/-- R166, R169: the count of marked records, the WANTED indication and NOTICE as a state's records stand. -/
theorem State.refreshNotice_attn : s.refreshNotice.attn = { s.attn with
    marked := allRecords.countP fun i => (s.entry i).marks ≠ .empty
    wantedInd := allRecords.any fun i => (s.entry i).marks.wanted
    flags := { s.attn.flags with
      notice := decide (s.attn.threshold ≤ allRecords.countP fun i => (s.entry i).marks ≠ .empty) ||
        allRecords.any fun i => (s.entry i).marks.wanted } } := by
  simp only [State.refreshNotice, State.markedCount, State.anyWanted, noticeCondition, Marks.any_eq]

/-- The frame that was taken has no part in what is reported. -/
theorem State.noticed_link (l : Link) : ({ s with link := l } : State).noticed = { s.noticed with link := l } := by
  have cleared (l : Link) (is : List (Fin 40)) (u : State) :
      ({ u with link := l } : State).clearAll is = { u.clearAll is with link := l } := by
    unfold State.clearAll
    induction is generalizing u with
    | nil => rfl
    | cons i is ih =>
      have one : ({ u with link := l } : State).clearReported i = { u.clearReported i with link := l } := by
        have same : ({ u with link := l } : State).entry i = u.entry i := rfl
        unfold State.clearReported
        rw [same]
        split <;> rfl
      rw [List.foldl_cons, List.foldl_cons, one]
      exact ih _
  have same : ({ s with link := l } : State).reported = s.reported := rfl
  rw [State.noticed, same, cleared, State.moveCursor_eq, State.noticed, State.moveCursor_eq]
  rfl

theorem State.noticed_attn : s.noticed.attn = { s.attn with
    marked := allRecords.countP fun i => (s.noticed.entry i).marks ≠ .empty
    wantedInd := allRecords.any fun i => (s.noticed.entry i).marks.wanted
    flags := { s.attn.flags with
      notice := decide (s.attn.threshold ≤ allRecords.countP fun i => (s.noticed.entry i).marks ≠ .empty) ||
        allRecords.any fun i => (s.noticed.entry i).marks.wanted } } := by
  have attn : ((s.clearAll s.reported).moveCursor s.reported).attn = s.attn := by
    obtain ⟨t, cleared, -, -⟩ := s.clearAll_eq s.reported
    rw [State.moveCursor_eq, cleared]
  have h := State.refreshNotice_attn ((s.clearAll s.reported).moveCursor s.reported)
  rwa [attn] at h

end

/-- Settles O28: the records reported by `State.reported_eq`, and what becomes of them by `State.noticed`. -/
theorem readNoticesReports : Obligations.ReadNoticesReports := by
  intro s ht
  have answer : Answers .readNotices s (s.noticed.answered .ok
      (byteOf s.reported.length :: s.reported.flatMap fun i => (s.entry i).notice (s.handle i))) := by
    have ha := answers_of_owner ht rfl (ownReadNotices_eq _)
    have noticed : (s.handed .readNotices).noticed = { s.noticed with link := (s.handed .readNotices).link } := by
      rw [← State.noticed_link, ← State.handed_eq]
    have link : s.noticed.link = s.link := by rw [State.noticed_eq]
    have listed : (s.handed .readNotices).reported = s.reported := by
      simp only [State.reported, State.handed_entry, State.handed_table]
    rw [noticed, State.answered_link _ _ (by simp [link]) (by simp [link]), listed] at ha
    simpa only [State.handed_entry, State.handed_handle] using ha
  refine ⟨s.reported, s.noticed, s.reported_eq, answer, fun i => ?_, s.noticed_gen, s.noticed_table.1, s.noticed_table.2,
    s.noticed_attn, s.noticed_eq⟩
  rw [State.noticed_entry]
  cases s.entry i <;> rfl

end Sys2Proof.Machine
end

section
/-! SUPPORT. The value codes of the surface requests, and the answers of a request that re-resolves a record (R50). -/

namespace Sys2Proof.Machine

/-! ### Value codes -/

@[simp] theorem targetOfByte_code (t : Target) : targetOfByte t.code = some t := by cases t <;> rfl

@[simp] theorem fallbackOfByte_code (f : Fallback) : fallbackOfByte f.code = some f := by cases f <;> rfl

@[simp] theorem fitOfByte_code (f : Fit) : fitOfByte f.code = some f := by cases f <;> rfl

@[simp] theorem modeOfByte_code (m : HandoverMode) : modeOfByte m.code = some m := by cases m <;> rfl

section
variable {b : Byte}

theorem panelOfByte_of_two_le (h : 2 ≤ b.toNat) : panelOfByte b = none := by
  unfold panelOfByte
  split
  · omega
  · omega
  · rfl

theorem targetOfByte_of_five_le (h : 5 ≤ b.toNat) : targetOfByte b = none := by
  unfold targetOfByte
  split
  · omega
  · omega
  · omega
  · omega
  · omega
  · rfl

theorem fallbackOfByte_of_two_le (h : 2 ≤ b.toNat) : fallbackOfByte b = none := by
  unfold fallbackOfByte
  split
  · omega
  · omega
  · rfl

theorem fitOfByte_of_two_le (h : 2 ≤ b.toNat) : fitOfByte b = none := by
  unfold fitOfByte
  split
  · omega
  · omega
  · rfl

theorem modeOfByte_of_two_le (h : 2 ≤ b.toNat) : modeOfByte b = none := by
  unfold modeOfByte
  split
  · omega
  · omega
  · rfl

end

/-- An optional rectangle field is out of range when it is there and its rectangle is. -/
theorem rectField_bad_iff (rect : Option RectField) :
    (rect.map rectOf).any rectBad = true ↔ ∃ f, rect = some f ∧ rectBad (rectOf f) = true := by
  cases rect <;> simp

theorem rectField_good (rect : Option RectField) (h : ∀ f, rect = some f → rectBad (rectOf f) = false) :
    (rect.map rectOf).any rectBad = false := by
  cases rect with
  | none => rfl
  | some f => exact h f rfl

/-! ### Answers -/

section
variable {s : State} {c : Instr} {owner : State → State × Reply}

/-- R50: the answer of an owner that ends an event. -/
theorem answers_of_reply (ht : s.turn c) (hc : exec c s = .next (s.runRequest c owner)) {e : Ev} {payload : State → List Byte}
    (ho : owner (s.handed c) = e.reply payload) : Answers c s (e.answer (payload e.done)) :=
  answers_of_owner ht hc ho

/-- A request whose owner changes nothing and reports. -/
theorem answers_of_report (ht : s.turn c) (hc : exec c s = .next (s.runRequest c owner)) {payload : List Byte}
    (ho : owner (s.handed c) = report (s.handed c) payload) : Answers c s (s.answered .ok payload) := by
  have ha := answers_of_owner ht hc ho
  rwa [State.handed_answered] at ha

end
end Sys2Proof.Machine
end

section
/-! SUPPORT. CREATE_SURFACE, SET_VARIANT and CLEAR_VARIANTS in their turn. -/

namespace Sys2Proof.Machine

/-! ### CREATE_SURFACE -/

section
variable {s : State} {cls owner : Half} {home z flags : Byte} {fill : Word} {buffer : Option Descriptor}

theorem State.freeEntry_eq_some {i : Fin 40} (hi : s.entry i = .free) (hlow : ∀ j < i, s.entry j ≠ .free) :
    s.freeEntry = some i := by
  refine finRange_find?_eq_some.2 ⟨(TableSlot.isFree_iff _).2 hi, fun j hj => ?_⟩
  exact Bool.eq_false_iff.2 fun h => hlow j hj ((TableSlot.isFree_iff _).1 h)

theorem State.freeEntry_eq_none (h : ∀ i, s.entry i ≠ .free) : s.freeEntry = none :=
  List.find?_eq_none.2 fun i _ hi => h i ((TableSlot.isFree_iff _).1 hi)

@[simp] theorem State.handed_freeEntry (c : Instr) : (s.handed c).freeEntry = s.freeEntry := by
  simp only [State.freeEntry, State.handed_entry]

theorem createSurface_badValue (ht : s.turn (.createSurface cls owner home z flags fill buffer))
    (h : 2 ≤ home.toNat ∨ 4 ≤ flags.toNat ∨ ∃ d, buffer = some d ∧ descriptorBad d = true) :
    Answers (.createSurface cls owner home z flags fill buffer) s (s.answered .badValue []) := by
  refine answers_refused ht rfl ?_
  unfold ownCreateSurface
  split
  · rfl
  · next p hp =>
    refine if_pos ?_
    rcases h with h | h | ⟨d, rfl, hd⟩
    · cases hp.symm.trans (panelOfByte_of_two_le h)
    · simp [surfaceFlagsBad, h]
    · simp [hd]

/-- R51: the values of a request that is taken are in range. -/
theorem createSurface_inRange (hf : flags.toNat < 4) (hb : ∀ d, buffer = some d → descriptorBad d = false) :
    (surfaceFlagsBad flags || buffer.any descriptorBad) = false := by
  cases buffer with
  | none => simpa [surfaceFlagsBad] using hf
  | some d => simpa [surfaceFlagsBad, hb d rfl] using hf

theorem ownCreateSurface_full {u : State} {p : PanelId} (hf : flags.toNat < 4)
    (hb : ∀ d, buffer = some d → descriptorBad d = false) (hu : u.freeEntry = none) :
    ownCreateSurface cls owner (panelCode p) z flags fill buffer u = refuse u .noRoom := by
  simp [ownCreateSurface, createSurface_inRange hf hb, hu]

/-- R47, R51: the record set up in a free slot. -/
theorem ownCreateSurface_taken {u : State} {p : PanelId} {i : Fin 40} (hf : flags.toNat < 4)
    (hb : ∀ d, buffer = some d → descriptorBad d = false) (hu : u.freeEntry = some i) :
    ownCreateSurface cls owner (panelCode p) z flags fill buffer u =
      ((Ev.start ({ u with offers := if buffer.isSome then u.offers + 1 else u.offers }.setEntry i (.used {
        state := if buffer.isSome then .parked else .new, cls := cls, owner := owner, home := p, z := z
        redraw := flags.getLsbD 0, placeholder := flags.getLsbD 1, fill := fill
        current := buffer.map fun d => ⟨u.offers, d⟩, pending := none, wanted := none, released := none
        pieces := [], rect := none, variants := [], moveTo := none, marks := .empty, staleContent := false
        resPending := false }))).reresolve i).reply fun _ => (u.handle i).bytes := by
  simp only [ownCreateSurface, panelOfByte_code, createSurface_inRange hf hb, hu]
  cases buffer <;> rfl

end

/-- Settles O39: the refusals in the order of R51, and the record set up by `ownCreateSurface_taken`. -/
theorem createSurfaceRequest : Obligations.CreateSurfaceRequest := by
  intro s cls owner home z flags fill buffer ht
  refine ⟨createSurface_badValue ht, fun p hp hf hb => ⟨fun hfull => ?_, fun i hi hlow v e he hv => ?_⟩⟩
  · subst hp
    exact answers_refused ht rfl (ownCreateSurface_full hf hb (by rw [State.handed_freeEntry, State.freeEntry_eq_none hfull]))
  · subst hp
    have taken := ownCreateSurface_taken (cls := cls) (owner := owner) (z := z) (fill := fill) (p := p) hf hb
      (by rw [State.handed_freeEntry (c := .createSurface cls owner (panelCode p) z flags fill buffer),
        State.freeEntry_eq_some hi hlow])
    rw [State.handed_offers, ← hv, ← he, State.handed_handle] at taken
    exact ⟨he ▸ (Ev.reresolve_frame (Ev.start v) i).trans (Ev.done_frame _), answers_of_reply ht rfl taken⟩

/-! ### SET_VARIANT and CLEAR_VARIANTS -/

section
variable {s : State} {f : HandleField} {i : Fin 40} {r : Record}

/-- A request's owner refuses a handle field that names no record. -/
theorem answers_badHandle {c : Instr} {owner : State → State × Reply} (ht : s.turn c)
    (hc : exec c s = .next (s.runRequest c owner)) (h : s.checkHandle f = none)
    (ho : ∀ u : State, u.liveRecord f = .error .badHandle → owner u = refuse u .badHandle) :
    Answers c s (s.answered .badHandle []) :=
  answers_refused ht hc (ho _ (by rw [State.handed_liveRecord, State.liveRecord_none h]))

/-- A request's owner refuses a handle field that names a record on its way out. -/
theorem answers_retiring {c : Instr} {owner : State → State × Reply} (ht : s.turn c)
    (hc : exec c s = .next (s.runRequest c owner)) (h : s.checkHandle f = some i)
    (hr : ∀ r, s.entry i = .used r → r.state = .retiring)
    (ho : ∀ u : State, u.liveRecord f = .error .retiring → owner u = refuse u .retiring) :
    Answers c s (s.answered .retiring []) :=
  answers_refused ht hc (ho _ (by rw [State.handed_liveRecord, State.liveRecord_retiring h hr]))

theorem State.handed_liveRecord_ok (c : Instr) (h : s.checkHandle f = some i) (he : s.entry i = .used r)
    (hs : r.state ≠ .retiring) : (s.handed c).liveRecord f = .ok (i, r) := by
  rw [State.handed_liveRecord, State.liveRecord_ok h he hs]

variable {postures target fallback : Byte} {rect : Option RectField}

theorem ownSetVariant_error {u : State} {st : Status} (h : u.liveRecord f = .error st) :
    ownSetVariant f postures target fallback rect u = refuse u st := by
  simp only [ownSetVariant, h]

theorem ownSetVariant_badValue {u : State} (h : u.liveRecord f = .ok (i, r))
    (hb : postureByteBad postures = true ∨ 5 ≤ target.toNat ∨ 2 ≤ fallback.toNat ∨
      ∃ g, rect = some g ∧ rectBad (rectOf g) = true) :
    ownSetVariant f postures target fallback rect u = refuse u .badValue := by
  simp only [ownSetVariant, h]
  split
  · next ht hf =>
    refine if_pos ?_
    rw [Bool.or_eq_true, rectField_bad_iff]
    rcases hb with hb | hb | hb | hb
    · exact .inl hb
    · cases ht.symm.trans (targetOfByte_of_five_le hb)
    · cases hf.symm.trans (fallbackOfByte_of_two_le hb)
    · exact .inr hb
  · rfl

/-- R59: SET_VARIANT with its values in range. -/
theorem ownSetVariant_taken {u : State} {t : Target} {fb : Fallback} (h : u.liveRecord f = .ok (i, r))
    (hp : postureByteBad postures = false) (hr : ∀ g, rect = some g → rectBad (rectOf g) = false) :
    ownSetVariant f postures t.code fb.code rect u =
      if 4 ≤ (keptVariants (PostureSet.ofByte postures) r.variants).length ∨
          u.freeVariants + (r.variants.length - (keptVariants (PostureSet.ofByte postures) r.variants).length) = 0 then
        refuse u .noRoom
      else
        ((Ev.start (u.setEntry i (.used { r with variants := keptVariants (PostureSet.ofByte postures) r.variants ++
          [⟨PostureSet.ofByte postures, t, rect.map rectOf, fb⟩] }))).reresolve i).reply fun s =>
            [byteOf ((keptVariants (PostureSet.ofByte postures) r.variants).length + 1), byteOf s.freeVariants] := by
  simp only [ownSetVariant, h, targetOfByte_code, fallbackOfByte_code, hp, rectField_good rect hr, List.length_append,
    List.length_singleton]
  rfl

theorem keptVariants_length_le (new : PostureSet) (l : List Variant) : (keptVariants new l).length ≤ l.length := by
  unfold keptVariants
  exact (List.length_filter_le _ _).trans (by simp)

theorem setVariant_answers (ht : s.turn (.setVariant f postures target fallback rect)) :
    (s.checkHandle f = none →
      Answers (.setVariant f postures target fallback rect) s (s.answered .badHandle [])) ∧
    (∀ i, s.checkHandle f = some i → (∀ r, s.entry i = .used r → r.state = .retiring) →
      Answers (.setVariant f postures target fallback rect) s (s.answered .retiring [])) ∧
    (∀ i r, s.checkHandle f = some i → s.entry i = .used r → r.state ≠ .retiring →
      (postureByteBad postures = true ∨ 5 ≤ target.toNat ∨ 2 ≤ fallback.toNat ∨
          (∃ g, rect = some g ∧ rectBad (rectOf g) = true) →
        Answers (.setVariant f postures target fallback rect) s (s.answered .badValue [])) ∧
      (∀ t fb kept, postureByteBad postures = false → target = Target.code t → fallback = Fallback.code fb →
        (∀ g, rect = some g → rectBad (rectOf g) = false) → kept = keptVariants (PostureSet.ofByte postures) r.variants →
        (4 ≤ kept.length ∨ s.freeVariants = 0 ∧ kept.length = r.variants.length →
          Answers (.setVariant f postures target fallback rect) s (s.answered .noRoom [])) ∧
        (kept.length < 4 → 0 < s.freeVariants ∨ kept.length < r.variants.length →
          ∀ (v : State) (e : Ev), e = (Ev.start v).reresolve i →
            v = (s.handed (.setVariant f postures target fallback rect)).setEntry i (.used { r with
              variants := kept ++ [⟨PostureSet.ofByte postures, t, rect.map rectOf, fb⟩] }) →
            v.EngineFrame e.done ∧
            Answers (.setVariant f postures target fallback rect) s
              (e.answer [byteOf (kept.length + 1), byteOf e.done.freeVariants])))) := by
  refine ⟨fun h => answers_badHandle ht rfl h fun _ => ownSetVariant_error,
    fun i h hr => answers_retiring ht rfl h hr fun _ => ownSetVariant_error, fun i r h he hs => ?_⟩
  have live := s.handed_liveRecord_ok (.setVariant f postures target fallback rect) h he hs
  refine ⟨fun hb => answers_refused ht rfl (ownSetVariant_badValue live hb), fun t fb kept hp htc hfc hrect hk => ?_⟩
  subst htc hfc
  have taken := ownSetVariant_taken (t := t) (fb := fb) live hp hrect
  rw [← hk, State.handed_freeVariants] at taken
  have hle : kept.length ≤ r.variants.length := hk ▸ keptVariants_length_le _ _
  refine ⟨fun hfull => ?_, fun hroom hfree v e hev hv => ?_⟩
  · rw [if_pos (by omega)] at taken
    exact answers_refused ht rfl taken
  · rw [if_neg (by omega), ← hv, ← hev] at taken
    exact ⟨hev ▸ (Ev.reresolve_frame (Ev.start v) i).trans (Ev.done_frame _), answers_of_reply ht rfl taken⟩

theorem ownClearVariants_error {u : State} {st : Status} (h : u.liveRecord f = .error st) :
    ownClearVariants f u = refuse u st := by
  simp only [ownClearVariants, h]

theorem clearVariants_answers (ht : s.turn (.clearVariants f)) :
    (s.checkHandle f = none → Answers (.clearVariants f) s (s.answered .badHandle [])) ∧
    (∀ i, s.checkHandle f = some i → (∀ r, s.entry i = .used r → r.state = .retiring) →
      Answers (.clearVariants f) s (s.answered .retiring [])) ∧
    (∀ i r, s.checkHandle f = some i → s.entry i = .used r → r.state ≠ .retiring →
      (r.variants = [] → Answers (.clearVariants f) s (s.answered .ok [])) ∧
      (∀ v : State, r.variants ≠ [] → v = (s.handed (.clearVariants f)).setEntry i (.used { r with variants := [] }) →
        v.EngineFrame ((Ev.start v).reresolve i).done ∧
        Answers (.clearVariants f) s (((Ev.start v).reresolve i).answer []))) := by
  refine ⟨fun h => answers_badHandle ht rfl h fun _ => ownClearVariants_error,
    fun i h hr => answers_retiring ht rfl h hr fun _ => ownClearVariants_error, fun i r h he hs => ?_⟩
  have live := s.handed_liveRecord_ok (.clearVariants f) h he hs
  refine ⟨fun hv => ?_, fun v hne hv => ⟨(Ev.reresolve_frame (Ev.start v) i).trans (Ev.done_frame _), ?_⟩⟩
  · exact answers_of_report ht rfl (by simp only [ownClearVariants, live, hv, if_true]; rfl)
  · subst hv
    exact answers_of_reply (payload := fun _ => []) ht rfl (by simp only [ownClearVariants, live, if_neg hne])

end

/-- Settles O42: one lemma for each request. -/
theorem variantRequests : Obligations.VariantRequests :=
  ⟨fun _ _ _ _ _ _ ht => setVariant_answers ht, fun _ _ ht => clearVariants_answers ht⟩

end Sys2Proof.Machine
end

section
/-! SUPPORT. A table restage (R54, R57, R62), and SET_FOCUS in its turn with what a change of focus does (R61, R62, R101). -/

namespace Sys2Proof.Machine

/-! ### A restage -/

/-- A restage of one slot keeps its live configuration. -/
theorem LayerSlot.live?_restage {f : SlotConfig → SlotConfig} {x y : LayerSlot} (h : x.restage f = some y) :
    y.live? = x.live? := by
  unfold LayerSlot.restage at h
  split at h <;> cases h <;> rfl

theorem State.slot_restageAll (s : State) (i : Fin 40) (f : SlotConfig → SlotConfig) (k : Fin 16) :
    (s.restageAll i f).slot k = if (s.slot k).ownedBy i then ((s.slot k).restage f).getD (s.slot k) else s.slot k := by
  simp only [State.slot, State.restageAll, Fin.getElem_fin, Vector.getElem_ofFn]
  rfl

theorem State.restageAll_frame (s : State) (i : Fin 40) (f : SlotConfig → SlotConfig) : s.EngineFrame (s.restageAll i f) := by
  refine .of_slots s _ fun k => ?_
  have staged := s.slot_restageAll i f k
  unfold State.slot State.restageAll at staged
  rw [staged]
  split
  · cases hr : (s.slots[k]).restage f with
    | none => rfl
    | some y => exact LayerSlot.live?_restage hr
  · rfl

theorem Ev.restage_frame (e : Ev) (i : Fin 40) (f : SlotConfig → SlotConfig) : e.s.EngineFrame (e.restage i f).s :=
  e.s.restageAll_frame i f

/-! ### A change of focus -/

/-- R61: the register takes its new value. -/
def Ev.setFocus (e : Ev) (new : Option Handle) : Ev := { e with s := { e.s with table := { e.s.table with focus := new } } }

/-- R62: beyond the register, a change of focus is a matter of restages, re-resolutions and the order of the queue. -/
theorem Ev.changeFocus_frame (e : Ev) (new : Option Handle) : (e.setFocus new).s.EngineFrame (e.changeFocus new).s := by
  have step (o : Option Handle) (d : Ev) {f : Handle → Ev} (hf : ∀ h, d.s.EngineFrame (f h).s) :
      d.s.EngineFrame (o.elim d f).s := by
    cases o with
    | none => exact .refl _
    | some h => exact hf h
  simp only [Ev.changeFocus]
  refine State.EngineFrame.trans (State.EngineFrame.trans (State.EngineFrame.trans
    (step e.s.table.focus (e.setFocus new) ?loses) (step new _ ?gains)) (step e.s.table.focus _ ?first)) (step new _ ?last)
  case loses => exact fun h => Ev.restage_frame _ h.index _
  case gains => exact fun h => Ev.restage_frame _ h.index _
  case first => exact fun h => Ev.reresolve_frame _ h.index
  case last => exact fun h => (Ev.reresolve_frame _ h.index).trans (.of_queue _ _)

section
variable {s : State} {f : HandleField}

/-- R61: the value in force changes nothing. -/
theorem setFocus_same (ht : s.turn (.setFocus f)) {new : Option Handle}
    (ho : ownSetFocus f (s.handed (.setFocus f)) = (s.handed (.setFocus f)).focusOn new) (h : new = s.table.focus) :
    Answers (.setFocus f) s (s.answered .ok []) := by
  refine answers_of_report ht rfl (ho.trans ?_)
  rw [State.focusOn, if_pos (h.trans (congrArg Table.focus (State.handed_table s _)).symm)]
  rfl

/-- R61: another value is a change of focus. -/
theorem setFocus_changes (ht : s.turn (.setFocus f)) {new : Option Handle}
    (ho : ownSetFocus f (s.handed (.setFocus f)) = (s.handed (.setFocus f)).focusOn new) (h : new ≠ s.table.focus) {e : Ev}
    (he : e = (Ev.start (s.handed (.setFocus f))).changeFocus new) :
    { s.handed (.setFocus f) with table := { s.table with focus := new } }.EngineFrame e.done ∧
      Answers (.setFocus f) s (e.answer []) := by
  subst he
  constructor
  · have frame := ((Ev.start (s.handed (.setFocus f))).changeFocus_frame new).trans (Ev.done_frame _)
    simpa only [Ev.setFocus, Ev.start, State.handed_table] using frame
  · refine answers_of_reply (payload := fun _ => []) ht rfl (ho.trans ?_)
    exact if_neg fun hf => h (hf.trans (congrArg Table.focus (State.handed_table s _)))

theorem setFocus_answers (ht : s.turn (.setFocus f)) :
    (handleNone f = false → s.checkHandle f = none → Answers (.setFocus f) s (s.answered .badHandle [])) ∧
    (∀ i, handleNone f = false → s.checkHandle f = some i → (∀ r, s.entry i = .used r → r.state = .retiring) →
      Answers (.setFocus f) s (s.answered .retiring [])) ∧
    (∀ new, handleNone f = true ∧ new = none ∨
        handleNone f = false ∧ (∃ i r, s.checkHandle f = some i ∧ s.entry i = .used r ∧ r.state ≠ .retiring ∧
          new = some ⟨s.gen i, i⟩) →
      (new = s.table.focus → Answers (.setFocus f) s (s.answered .ok [])) ∧
      (∀ e : Ev, new ≠ s.table.focus → e = (Ev.start (s.handed (.setFocus f))).changeFocus new →
        { s.handed (.setFocus f) with table := { s.table with focus := new } }.EngineFrame e.done ∧
        Answers (.setFocus f) s (e.answer []))) := by
  have refused {u : State} {st : Status} (hn : handleNone f = false) (h : u.liveRecord f = .error st) :
      ownSetFocus f u = refuse u st := by simp [ownSetFocus, hn, h]
  refine ⟨fun hn h => answers_badHandle ht rfl h fun _ => refused hn,
    fun i hn h hr => answers_retiring ht rfl h hr fun _ => refused hn, fun new hnew => ?_⟩
  have owner : ownSetFocus f (s.handed (.setFocus f)) = (s.handed (.setFocus f)).focusOn new := by
    rcases hnew with ⟨hn, rfl⟩ | ⟨hn, i, r, h, he, hs, rfl⟩
    · exact if_pos hn
    · have live := s.handed_liveRecord_ok (.setFocus f) h he hs
      have named : (s.handed (.setFocus f)).handle i = ⟨s.gen i, i⟩ := State.handed_handle _ _ i
      simp [ownSetFocus, hn, live, named]
  exact ⟨setFocus_same ht owner, fun _ h he => setFocus_changes ht owner h he⟩

end

/-- R101: the job of a record that moves to the head of the queue stands first. -/
theorem State.jobToHead_head? {s : State} {i : Fin 40} {j : Job} (h : s.job? i = some j) :
    (s.jobToHead i).queue.head? = some j := by
  unfold State.job? at h
  rw [← List.head?_filter] at h
  rw [State.jobToHead, List.head?_append, h]
  rfl

/-- Settles O43: the request by `setFocus_answers`, and a change of focus in each case of the old and the new value. -/
theorem setFocusRequest : Obligations.SetFocusRequest := by
  refine ⟨fun s h ht => setFocus_answers ht, fun e e0 e1 old new hold h0 h1 => ⟨fun hnew => ?_, fun b e2 hnew h2 => ?_⟩⟩
  · subst hnew
    cases old with
    | none =>
      simp only [Ev.changeFocus, ← hold, Option.elim_none]
      rw [h1, h0]
      rfl
    | some a =>
      simp only [Ev.changeFocus, ← hold, Option.elim_none, Option.elim_some]
      rw [h1, h0]
      rfl
  · subst hnew
    have changed : e.changeFocus (some b) = e2.mod fun s => s.jobToHead b.index := by
      cases old with
      | none =>
        simp only [Ev.changeFocus, ← hold, Option.elim_none, Option.elim_some]
        rw [h2, h1, h0]
        rfl
      | some a =>
        simp only [Ev.changeFocus, ← hold, Option.elim_some]
        rw [h2, h1, h0]
        rfl
    have first : (e2.s.queue.filter fun j => decide (j.handle.index = b.index)) =
        e2.s.queue.filter fun j => j.handle.index == b.index := rfl
    have rest : (e2.s.queue.filter fun j => decide (j.handle.index ≠ b.index)) =
        e2.s.queue.filter fun j => !(j.handle.index == b.index) := by
      congr 1
      funext j
      simp [BEq.beq]
    rw [changed, first, rest]
    exact ⟨rfl, fun j hj => State.jobToHead_head? hj⟩

end Sys2Proof.Machine
end

section
/-! SUPPORT. The currency of a pending buffer (R55), the buffer wait an offer settles (R104, R107), and OFFER_BUFFER in its turn
(R53). -/

namespace Sys2Proof.Machine

/-! ### A record's update -/

theorem State.modRecord_used {s : State} {i : Fin 40} {r : Record} (h : s.entry i = .used r) (f : Record → Record) :
    s.modRecord i f = s.setEntry i (.used (f r)) := by
  unfold State.modRecord
  rw [(State.record?_eq_some s).2 h]

theorem State.modRecord_none {s : State} {i : Fin 40} (h : s.record? i = none) (f : Record → Record) : s.modRecord i f = s := by
  unfold State.modRecord
  rw [h]

/-! ### Currency -/

/-- A slot of a record has a configuration, live or staged, that satisfies a condition. -/
theorem LayerSlot.anyConfig_iff {x : LayerSlot} {i : Fin 40} {f : SlotConfig → Bool} :
    (x.ownedBy i = true ∧ x.anyConfig f = true) ↔ ∃ o c due st, f c = true ∧ o.index = i ∧ (x = .live o c st ∨
      (∃ c', x = .live o c' (some (.full c due))) ∨ x = .claimed o (some (.full c due))) := by
  constructor
  · rintro ⟨ho, hf⟩
    obtain ⟨o, ho, hi⟩ := LayerSlot.ownedBy_iff.1 ho
    rcases x with _ | ⟨o', _ | ⟨c, due⟩ | due⟩ | ⟨o', c', _ | ⟨c, due⟩ | due⟩
    · cases ho
    · cases hf
    · cases ho
      exact ⟨o, c, due, none, hf, hi, .inr (.inr rfl)⟩
    · cases hf
    · cases ho
      exact ⟨o, c', false, none, by simpa [LayerSlot.anyConfig, LayerSlot.cfg?, LayerSlot.staged?] using hf, hi, .inl rfl⟩
    · cases ho
      rcases Bool.or_eq_true_iff.1 hf with hf | hf
      · exact ⟨o, c', due, _, hf, hi, .inl rfl⟩
      · exact ⟨o, c, due, none, hf, hi, .inr (.inl ⟨c', rfl⟩)⟩
    · cases ho
      exact ⟨o, c', due, _, by simpa [LayerSlot.anyConfig, LayerSlot.cfg?, LayerSlot.staged?] using hf, hi, .inl rfl⟩
  · rintro ⟨o, c, due, st, hf, hi, rfl | ⟨c', rfl⟩ | rfl⟩ <;>
      simp [LayerSlot.ownedBy_iff, LayerSlot.anyConfig, LayerSlot.owner?, LayerSlot.cfg?, LayerSlot.staged?, hf, hi]

/-- R55: a configuration refers to what a pending buffer replaces: the current buffer, or FILL where there is none. -/
def Record.refers (r : Record) (c : SlotConfig) : Bool :=
  match r.current with
  | some old => c.buffer.any fun x => x.serial == old.serial
  | none => c.fetch == .fill

theorem Record.refers_iff {r : Record} {c : SlotConfig} : r.refers c = true ↔ (match r.current with
    | some old => ∃ x, c.buffer = some x ∧ x.serial = old.serial
    | none => c.fetch = .fill) := by
  unfold Record.refers
  cases r.current with
  | none => simp
  | some old => cases c.buffer <;> simp

/-- R55: no slot of the record has a configuration that refers to what its pending buffer replaces. -/
theorem State.mayBecomeCurrent_eq (s : State) (i : Fin 40) (r : Record) :
    s.mayBecomeCurrent i r = (s.ownedSlots i).all fun k => !(s.slot k).anyConfig r.refers := by
  unfold State.mayBecomeCurrent
  cases hc : r.current with
  | none =>
    have same : r.refers = fun c => c.fetch == .fill := funext fun c => by simp [Record.refers, hc]
    rw [same]
    rfl
  | some b =>
    have same : r.refers = fun c => match c.buffer with
        | some x => x.serial == b.serial
        | none => false := funext fun c => by cases hb : c.buffer <;> simp [Record.refers, hc, hb]
    rw [same]
    rfl

theorem State.mayBecomeCurrent_iff {s : State} {i : Fin 40} {r : Record} : s.mayBecomeCurrent i r = true ↔
    ∀ k, ¬((s.slot k).ownedBy i = true ∧ (s.slot k).anyConfig r.refers = true) := by
  rw [State.mayBecomeCurrent_eq, List.all_eq_true]
  simp only [State.mem_ownedSlots, Bool.not_eq_true', not_and, Bool.not_eq_true]

section
variable {s : State} {i : Fin 40} {r : Record}

theorem State.checkCurrency_idle (h : s.entry i = .used r) (hr : r.pending = none ∨ r.state = .retiring) :
    s.checkCurrency i = s := by
  unfold State.checkCurrency
  rw [(State.record?_eq_some s).2 h]
  rcases hr with hr | hr
  · simp [hr]
  · cases hp : r.pending <;> simp [hr, hp]

theorem State.checkCurrency_held {b : Buffer} (h : s.entry i = .used r) (hb : r.pending = some b)
    (hk : s.mayBecomeCurrent i r = false) : s.checkCurrency i = s := by
  unfold State.checkCurrency
  simp [(State.record?_eq_some s).2 h, hb, hk]

/-- R55: the record with its pending buffer current. -/
theorem Record.makeCurrent_eq (r : Record) (b : Buffer) : r.makeCurrent b = { r with
    current := some b, pending := none, staleContent := false
    released := (match r.current with
      | some old => some old.desc.tag
      | none => r.released)
    marks := { r.marks with released := r.marks.released || r.current.isSome } } := by
  unfold Record.makeCurrent
  cases r.current <;> simp

theorem State.checkCurrency_makes {b : Buffer} (h : s.entry i = .used r) (hb : r.pending = some b) (hs : r.state ≠ .retiring)
    (hk : s.mayBecomeCurrent i r = true) : s.checkCurrency i = s.setEntry i (.used (r.makeCurrent b)) := by
  unfold State.checkCurrency
  simp [(State.record?_eq_some s).2 h, hb, hk, hs, State.modRecord_used h]

end

/-! ### The buffer wait an offer settles -/

section
variable (s : State) (i : Fin 40)

/-- A change of the job of a record that has none changes nothing. -/
theorem State.modJob_none {s : State} {i : Fin 40} (h : s.job? i = none) (f : Job → Job) : s.modJob i f = s := by
  have same : s.queue.map (fun j => if j.handle.index = i then f j else j) = s.queue := by
    refine (List.map_congr_left fun j hj => if_neg fun hi => ?_).trans (List.map_id _)
    simpa [hi] using List.find?_eq_none.1 h j hj
  unfold State.modJob
  rw [same]

theorem State.panelCondition_iff (t : Resolution) :
    s.panelCondition t = true ↔ ∀ q ∈ t.pieces, (s.panel q.panel).inService = true := List.all_eq_true

end

section
variable {e : Ev} {i : Fin 40}

theorem Ev.examine_none (h : e.s.job? i = none) : e.examine i = e := by
  unfold Ev.examine
  rw [h]

theorem Ev.examine_ready {j : Job} (h : e.s.job? i = some j) (hp : j.phase = .preparing) (hw : j.waiting = false)
    (hc : e.s.panelCondition j.target = true) :
    e.examine i = { (e.modJob i fun j => { j with phase := .slotWait }) with walk := true } := by
  unfold Ev.examine
  rw [h]
  exact if_pos ⟨hp, hw, hc⟩

theorem Ev.examine_waits {j : Job} (h : e.s.job? i = some j)
    (hn : ¬(j.phase = .preparing ∧ j.waiting = false ∧ e.s.panelCondition j.target = true)) : e.examine i = e := by
  unfold Ev.examine
  rw [h]
  exact if_neg hn

/-- R104: the wait of a job is settled. -/
def Job.settle (j : Job) : Job := { j with waiting := false, expiry := none }

theorem Ev.settleWait_eq (e : Ev) (i : Fin 40) : e.settleWait i = (e.modJob i Job.settle).examine i := rfl

theorem Ev.settleWait_frame (e : Ev) (i : Fin 40) : e.s.EngineFrame (e.settleWait i).s :=
  (e.modJob_frame i _).trans (Ev.examine_frame _ i)

theorem Ev.settleWait_none (h : e.s.job? i = none) : e.settleWait i = e := by
  have same : e.modJob i Job.settle = e := by
    rw [Ev.modJob, Ev.mod, State.modJob_none h]
  rw [Ev.settleWait_eq, same, Ev.examine_none h]

/-- R104, R107: what the settled wait makes of the record's job and of the queue. -/
theorem Ev.settleWait_some {j : Job} {ready : Prop} (h : e.s.job? i = some j)
    (hr : ready ↔ j.phase = .preparing ∧ ∀ t ∈ j.target.pieces, (e.s.panel t.panel).inService = true) :
    ∃ q, (ready → e.settleWait i = { e with s := { e.s with queue := q }, walk := true }) ∧
      (¬ready → e.settleWait i = { e with s := { e.s with queue := q } }) ∧
      q.map Job.handle = e.s.queue.map Job.handle ∧
      (ready → (e.settleWait i).s.job? i = some { j with waiting := false, expiry := none, phase := .slotWait }) ∧
      (¬ready → (e.settleWait i).s.job? i = some { j with waiting := false, expiry := none }) ∧
      ∀ m, m ≠ i → (e.settleWait i).s.job? m = e.s.job? m := by
  have keeps : ∀ x : Job, x.settle.handle = x.handle := fun _ => rfl
  have begins : ∀ x : Job, ({ x with phase := .slotWait } : Job).handle = x.handle := fun _ => rfl
  have found : (e.modJob i Job.settle).s.job? i = some j.settle := by
    refine (State.job?_modJob keeps).trans ?_
    rw [if_pos rfl, h]
    rfl
  have condition : j.phase = .preparing ∧ (e.s.panelCondition j.target = true) ↔ ready := by
    rw [hr, State.panelCondition_iff]
  by_cases hready : ready
  · obtain ⟨hp, hc⟩ := condition.2 hready
    have settled : e.settleWait i =
        { ((e.modJob i Job.settle).modJob i fun j => { j with phase := .slotWait }) with walk := true } :=
      Ev.examine_ready found hp rfl hc
    refine ⟨((e.s.modJob i Job.settle).modJob i fun j => { j with phase := .slotWait }).queue, fun _ => settled,
      fun hn => absurd hready hn, (State.modJob_handles begins).trans (State.modJob_handles keeps), fun _ => ?_,
      fun hn => absurd hready hn, fun m hm => ?_⟩
    · rw [settled]
      refine (State.job?_modJob begins).trans ?_
      rw [if_pos rfl]
      exact congrArg _ found
    · rw [settled]
      refine (State.job?_modJob begins).trans ?_
      rw [if_neg hm]
      exact (State.job?_modJob keeps).trans (if_neg hm)
  · have settled : e.settleWait i = e.modJob i Job.settle :=
      Ev.examine_waits found fun ⟨hp, _, hc⟩ => hready (condition.1 ⟨hp, hc⟩)
    refine ⟨(e.s.modJob i Job.settle).queue, fun hn => absurd hn hready, fun _ => settled, State.modJob_handles keeps,
      fun hn => absurd hn hready, fun _ => settled ▸ found, fun m hm => ?_⟩
    rw [settled]
    exact (State.job?_modJob keeps).trans (if_neg hm)

end

/-! ### OFFER_BUFFER -/

section
variable {r : Record} {z : Size}

theorem Record.offerCase_mismatch (h : (∃ w, r.wanted = some w ∧ w ≠ z) ∨
    r.wanted = none ∧ (r.state = .placed ∨ r.state = .moving) ∧ ∃ t, r.rect = some t ∧ t.size ≠ z) :
    r.offerCase z = .mismatch := by
  unfold Record.offerCase
  rcases h with ⟨w, hw, hz⟩ | ⟨hw, hs, t, ht, hz⟩
  · simp [hw, hz]
  · rcases hs with hs | hs <;> simp [hw, hs, ht, hz]

theorem Record.offerCase_settles (h : r.wanted = some z) : r.offerCase z = .settles := by
  simp [Record.offerCase, h]

theorem Record.offerCase_restages (hw : r.wanted = none) (hs : r.state = .placed ∨ r.state = .moving)
    (ht : ∀ t, r.rect = some t → t.size = z) : r.offerCase z = .restages := by
  unfold Record.offerCase
  cases hr : r.rect with
  | none => rcases hs with hs | hs <;> simp [hw, hs]
  | some t => rcases hs with hs | hs <;> simp [hw, hs, ht t hr]

theorem Record.offerCase_direct (hw : r.wanted = none) (hs : r.state = .new ∨ r.state = .parked) :
    r.offerCase z = .direct := by
  rcases hs with hs | hs <;> simp [Record.offerCase, hw, hs]

end

section
variable {s : State} {f : HandleField} {d : Descriptor} {i : Fin 40} {r : Record} {b : Buffer}

theorem ownOfferBuffer_error {u : State} {st : Status} (h : u.liveRecord f = .error st) :
    ownOfferBuffer f d u = refuse u st := by
  simp only [ownOfferBuffer, h]

theorem ownOfferBuffer_badValue {u : State} (h : u.liveRecord f = .ok (i, r)) (hd : descriptorBad d = true) :
    ownOfferBuffer f d u = refuse u .badValue := by
  simp only [ownOfferBuffer, h, hd, if_true]

theorem ownOfferBuffer_busy {u : State} (h : u.liveRecord f = .ok (i, r)) (hd : descriptorBad d = false)
    (hp : r.pending ≠ none) : ownOfferBuffer f d u = refuse u .busy := by
  simp [ownOfferBuffer, h, hd, Option.isSome_iff_ne_none.2 hp]

/-- R53: an offer past its first three checks, by the case of its table. -/
theorem ownOfferBuffer_mismatch {u : State} (h : u.liveRecord f = .ok (i, r)) (hd : descriptorBad d = false)
    (hp : r.pending = none) (hc : r.offerCase (u.newBuffer d).size = .mismatch) :
    ownOfferBuffer f d u = refuse u .sizeMismatch := by
  simp [ownOfferBuffer, h, hd, hp, hc]

theorem ownOfferBuffer_taken {u : State} (h : u.liveRecord f = .ok (i, r)) (hd : descriptorBad d = false)
    (hp : r.pending = none) {c : OfferCase} (hc : r.offerCase (u.newBuffer d).size = c) (hm : c ≠ .mismatch) :
    ownOfferBuffer f d u = offerReply i c ((Ev.start u.countOffer).offer i r (u.newBuffer d) c).finish := by
  simp only [ownOfferBuffer, h, hd, hp, hc]
  refine (if_neg (by decide)).trans ((if_neg (by decide)).trans ?_)
  cases c with
  | mismatch => exact absurd rfl hm
  | settles | restages | direct => rfl

/-- R53: the answer of an offer that is not taken at once: ACCEPTED while the buffer is pending. -/
theorem offerReply_pending {e : Ev} {c : OfferCase} (hc : c ≠ .direct) : offerReply i c e.finish = (e.done,
    ⟨if (e.done.record? i).bind Record.pending ≠ none then .accepted else .ok, [e.done.recordCode i]⟩) := by
  simp only [offerReply, doneReply, hc, decide_false, Bool.false_and, Bool.or_false, Option.isSome_iff_ne_none, Ev.done]
  rfl

/-- R53: the answer of an offer to a record whose buffer became current at once. -/
theorem offerReply_direct {e : Ev} (h : (e.done.record? i).bind Record.pending = none) : offerReply i .direct e.finish =
    (e.done, ⟨if e.finish.changed then .accepted else .ok, [e.done.recordCode i]⟩) := by
  have none : ((e.finish.s.record? i).bind Record.pending) = none := h
  simp only [offerReply, doneReply, none, Ev.done]
  rfl

/-- What the engine leaves of a record's pending buffer. -/
theorem State.EngineFrame.pending {s t : State} (h : s.EngineFrame t) (i : Fin 40) :
    (t.record? i).bind Record.pending = (s.record? i).bind Record.pending := by
  have core := h.cores i
  unfold State.record?
  cases hs : s.entry i <;> cases ht : t.entry i <;> simp only [hs, ht, TableSlot.SameCore] at core
  · rfl
  · exact core.pending
  · rfl

theorem offerBuffer_taken (ht : s.turn (.offerBuffer f d)) (hb : b = ⟨s.offers, d⟩) (h : s.checkHandle f = some i)
    (he : s.entry i = .used r) (hs : r.state ≠ .retiring) (hd : descriptorBad d = false) (hp : r.pending = none)
    {v0 : State} {u : Ev → State} (hv0 : v0 = { s.handed (.offerBuffer f d) with offers := s.offers + 1 })
    (hu : ∀ e, u e = e.done.answered (if (e.done.record? i).bind Record.pending ≠ none then .accepted else .ok)
      [e.done.recordCode i]) :
    (∀ (v : State) (e : Ev), r.wanted = some b.size →
      v = (v0.setEntry i (.used { r with wanted := none, pending := some b })).checkCurrency i →
      e = (Ev.start v).settleWait i → v.EngineFrame e.done ∧ Answers (.offerBuffer f d) s (u e)) ∧
    (∀ e0 e : Ev, r.wanted = none → r.state = .placed ∨ r.state = .moving → (∀ t, r.rect = some t → t.size = b.size) →
      e0 = (Ev.start (v0.setEntry i (.used { r with pending := some b }))).restage i (SlotConfig.withBuffer b) →
      e = { e0 with s := e0.s.checkCurrency i } → e.s.EngineFrame e.done ∧ Answers (.offerBuffer f d) s (u e)) ∧
    (∀ (v : State) (e : Ev), r.wanted = none → r.state = .new ∨ r.state = .parked →
      v = v0.setEntry i (.used { r.makeCurrent b with state := .parked }) →
      e = (if r.state = .new then (Ev.start v).reresolve i else Ev.start v) →
      v.EngineFrame e.done ∧ Answers (.offerBuffer f d) s (e.answer [e.done.recordCode i])) := by
  have live := s.handed_liveRecord_ok (.offerBuffer f d) h he hs
  have start : (s.handed (.offerBuffer f d)).countOffer = v0 := by
    rw [hv0, ← State.handed_offers s (.offerBuffer f d)]
    rfl
  have buffer : (s.handed (.offerBuffer f d)).newBuffer d = b := by
    rw [hb, ← State.handed_offers s (.offerBuffer f d)]
    rfl
  have entry : v0.entry i = .used r := by
    rw [← start, ← he]
    exact State.handed_entry s _ i
  have record (g : Record → Record) : (Ev.start v0).modRecord i g = Ev.start (v0.setEntry i (.used (g r))) := by
    rw [Ev.modRecord, Ev.mod]
    exact congrArg Ev.start (State.modRecord_used entry g)
  have taken {c : OfferCase} (hc : r.offerCase b.size = c) (hm : c ≠ .mismatch) :
      ownOfferBuffer f d (s.handed (.offerBuffer f d)) = offerReply i c ((Ev.start v0).offer i r b c).finish := by
    rw [← start, ← buffer]
    exact ownOfferBuffer_taken live hd hp (buffer ▸ hc) hm
  refine ⟨fun v e hw hv hev => ?_, fun e0 e hw hst hsize h0 hev => ?_, fun v e hw hst hv hev => ?_⟩
  · have offered : (Ev.start v0).offer i r b .settles = e := by
      simp only [Ev.offer, record]
      rw [hev, hv]
      rfl
    have own := taken (Record.offerCase_settles hw) (by decide)
    rw [offered, offerReply_pending (by decide)] at own
    exact ⟨hev ▸ ((Ev.start v).settleWait_frame i).trans (Ev.done_frame _), hu e ▸ answers_of_owner ht rfl own⟩
  · have offered : (Ev.start v0).offer i r b .restages = e := by
      simp only [Ev.offer, record]
      rw [hev, h0]
      rfl
    have own := taken (Record.offerCase_restages hw hst hsize) (by decide)
    rw [offered, offerReply_pending (by decide)] at own
    exact ⟨e.done_frame, hu e ▸ answers_of_owner ht rfl own⟩
  · have offered : (Ev.start v0).offer i r b .direct = e := by
      simp only [Ev.offer, record]
      rw [hev, hv]
    have frame : v.EngineFrame e.done := by
      rw [hev]
      split
      · exact ((Ev.start v).reresolve_frame i).trans (Ev.done_frame _)
      · exact (Ev.start v).done_frame
    have settled : (e.done.record? i).bind Record.pending = none := by
      rw [frame.pending i, hv, State.record?, State.entry_setEntry_same]
      unfold Record.makeCurrent
      cases r.current <;> rfl
    have own := taken (Record.offerCase_direct hw hst) (by decide)
    rw [offered, offerReply_direct settled] at own
    exact ⟨frame, answers_of_owner ht rfl own⟩

theorem offerBuffer_answers (ht : s.turn (.offerBuffer f d)) (hb : b = ⟨s.offers, d⟩) :
    (s.checkHandle f = none → Answers (.offerBuffer f d) s (s.answered .badHandle [])) ∧
    (∀ i, s.checkHandle f = some i → (∀ r, s.entry i = .used r → r.state = .retiring) →
      Answers (.offerBuffer f d) s (s.answered .retiring [])) ∧
    (∀ i r, s.checkHandle f = some i → s.entry i = .used r → r.state ≠ .retiring →
      (descriptorBad d = true → Answers (.offerBuffer f d) s (s.answered .badValue [])) ∧
      (descriptorBad d = false → r.pending ≠ none → Answers (.offerBuffer f d) s (s.answered .busy [])) ∧
      (descriptorBad d = false → r.pending = none →
        (∃ w, r.wanted = some w ∧ w ≠ b.size) ∨
          r.wanted = none ∧ (r.state = .placed ∨ r.state = .moving) ∧ (∃ t, r.rect = some t ∧ t.size ≠ b.size) →
        Answers (.offerBuffer f d) s (s.answered .sizeMismatch []))) := by
  refine ⟨fun h => answers_badHandle ht rfl h fun _ => ownOfferBuffer_error,
    fun i h hr => answers_retiring ht rfl h hr fun _ => ownOfferBuffer_error, fun i r h he hs => ?_⟩
  have live := s.handed_liveRecord_ok (.offerBuffer f d) h he hs
  refine ⟨fun hd => answers_refused ht rfl (ownOfferBuffer_badValue live hd),
    fun hd hp => answers_refused ht rfl (ownOfferBuffer_busy live hd hp), fun hd hp hm => ?_⟩
  refine answers_refused ht rfl (ownOfferBuffer_mismatch live hd hp (Record.offerCase_mismatch ?_))
  have size : ((s.handed (.offerBuffer f d)).newBuffer d).size = b.size := by rw [hb]; rfl
  rwa [size]

end

/-- Settles O40: the refusals and the three cases of an offer taken, the buffer wait, and the check of R55. -/
theorem offerBufferRequest : Obligations.OfferBufferRequest := by
  refine ⟨fun s f d b ht hb => ?_, fun e i => ⟨Ev.settleWait_none, fun j ready h hr => Ev.settleWait_some h hr⟩,
    fun s i r b refers h hrefers => ?_⟩
  · obtain ⟨badHandle, retiring, refused⟩ := offerBuffer_answers ht hb
    refine ⟨badHandle, retiring, fun i r h he hs => ?_⟩
    obtain ⟨badValue, busy, mismatch⟩ := refused i r h he hs
    refine ⟨badValue, busy, mismatch, fun hd hp v0 u hv0 hu => ?_⟩
    obtain ⟨settles, restages, direct⟩ := offerBuffer_taken ht hb h he hs hd hp hv0 hu
    exact ⟨settles, restages, fun v e hw hst hv => direct v e hw hst (hv.trans
      (congrArg (fun q : Record => v0.setEntry i (.used { q with state := .parked })) (r.makeCurrent_eq b).symm))⟩
  · have same (c : SlotConfig) : r.refers c = true ↔ refers c := Record.refers_iff.trans (hrefers c).symm
    refine ⟨fun hp => State.checkCurrency_idle h (.inl hp), fun hs => State.checkCurrency_idle h (.inr hs), fun hb hs =>
      ⟨?_, fun hn => ?_⟩⟩
    · rintro ⟨k, o, c, due, st, hc, hi, hk⟩
      refine State.checkCurrency_held h hb (Bool.eq_false_iff.2 fun hm => State.mayBecomeCurrent_iff.1 hm k ?_)
      exact LayerSlot.anyConfig_iff.2 ⟨o, c, due, st, (same c).2 hc, hi, hk⟩
    · have free : s.mayBecomeCurrent i r = true := State.mayBecomeCurrent_iff.2 fun k hk => by
        obtain ⟨o, c, due, st, hc, hi, hk⟩ := LayerSlot.anyConfig_iff.1 hk
        exact hn k o c due st hi hk ((same c).1 hc)
      exact (State.checkCurrency_makes h hb hs free).trans
        (congrArg (fun q => s.setEntry i (.used q)) (r.makeCurrent_eq b))

end Sys2Proof.Machine
end

section
/-! SUPPORT. AMEND_SURFACE and MOVE_SURFACE in their turn (R57, R81), the restaging and re-resolution they make (R54, R90), and the
resolution the resolver computes (R73 to R90). -/

namespace Sys2Proof.Machine

/-! ### AMEND_SURFACE -/

theorem named_getD {α : Type} (presence : Byte) (bit : Nat) (x y : α) :
    (named presence bit x).getD y = if presence.getLsbD bit then x else y := by
  unfold named
  split <;> rfl

theorem named_eq_some {α : Type} {presence : Byte} {bit : Nat} {x y : α} :
    named presence bit x = some y ↔ presence.getLsbD bit = true ∧ x = y := by
  simp [named]

section
variable {presence z home flags : Byte} {cls owner : Half} {fill : Word}

theorem amendOk_iff : amendOk presence home flags = true ↔ (presence.getLsbD 1 = true → panelOfByte home ≠ none) ∧
    presence.getLsbD 7 = false ∧ (presence.getLsbD 4 = true ∨ presence.getLsbD 5 = true → flags.toNat < 4) := by
  simp [amendOk, surfaceFlagsBad, and_assoc, imp_iff_not_or, Option.isSome_iff_ne_none]

theorem amendOk_of_bad (h : presence.getLsbD 7 = true ∨ presence.getLsbD 1 = true ∧ 2 ≤ home.toNat ∨
    (presence.getLsbD 4 = true ∨ presence.getLsbD 5 = true) ∧ 4 ≤ flags.toNat) : amendOk presence home flags = false := by
  refine Bool.eq_false_iff.2 fun ok => ?_
  obtain ⟨hhome, hbit, hflags⟩ := amendOk_iff.1 ok
  rcases h with h | ⟨h, hh⟩ | ⟨h, hf⟩
  · exact absurd hbit (by simp [h])
  · exact hhome h (panelOfByte_of_two_le hh)
  · have := hflags h
    omega

/-- R57: the record with the fields that the presence byte names. -/
theorem Record.amend_eq (r : Record) {p : PanelId} (hp : presence.getLsbD 1 = true → home = panelCode p) :
    r.amend (amendmentOf presence z home cls owner flags fill) = { r with
      z := if presence.getLsbD 0 then z else r.z
      home := if presence.getLsbD 1 then p else r.home
      cls := if presence.getLsbD 2 then cls else r.cls
      owner := if presence.getLsbD 3 then owner else r.owner
      redraw := if presence.getLsbD 4 then flags.getLsbD 0 else r.redraw
      placeholder := if presence.getLsbD 5 then flags.getLsbD 1 else r.placeholder
      fill := if presence.getLsbD 6 then fill else r.fill
      resPending := r.resPending && !(decide (r.state = .new) && presence.getLsbD 5 && !flags.getLsbD 1) } := by
  have panel : ((named presence 1 home).bind panelOfByte).getD r.home = if presence.getLsbD 1 then p else r.home := by
    unfold named
    split
    · next hb => simp [hp hb]
    · rfl
  have mark : (r.amend (amendmentOf presence z home cls owner flags fill)).resPending =
      (r.resPending && !(decide (r.state = .new) && presence.getLsbD 5 && !flags.getLsbD 1)) := by
    simp only [Record.amend, amendmentOf, named_eq_some]
    split
    · next h =>
      obtain ⟨hn, hb, hf⟩ := h
      rw [hn, hb, hf]
      exact (Bool.and_false _).symm
    · next h => grind
  rw [← mark]
  simp only [Record.amend, amendmentOf, named_getD, panel]

theorem Ev.amended_frame (e : Ev) (i : Fin 40) (old new : Record) : e.s.EngineFrame (e.amended i old new).s := by
  have staged : e.s.EngineFrame
      (if new.z ≠ old.z ∨ new.fill ≠ old.fill then e.restage i fun c => { c with z := new.z, fill := new.fill } else e).s := by
    split
    · exact e.restage_frame i _
    · exact .refl _
  simp only [Ev.amended]
  split
  · exact staged.trans (Ev.reresolve_frame _ i)
  · exact staged

variable {s : State} {f : HandleField}

theorem ownAmendSurface_error {u : State} {st : Status} (h : u.liveRecord f = .error st) :
    ownAmendSurface f presence z home cls owner flags fill u = refuse u st := by
  simp only [ownAmendSurface, h]

theorem amendSurface_answers (ht : s.turn (.amendSurface f presence z home cls owner flags fill)) :
    (s.checkHandle f = none →
      Answers (.amendSurface f presence z home cls owner flags fill) s (s.answered .badHandle [])) ∧
    (∀ i, s.checkHandle f = some i → (∀ r, s.entry i = .used r → r.state = .retiring) →
      Answers (.amendSurface f presence z home cls owner flags fill) s (s.answered .retiring [])) ∧
    (∀ i r, s.checkHandle f = some i → s.entry i = .used r → r.state ≠ .retiring →
      (amendOk presence home flags = false →
        Answers (.amendSurface f presence z home cls owner flags fill) s (s.answered .badValue [])) ∧
      (∀ (new : Record) (v : State) (e : Ev), amendOk presence home flags = true →
        new = r.amend (amendmentOf presence z home cls owner flags fill) →
        v = (s.handed (.amendSurface f presence z home cls owner flags fill)).setEntry i (.used new) →
        e = (Ev.start v).amended i r new → v.EngineFrame e.done ∧
          Answers (.amendSurface f presence z home cls owner flags fill) s (e.answer []))) := by
  refine ⟨fun h => answers_badHandle ht rfl h fun _ => ownAmendSurface_error,
    fun i h hr => answers_retiring ht rfl h hr fun _ => ownAmendSurface_error, fun i r h he hs => ?_⟩
  have live := s.handed_liveRecord_ok (.amendSurface f presence z home cls owner flags fill) h he hs
  refine ⟨fun hbad => answers_refused ht rfl (by simp [ownAmendSurface, live, hbad]), fun new v e ok hnew hv hev => ?_⟩
  subst hnew hv hev
  refine ⟨((Ev.start _).amended_frame i r _).trans (Ev.done_frame _), answers_of_reply (payload := fun _ => []) ht rfl ?_⟩
  simp only [ownAmendSurface, live, ok, if_true]

end

/-! ### MOVE_SURFACE -/

section
variable {target : Byte} {rect : Option RectField}

theorem overrideOf_refused (h : 6 ≤ target.toNat ∨ target = 5 ∧ rect ≠ none ∨
    ∃ f, rect = some f ∧ rectBad (rectOf f) = true) : overrideOf target rect = none := by
  unfold overrideOf
  split
  · next t htarget =>
    refine if_pos ((rectField_bad_iff rect).2 ?_)
    rcases h with h | ⟨rfl, -⟩ | h
    · cases htarget.symm.trans (targetOfByte_of_five_le (by omega))
    · cases htarget
    · exact h
  · refine if_neg ?_
    rintro ⟨h5, hr⟩
    rcases h with h | ⟨-, h⟩ | ⟨f, hf, -⟩
    · omega
    · exact h hr
    · cases hr.symm.trans hf

theorem overrideOf_taken {m : Option MoveOverride} (h : (∃ t, target = Target.code t ∧
    (∀ f, rect = some f → rectBad (rectOf f) = false) ∧ m = some ⟨t, rect.map rectOf⟩) ∨
    target = 5 ∧ rect = none ∧ m = none) : overrideOf target rect = some m := by
  rcases h with ⟨t, rfl, hr, rfl⟩ | ⟨rfl, rfl, rfl⟩
  · simp [overrideOf, rectField_good rect hr]
  · rfl

variable {s : State} {f : HandleField}

theorem ownMoveSurface_error {u : State} {st : Status} (h : u.liveRecord f = .error st) :
    ownMoveSurface f target rect u = refuse u st := by
  simp only [ownMoveSurface, h]

theorem moveSurface_answers (ht : s.turn (.moveSurface f target rect)) :
    (s.checkHandle f = none → Answers (.moveSurface f target rect) s (s.answered .badHandle [])) ∧
    (∀ i, s.checkHandle f = some i → (∀ r, s.entry i = .used r → r.state = .retiring) →
      Answers (.moveSurface f target rect) s (s.answered .retiring [])) ∧
    (∀ i r, s.checkHandle f = some i → s.entry i = .used r → r.state ≠ .retiring →
      (6 ≤ target.toNat ∨ target = 5 ∧ rect ≠ none ∨ (∃ g, rect = some g ∧ rectBad (rectOf g) = true) →
        Answers (.moveSurface f target rect) s (s.answered .badValue [])) ∧
      (∀ (m : Option MoveOverride) (v : State), (∃ t, target = Target.code t ∧
            (∀ g, rect = some g → rectBad (rectOf g) = false) ∧ m = some ⟨t, rect.map rectOf⟩) ∨
          target = 5 ∧ rect = none ∧ m = none →
        v = (s.handed (.moveSurface f target rect)).setEntry i (.used { r with moveTo := m }) →
        v.EngineFrame ((Ev.start v).reresolve i).done ∧
        Answers (.moveSurface f target rect) s (((Ev.start v).reresolve i).answer []))) := by
  refine ⟨fun h => answers_badHandle ht rfl h fun _ => ownMoveSurface_error,
    fun i h hr => answers_retiring ht rfl h hr fun _ => ownMoveSurface_error, fun i r h he hs => ?_⟩
  have live := s.handed_liveRecord_ok (.moveSurface f target rect) h he hs
  refine ⟨fun hbad => answers_refused ht rfl (by simp only [ownMoveSurface, live, overrideOf_refused hbad]),
    fun m v hm hv => ⟨(Ev.reresolve_frame (Ev.start v) i).trans (Ev.done_frame _), ?_⟩⟩
  subst hv
  exact answers_of_reply (payload := fun _ => []) ht rfl (by simp only [ownMoveSurface, live, overrideOf_taken hm])

end

/-! ### What a restage stages -/

theorem LayerSlot.restage_isSome_iff {x : LayerSlot} {i : Fin 40} {f : SlotConfig → SlotConfig} :
    (x.ownedBy i = true ∧ (x.restage f).isSome = true) ↔ ∃ o c d due, o.index = i ∧
      (x = .claimed o (some (.full d due)) ∨ x = .live o c none ∨ x = .live o c (some (.full d due))) := by
  constructor
  · rintro ⟨ho, hf⟩
    obtain ⟨o, ho, hi⟩ := LayerSlot.ownedBy_iff.1 ho
    rcases x with _ | ⟨o', _ | ⟨d, due⟩ | due⟩ | ⟨o', c, _ | ⟨d, due⟩ | due⟩ <;> cases ho
    · cases hf
    · exact ⟨o, d, d, due, hi, .inl rfl⟩
    · cases hf
    · exact ⟨o, c, c, false, hi, .inr (.inl rfl)⟩
    · exact ⟨o, c, d, due, hi, .inr (.inr rfl)⟩
    · cases hf
  · rintro ⟨o, c, d, due, hi, rfl | rfl | rfl⟩ <;> exact ⟨LayerSlot.ownedBy_iff.2 ⟨o, rfl, hi⟩, rfl⟩

theorem State.restages_iff {s : State} {i : Fin 40} : s.restages i = true ↔ ∃ k o c d due, o.index = i ∧
    (s.slot k = .claimed o (some (.full d due)) ∨ s.slot k = .live o c none ∨
      s.slot k = .live o c (some (.full d due))) := by
  unfold State.restages
  simp only [List.any_eq_true, State.mem_ownedSlots, LayerSlot.restage_isSome_iff]

/-! ### Re-resolution -/

theorem Record.resolvable_iff {r : Record} :
    r.resolvable = true ↔ r.state ≠ .retiring ∧ (r.state = .new → r.placeholder = true) := by
  unfold Record.resolvable
  cases r.state <;> simp

section
variable {e : Ev} {i : Fin 40} {r : Record}

theorem Ev.reresolve_idle (h : ∀ r, e.s.entry i = .used r → r.state = .retiring ∨ r.state = .new ∧ r.placeholder = false) :
    e.reresolve i = e := by
  unfold Ev.reresolve
  split
  · rfl
  · next r hr =>
    refine if_neg fun hres => ?_
    obtain ⟨hs, hp⟩ := Record.resolvable_iff.1 hres
    rcases h r ((State.record?_eq_some _).1 hr) with h | ⟨hn, h⟩
    · exact hs h
    · cases (hp hn).symm.trans h

theorem Ev.reresolve_used (h : e.s.entry i = .used r) (hr : r.resolvable = true) : e.reresolve i =
    if e.s.bound i r (e.s.resolve i r) = true ∧ r.resPending = false then e else e.pass i r (e.s.resolve i r) := by
  simp only [Ev.reresolve, (State.record?_eq_some _).2 h, hr, if_true]

end

/-! ### The resolution -/

section
variable {s : State} {i : Fin 40} {r : Record} {g : Rule} {src : Source}

theorem Rule.matchesClass_iff {q : Rule} {cls : Half} :
    q.matchesClass cls = true ↔ q.valid = true ∧ q.base = cls &&& q.mask := by
  simp [Rule.matchesClass]

theorem State.governing_lowest {cls : Half} {n : Fin 16} (h : (s.rules[n]).matchesClass cls = true)
    (hlow : ∀ m < n, (s.rules[m]).matchesClass cls = false) : s.governing cls = s.rules[n] := by
  unfold State.governing
  rw [finRange_find?_eq_some.2 ⟨h, hlow⟩]

theorem State.governing_builtin {cls : Half} (h : ∀ n, (s.rules[(n : Fin 16)]).matchesClass cls = false) :
    s.governing cls = .builtin := by
  unfold State.governing
  rw [List.find?_eq_none.2 fun n _ => Bool.eq_false_iff.1 (h n)]

theorem State.source_focus (hp : s.posture.committed = .folded) (hf : s.isFocus i = true) :
    s.source i r g = ⟨.front, .full, .move⟩ := if_pos ⟨hp, hf⟩

variable (hn : s.posture.committed ≠ .folded ∨ s.isFocus i = false)
include hn

theorem State.source_moved {m : MoveOverride} (hm : r.moveTo = some m) :
    s.source i r g = ⟨m.target, .ofOption m.rect, g.fallback⟩ := by
  unfold State.source
  rw [if_neg (by simpa [imp_iff_not_or] using hn), hm]

theorem State.source_variant {w : Variant} (hm : r.moveTo = none)
    (hw : (r.variants.find? fun v => v.postures.has s.posture.committed) = some w) :
    s.source i r g = ⟨w.target, .ofOption w.rect, w.fallback⟩ := by
  unfold State.source
  rw [if_neg (by simpa [imp_iff_not_or] using hn), hm, hw]

theorem State.source_rule (hm : r.moveTo = none) (hw : ∀ w ∈ r.variants, w.postures.has s.posture.committed = false) :
    s.source i r g =
      ⟨g.targets.at .park s.posture.committed, .ofFit (g.fits.at .full s.posture.committed), g.fallback⟩ := by
  unfold State.source
  rw [if_neg (by simpa [imp_iff_not_or] using hn), hm, List.find?_eq_none.2 fun w hv => Bool.eq_false_iff.1 (hw w hv)]

end

/-- R58: no two variants of a record are for one posture, so the one found is the one there is. -/
theorem Record.find?_posture {r : Record} (ok : r.VariantsOk) {w : Variant} (hw : w ∈ r.variants) {p : Posture}
    (hp : w.postures.has p = true) : (r.variants.find? fun v => v.postures.has p) = some w := by
  obtain ⟨l, l', hl⟩ := List.append_of_mem hw
  refine List.find?_eq_some_iff_append.2 ⟨hp, l, l', hl, fun v hv => ?_⟩
  have apart := ok.disjoint
  rw [hl] at apart
  have := (List.pairwise_append.1 apart).2.2 v hv w (List.mem_cons_self ..) p
  cases h : v.postures.has p with
  | false => rfl
  | true => exact absurd ⟨h, hp⟩ this

section
variable {s : State} {r : Record} {src : Source}

theorem State.dark_iff {p : PanelId} :
    s.dark p = true ↔ (s.panel p).planLit = false ∨ (s.panel p).enabled = false ∨ (s.panel p).mode = .offline := by
  unfold State.dark Panel.dark Panel.litDemand Panel.isOffline
  cases (s.panel p).mode <;> simp

theorem State.withFallback_lit {p : PanelId} {f : Fallback} (h : s.dark p = false) :
    s.withFallback p f = some (.panel p) := by simp [State.withFallback, h]

theorem State.withFallback_move {p : PanelId} (h : s.dark p = true) (ho : s.dark (otherPanel p) = false) :
    s.withFallback p .move = some (.panel (otherPanel p)) := by simp [State.withFallback, h, ho]

theorem State.withFallback_none {p : PanelId} {f : Fallback} (h : s.dark p = true)
    (ho : f = .park ∨ s.dark (otherPanel p) = true) : s.withFallback p f = none := by
  cases f with
  | park => simp [State.withFallback, h]
  | move => simp [State.withFallback, h, ho.resolve_left (by decide)]

theorem State.area_canvas (ht : src.target = .span) (hj : s.shared.joined = .joined) (h0 : s.dark .p0 = false)
    (h1 : s.dark .p1 = false) : s.area r src = some .canvas := by
  simp [State.area, ht, State.canvasJoined, hj, h0, h1]

/-- R78, R79: every other target names one panel, and the area is that of the dark fallback from it. -/
theorem State.area_panel {p : PanelId} (h : src.target = .home ∧ p = r.home ∨ src.target = .other ∧ p = otherPanel r.home ∨
    src.target = .front ∧ p = s.posture.front ∨
    src.target = .span ∧ (s.shared.joined ≠ .joined ∨ s.dark .p0 = true ∨ s.dark .p1 = true) ∧ p = r.home) :
    s.area r src = s.withFallback p src.fallback := by
  rcases h with ⟨ht, rfl⟩ | ⟨ht, rfl⟩ | ⟨ht, rfl⟩ | ⟨ht, hc, rfl⟩
  · simp only [State.area, ht]
  · simp only [State.area, ht]
  · simp only [State.area, ht]
  · have apart : s.canvasJoined = false := by
      rcases hc with hc | hc | hc <;> simp [State.canvasJoined, hc]
    simp only [State.area, ht, apart]
    rfl

end

theorem Record.wants_eq_some {r : Record} {t : Rect} {z : Size} : r.wants t = some z ↔ r.redraw = true ∧ z = ⟨t.w, t.h⟩ ∧
    ∃ b : Buffer, (r.pending = some b ∨ r.pending = none ∧ r.current = some b) ∧
      ¬(t.w = b.desc.width.toNat ∧ t.h = b.desc.height.toNat) := by
  have latest (b : Buffer) : r.latest = some b ↔ r.pending = some b ∨ r.pending = none ∧ r.current = some b := by
    unfold Record.latest
    cases r.pending <;> simp
  have size (b : Buffer) : t.size ≠ b.size ↔ ¬(t.w = b.desc.width.toNat ∧ t.h = b.desc.height.toNat) := by
    simp [Rect.size, Buffer.size]
  simp only [← latest, ← size]
  unfold Record.wants
  cases r.latest with
  | none => simp
  | some b =>
    by_cases h : r.redraw = true ∧ t.size ≠ b.size
    · simp only [if_pos h, Option.some.injEq]
      exact ⟨fun hz => ⟨h.1, hz.symm, b, rfl, h.2⟩, fun ⟨_, hz, _⟩ => hz.symm⟩
    · simp only [if_neg h, Option.some.injEq]
      exact ⟨fun hz => by simp at hz, fun ⟨hr, _, b', hb, hne⟩ => absurd ⟨hr, hb ▸ hne⟩ h⟩

section
variable {s : State} {i : Fin 40} {r : Record} {src : Source}

theorem State.resolve_park (hs : src = s.source i r (s.governing r.cls))
    (h : s.posture.committed = .unknown ∨ s.area r src = none) : s.resolve i r = .park (s.governing r.cls) := by
  subst hs
  unfold State.resolve
  by_cases hu : s.posture.committed = .unknown
  · exact if_pos hu
  · simp only [if_neg hu, h.resolve_left hu]

theorem State.resolve_area {a : Area} {rect : Rect} {pieces : List TargetPiece}
    (hs : src = s.source i r (s.governing r.cls)) (hu : s.posture.committed ≠ .unknown) (ha : s.area r src = some a)
    (hrect : rect = fitRect s.shared a r.rect src.rect) (hp : pieces = piecesOf s.shared s.posture.rotated? a rect) :
    s.resolve i r = if pieces = [] then .park (s.governing r.cls)
      else ⟨some ⟨a, rect, pieces⟩, r.wants rect, (s.governing r.cls).mode, (s.governing r.cls).deadlineMs⟩ := by
  subst hp hrect hs
  simp only [State.resolve, if_neg hu, ha]

/-- R82, R88: the mode and the deadline are the governing rule's whatever the area. -/
theorem State.resolve_timing (s : State) (i : Fin 40) (r : Record) :
    (s.resolve i r).mode = (s.governing r.cls).mode ∧ (s.resolve i r).deadlineMs = 10 * (s.governing r.cls).deadline := by
  by_cases hu : s.posture.committed = .unknown
  · rw [State.resolve_park rfl (.inl hu)]
    exact ⟨rfl, rfl⟩
  · cases ha : s.area r (s.source i r (s.governing r.cls)) with
    | none =>
      rw [State.resolve_park rfl (.inr ha)]
      exact ⟨rfl, rfl⟩
    | some a =>
      rw [State.resolve_area rfl hu ha rfl rfl]
      split <;> exact ⟨rfl, rfl⟩

end

/-- Settles O41: each request by its answers, and each clause of the resolver by the lemma of its function. -/
theorem amendAndMoveRequests : Obligations.AmendAndMoveRequests := by
  refine ⟨fun s f presence z home cls owner flags fill ht => ?amend, fun s f target rect ht => moveSurface_answers ht,
    fun e i f => ?restage, fun e i => ⟨Ev.reresolve_idle, fun r bound h hs hn hb => ?reresolve⟩,
    fun s cls fits hfits => ?governing, fun s i r g src hsrc ok => ?source, fun s r src dark hdark => ?area,
    fun g a whole given current hw => ?fit, fun r t z => Record.wants_eq_some,
    fun s i r g src res hg hsrc hres => ?resolve⟩
  case amend =>
    obtain ⟨badHandle, retiring, live⟩ := amendSurface_answers ht
    refine ⟨badHandle, retiring, fun i r h he hs => ?_⟩
    obtain ⟨badValue, taken⟩ := live i r h he hs
    refine ⟨fun hbad => badValue (amendOk_of_bad hbad), fun p new v e e' hbit hhome hflags hnew hv hev hev' => ?_⟩
    have ok : amendOk presence home flags = true := by
      refine amendOk_iff.2 ⟨fun hb => ?_, hbit, hflags⟩
      rw [hhome hb, panelOfByte_code]
      exact nofun
    have amended : e' = (Ev.start v).amended i r new := by
      rw [hev', hev]
      simp only [Ev.amended, Bool.not_eq_true]
    exact taken new v e' ok (hnew.trans (r.amend_eq hhome).symm) hv amended
  case restage =>
    refine ⟨rfl, fun k => ?_, ?_⟩
    · refine (e.s.slot_restageAll i f k).trans ?_
      generalize e.s.slot k = x
      rcases x with _ | ⟨o, _ | ⟨c, due⟩ | due⟩ | ⟨o, c, _ | ⟨d, due⟩ | due⟩
      · rfl
      all_goals
        by_cases hi : o.index = i <;> simp [LayerSlot.ownedBy, LayerSlot.owner?, LayerSlot.restage, hi]
    · rw [Ev.restage, Bool.or_eq_true, State.restages_iff]
  case reresolve =>
    have same : e.s.bound i r (e.s.resolve i r) = bound := by
      rw [hb, State.bound]
      cases e.s.job? i with
      | none => rfl
      | some j => cases hj : j.next <;> simp [hj]
    have step := Ev.reresolve_used h (Record.resolvable_iff.2 ⟨hs, hn⟩)
    rw [same] at step
    refine ⟨fun ht hp => step.trans (if_pos ⟨ht, hp⟩), fun hor => step.trans (if_neg fun ⟨ht, hp⟩ => ?_)⟩
    rcases hor with h | h
    · cases ht.symm.trans h
    · cases hp.symm.trans h
  case governing =>
    have apart {n} (h : ¬fits n) : (s.rules[n]).matchesClass cls = false :=
      Bool.eq_false_iff.2 fun hm => h ((hfits n).2 (Rule.matchesClass_iff.1 hm))
    exact ⟨fun n hn hlow => State.governing_lowest (Rule.matchesClass_iff.2 ((hfits n).1 hn)) fun m hm => apart (hlow m hm),
      fun hn => State.governing_builtin fun n => apart (hn n)⟩
  case source =>
    subst hsrc
    refine ⟨State.source_focus, fun hn => ⟨fun m hm => ?_, fun w hw hm hp => ?_, fun hm hw t f hcase => ?_⟩⟩
    · rw [State.source_moved hn hm]
      cases m.rect <;> rfl
    · rw [State.source_variant hn hm (r.find?_posture ok hw hp)]
      cases w.rect <;> rfl
    · rw [State.source_rule hn hm hw]
      rcases hcase with ⟨hc, rfl, rfl⟩ | ⟨hc, rfl, rfl⟩ | ⟨hc, rfl, rfl⟩ | ⟨hc, rfl, rfl⟩ | ⟨hc, rfl, rfl⟩ <;> rw [hc] <;> rfl
  case area =>
    have lit {p} (h : ¬dark p) : s.dark p = false := Bool.eq_false_iff.2 fun hd => h ((hdark p).2 (State.dark_iff.1 hd))
    have unlit {p} (h : dark p) : s.dark p = true := State.dark_iff.2 ((hdark p).1 h)
    refine ⟨fun ht => by simp only [State.area, ht], fun ht hj h0 h1 => State.area_canvas ht hj (lit h0) (lit h1),
      fun p hp => ?_⟩
    have area : s.area r src = s.withFallback p src.fallback :=
      State.area_panel (hp.imp id (.imp id (.imp id fun ⟨ht, hc, hr⟩ => ⟨ht, hc.imp id (.imp unlit unlit), hr⟩)))
    rw [area]
    exact ⟨fun h => State.withFallback_lit (lit h), fun h hf ho => hf ▸ State.withFallback_move (unlit h) (lit ho),
      fun h ho => State.withFallback_none (unlit h) (ho.imp id unlit)⟩
  case fit =>
    have full : g.fullRect a = whole := by
      rw [hw]
      cases a <;> rfl
    exact ⟨full, full, fun c hc => by rw [hc]; rfl, rfl⟩
  case resolve =>
    subst hg hres
    obtain ⟨mode, deadline⟩ := s.resolve_timing i r
    refine ⟨mode, deadline, fun h => ?_, fun a rect pieces hu ha hrect hpieces => ?_⟩
    · rw [State.resolve_park hsrc h]
      exact ⟨rfl, rfl⟩
    · rw [State.resolve_area hsrc hu ha hrect hpieces]
      refine ⟨fun h => ?_, fun h => ?_⟩
      · rw [if_pos h]
        exact ⟨rfl, rfl⟩
      · rw [if_neg h]
        exact ⟨rfl, rfl⟩

end Sys2Proof.Machine
end

section
/-! SUPPORT. WRITE_RULE, SET_LENDING and SET_PANEL_GEOMETRY in their turn (R74, R143, R144), and the order of a re-resolution of
every record (R92). -/

namespace Sys2Proof.Machine

/-! ### WRITE_RULE -/

section
variable {α : Type} {f : Byte → Option α} {v : Vector Byte 5}

theorem fiveOf_eq_none (n : Fin 5) (h : f v[n] = none) : fiveOf f v = none := by
  unfold fiveOf
  split
  · next h0 h1 h2 h3 h4 =>
    match n with
    | 0 => cases h0.symm.trans h
    | 1 => cases h1.symm.trans h
    | 2 => cases h2.symm.trans h
    | 3 => cases h3.symm.trans h
    | 4 => cases h4.symm.trans h
  · rfl

/-- Five bytes that are the codes of five values give them back. -/
theorem fiveOf_codes {g : α → Byte} (hf : ∀ x, f (g x) = some x) {t : PerPosture α} (h : v.toList = t.list.map g) :
    fiveOf f v = some t := by
  have at_ (n : Nat) (hn : n < 5) : v[n] = (t.list.map g)[n]'(h ▸ by simpa using hn) := by
    rw [← Vector.getElem_toList (by simpa using hn)]
    exact List.getElem_of_eq h _
  simp only [fiveOf, at_ 0 (by decide), at_ 1 (by decide), at_ 2 (by decide), at_ 3 (by decide), at_ 4 (by decide)]
  simp [PerPosture.list, hf]

end

section
variable {e : RuleField}

theorem ruleOf_eq_none (h : 2 ≤ e.valid.toNat ∨ (∃ n : Fin 5, 5 ≤ (e.targets[n]).toNat) ∨
    (∃ n : Fin 5, 2 ≤ (e.fits[n]).toNat) ∨ 2 ≤ e.fallback.toNat ∨ 2 ≤ e.mode.toNat) : ruleOf e = none := by
  unfold ruleOf
  split
  · next hv ht hf hb hm =>
    rcases h with h | ⟨n, h⟩ | ⟨n, h⟩ | h | h
    · cases hv.symm.trans (boolOfByte_of_two_le h)
    · cases ht.symm.trans (fiveOf_eq_none n (targetOfByte_of_five_le h))
    · cases hf.symm.trans (fiveOf_eq_none n (fitOfByte_of_two_le h))
    · cases hb.symm.trans (fallbackOfByte_of_two_le h)
    · cases hm.symm.trans (modeOfByte_of_two_le h)
  · rfl

theorem ruleOf_codes {r : Rule} (hv : e.valid = bitByte r.valid) (hbase : e.base = r.base) (hmask : e.mask = r.mask)
    (ht : e.targets.toList = r.targets.list.map Target.code) (hf : e.fits.toList = r.fits.list.map Fit.code)
    (hb : e.fallback = r.fallback.code) (hm : e.mode = r.mode.code) (hd : r.deadline = min 200 e.deadline.toNat) :
    ruleOf e = some r := by
  simp only [ruleOf, hv, hb, hm, boolOfByte_bitByte, fallbackOfByte_code, modeOfByte_code, hbase, hmask, ← hd,
    fiveOf_codes targetOfByte_code ht, fiveOf_codes fitOfByte_code hf]

variable {s : State} {index : Byte}

theorem writeRule_badValue (ht : s.turn (.writeRule index e)) (h : 16 ≤ index.toNat ∨ ruleOf e = none) :
    Answers (.writeRule index e) s (s.answered .badValue []) := by
  refine answers_refused ht rfl ?_
  unfold ownWriteRule
  split
  · next hlt =>
    rw [h.resolve_left (by omega)]
  · rfl

theorem writeRule_taken (ht : s.turn (.writeRule index e)) {n : Fin 16} {r : Rule} (hn : n.val = index.toNat)
    (hr : ruleOf e = some r) {v : State} (hv : v = { s.handed (.writeRule index e) with rules := s.rules.set n.val r }) :
    Answers (.writeRule index e) s ((Ev.start v).reresolveAll.answer [byteOf r.deadline]) := by
  refine answers_of_reply (payload := fun _ => [byteOf r.deadline]) ht rfl ?_
  subst hv
  have lt : index.toNat < 16 := hn ▸ n.isLt
  simp only [ownWriteRule, dif_pos lt, hr, State.handed_rules, hn]

end

/-! ### SET_LENDING -/

section
variable {s : State} {b count : Byte} {p : PanelId}

theorem lendCountOk_iff : lendCountOk count.toNat = true ↔ count = 0 ∨ count = 2 ∨ count = 4 ∨ count = 6 := by
  unfold lendCountOk
  simp only [Bool.or_eq_true, beq_iff_eq, or_assoc, BitVec.toNat_eq]
  rfl

theorem State.sameLending_iff : s.sameLending p count.toNat = true ↔
    s.shared.lent = count.toNat ∧ (count = 0 ∨ s.shared.lender = p) := by
  unfold State.sameLending
  simp only [Bool.and_eq_true, Bool.or_eq_true, beq_iff_eq, BitVec.toNat_eq]
  rfl

theorem State.lendingFree_iff {n : Nat} :
    s.lendingFree p n = true ↔ ∀ k, usingPanel p n k ≠ s.user k → s.slot k = .free := by
  unfold State.lendingFree allSlots
  simp only [List.all_eq_true, List.mem_finRange, true_imp_iff, Bool.or_eq_true, beq_iff_eq, LayerSlot.isFree_iff,
    or_iff_not_imp_left, ne_eq]

theorem State.handed_lendingFree (c : Instr) (n : Nat) : (s.handed c).lendingFree p n = s.lendingFree p n := by
  simp only [State.lendingFree, State.user, State.slot, State.handed_shared, State.handed_slots]

theorem setLending_badValue (ht : s.turn (.setLending b count))
    (h : (∀ p, b ≠ panelCode p) ∨ lendCountOk count.toNat = false) :
    Answers (.setLending b count) s (s.answered .badValue []) := by
  refine answers_refused ht rfl ?_
  unfold ownSetLending
  split
  · rfl
  · next l hl =>
    refine if_neg (Bool.eq_false_iff.1 (h.resolve_left fun hb => ?_))
    cases hl.symm.trans (panelOfByte_none hb)

theorem ownSetLending_eq {u : State} (hc : lendCountOk count.toNat = true) : ownSetLending (panelCode p) count u =
    if u.sameLending p count.toNat then report u u.lendingReport
    else if u.lendingFree p count.toNat then
      report { Ev.start { u with shared := { u.shared with lender := p, lent := count.toNat } } with walk := true }.done
        { Ev.start { u with shared := { u.shared with lender := p, lent := count.toNat } } with walk := true }.done.lendingReport
    else refuse u .busy := by
  simp only [ownSetLending, panelOfByte_code, hc, if_true]

theorem setLending_same (ht : s.turn (.setLending (panelCode p) count)) (hc : lendCountOk count.toNat = true)
    (h : s.sameLending p count.toNat = true) :
    Answers (.setLending (panelCode p) count) s (s.answered .ok s.lendingReport) := by
  refine answers_of_report ht rfl ?_
  rw [ownSetLending_eq hc, if_pos (by rwa [State.sameLending, State.handed_shared])]
  simp only [State.lendingReport, State.handed_shared]

theorem setLending_busy (ht : s.turn (.setLending (panelCode p) count)) (hc : lendCountOk count.toNat = true)
    (h : s.sameLending p count.toNat = false) (hf : s.lendingFree p count.toNat = false) :
    Answers (.setLending (panelCode p) count) s (s.answered .busy []) := by
  refine answers_refused ht rfl ?_
  rw [ownSetLending_eq hc, if_neg (by simpa only [State.sameLending, State.handed_shared] using Bool.eq_false_iff.1 h),
    if_neg (by simpa only [State.handed_lendingFree] using Bool.eq_false_iff.1 hf)]

theorem setLending_taken (ht : s.turn (.setLending (panelCode p) count)) (hc : lendCountOk count.toNat = true)
    (h : s.sameLending p count.toNat = false) (hf : s.lendingFree p count.toNat = true) {v : State}
    (hv : v = { s.handed (.setLending (panelCode p) count) with
      shared := { s.shared with lender := p, lent := count.toNat } }) :
    Answers (.setLending (panelCode p) count) s
      ({ Ev.start v with walk := true }.done.answered .ok v.lendingReport) := by
  have frame : v.EngineFrame { Ev.start v with walk := true }.done :=
    Ev.done_frame { Ev.start v with walk := true }
  have own := ownSetLending_eq (u := s.handed (.setLending (panelCode p) count)) (p := p) hc
  rw [if_neg (by simpa only [State.sameLending, State.handed_shared] using Bool.eq_false_iff.1 h),
    if_pos (by rwa [State.handed_lendingFree]), State.handed_shared, ← hv] at own
  have same : { Ev.start v with walk := true }.done.lendingReport = v.lendingReport := by
    simp only [State.lendingReport, frame.shared]
  rw [same] at own
  exact answers_of_owner ht rfl own

end

/-! ### SET_PANEL_GEOMETRY -/

section
variable {s : State} {w h g : Half}

theorem geometryOk_iff {w h g : Nat} :
    geometryOk w h g = true ↔ 480 ≤ w ∧ w ≤ 2560 ∧ 480 ≤ h ∧ h ≤ 2560 ∧ g ≤ 96 := by
  simp [geometryOk, and_assoc]

theorem State.bothDown_iff : s.bothDown = true ↔ ∀ p, (s.panel p).mode = .off ∨ (s.panel p).mode = .offline := by
  unfold State.bothDown
  simp only [Bool.and_eq_true, Bool.or_eq_true, beq_iff_eq]
  exact ⟨fun ⟨h0, h1⟩ p => by cases p <;> assumption, fun h => ⟨h .p0, h .p1⟩⟩

theorem State.handed_bothDown (c : Instr) : (s.handed c).bothDown = s.bothDown := by
  simp only [State.bothDown, State.panel, State.handed_panels]

/-- R144: a geometry that differs from the one in force. -/
theorem Shared.geometry_ne (x : Shared) (w h g : Nat) :
    decide ({ x with width := w, height := h, seam := g } ≠ x) =
      !(decide (x.width = w) && decide (x.height = h) && decide (x.seam = g)) := by
  have same : ({ x with width := w, height := h, seam := g } : Shared) = x ↔ x.width = w ∧ x.height = h ∧ x.seam = g := by
    constructor
    · intro hx
      exact ⟨(congrArg Shared.width hx).symm, (congrArg Shared.height hx).symm, (congrArg Shared.seam hx).symm⟩
    · rintro ⟨rfl, rfl, rfl⟩
      rfl
  simp only [ne_eq, same, decide_not, Bool.decide_and, Bool.and_assoc]

theorem setPanelGeometry_badValue (ht : s.turn (.setPanelGeometry w h g))
    (hg : geometryOk w.toNat h.toNat g.toNat = false) :
    Answers (.setPanelGeometry w h g) s (s.answered .badValue []) :=
  answers_refused ht rfl (by simp [ownSetPanelGeometry, hg])

theorem setPanelGeometry_busy (ht : s.turn (.setPanelGeometry w h g)) (hg : geometryOk w.toNat h.toNat g.toNat = true)
    (hd : s.bothDown = false) : Answers (.setPanelGeometry w h g) s (s.answered .busy []) :=
  answers_refused ht rfl (by simp [ownSetPanelGeometry, hg, State.handed_bothDown, hd])

theorem setPanelGeometry_taken (ht : s.turn (.setPanelGeometry w h g)) (hg : geometryOk w.toNat h.toNat g.toNat = true)
    (hd : s.bothDown = true) {v : State} {e : Ev} (hv : v = { s.handed (.setPanelGeometry w h g) with
      shared := { s.shared with width := w.toNat, height := h.toNat, seam := g.toNat } })
    (he : e = { Ev.start v with resolveAll := !(decide (s.shared.width = w.toNat) && decide (s.shared.height = h.toNat) &&
      decide (s.shared.seam = g.toNat)) }) : Answers (.setPanelGeometry w h g) s (e.answer []) := by
  refine answers_of_reply (payload := fun _ => []) ht rfl ?_
  subst hv he
  rw [ownSetPanelGeometry, if_pos hg, State.handed_bothDown, if_pos hd, ← Shared.geometry_ne, State.handed_shared]

end

/-! ### The order of a re-resolution of every record -/

theorem State.isFocus_inj {s : State} {i j : Fin 40} (hi : s.isFocus i = true) (hj : s.isFocus j = true) : i = j := by
  unfold State.isFocus at hi hj
  split at hi
  · next h hf =>
    simp only [hf, beq_iff_eq] at hi hj
    exact hi.symm.trans hj
  · cases hi

theorem State.mem_resolveOrder (s : State) (i : Fin 40) : i ∈ s.resolveOrder := by
  unfold State.resolveOrder allRecords
  cases h : s.isFocus i <;> simp [h]

/-- R92: the focus record comes first, and the rest come in ascending index. -/
theorem State.resolveOrder_pairwise (s : State) :
    s.resolveOrder.Pairwise fun i j => s.isFocus j = false ∧ (s.isFocus i = true ∨ i < j) := by
  have ascending : allRecords.Pairwise (· < ·) := finRange_pairwise_lt 40
  refine List.pairwise_append.2 ⟨?_, ?_, fun i hi j hj => ?_⟩
  · refine (ascending.filter _).imp_of_mem fun {i j} hi hj hlt => ?_
    exact absurd (State.isFocus_inj (List.mem_filter.1 hi).2 (List.mem_filter.1 hj).2) (Fin.ne_of_lt hlt)
  · refine (ascending.filter _).imp_of_mem fun {i j} _ hj hlt => ⟨?_, .inr hlt⟩
    simpa using (List.mem_filter.1 hj).2
  · exact ⟨by simpa using (List.mem_filter.1 hj).2, .inl (List.mem_filter.1 hi).2⟩

theorem State.resolveOrder_nodup (s : State) : s.resolveOrder.Nodup := by
  refine s.resolveOrder_pairwise.imp fun {i j} ⟨hj, hi⟩ heq => ?_
  subst heq
  rcases hi with hi | hi
  · cases hi.symm.trans hj
  · exact lt_irrefl _ hi

/-- Settles O45: each request by its answers, and the order of R92. -/
theorem ruleGeometryAndLending : Obligations.RuleGeometryAndLending := by
  refine ⟨fun s index e ht => ⟨fun h => ?rule, fun n r hn hv hbase hmask htgt hfit hb hm hd v hvs => ?taken⟩,
    fun s b count answer ht hanswer => ?lending, fun s w h g ht => ?geometry, fun e => ?order, fun e => ⟨fun h => ?idle, fun h => ?due⟩⟩
  case rule => exact writeRule_badValue ht (h.imp id ruleOf_eq_none)
  case taken =>
    exact ⟨(Ev.start v).reresolveAll_frame.trans (Ev.done_frame _),
      writeRule_taken ht hn (ruleOf_codes hv hbase hmask htgt hfit hb hm hd) hvs⟩
  case lending =>
    have lendingReport (u : State) : u.lendingReport = answer u.shared.lender u.shared.lent :=
      (hanswer u.shared.lender u.shared.lent).symm
    refine ⟨fun h => setLending_badValue ht (h.imp id fun hc => Bool.eq_false_iff.2 fun ok => ?_), fun p hb hcount => ?_⟩
    · obtain ⟨h0, h2, h4, h6⟩ := hc
      rcases lendCountOk_iff.1 ok with h | h | h | h <;> contradiction
    · subst hb
      have ok := lendCountOk_iff.2 hcount
      refine ⟨fun hsame => lendingReport s ▸ setLending_same ht ok (State.sameLending_iff.2 hsame), fun hsame => ?_⟩
      have differs : s.sameLending p count.toNat = false := Bool.eq_false_iff.2 fun h => hsame (State.sameLending_iff.1 h)
      refine ⟨fun ⟨k, hk, hused⟩ => setLending_busy ht ok differs (Bool.eq_false_iff.2 fun h => ?_), fun v hfree hv => ?_⟩
      · exact hused (State.lendingFree_iff.1 h k hk)
      · have taken := setLending_taken ht ok differs (State.lendingFree_iff.2 hfree) hv
        have report : v.lendingReport = answer p count.toNat := by
          rw [lendingReport v, hv]
        exact ⟨Ev.done_frame { Ev.start v with walk := true }, report ▸ taken⟩
  case geometry =>
    refine ⟨fun hg => setPanelGeometry_badValue ht (Bool.eq_false_iff.2 fun ok => hg (geometryOk_iff.1 ok)), fun hg => ?_⟩
    have ok := geometryOk_iff.2 hg
    refine ⟨fun ⟨p, hoff, hoffline⟩ => setPanelGeometry_busy ht ok (Bool.eq_false_iff.2 fun hd => ?_),
      fun hd v e hv he => ⟨?_, setPanelGeometry_taken ht ok (State.bothDown_iff.2 hd) hv he⟩⟩
    · rcases State.bothDown_iff.1 hd p with h | h
      · exact hoff h
      · exact hoffline h
    · have frame := e.done_frame
      rwa [he] at frame ⊢
  case order => exact ⟨e.s.resolveOrder, rfl, e.s.resolveOrder_nodup, e.s.mem_resolveOrder, e.s.resolveOrder_pairwise⟩
  case idle => exact if_neg (Bool.eq_false_iff.1 h)
  case due => exact if_pos h

end Sys2Proof.Machine
end

section
/-! SUPPORT. What retirement does to a record (R65, R66), and RETIRE_SURFACE and RETIRE_OWNER in their turn (R67). -/

namespace Sys2Proof.Machine

/-! ### Replacing one record slot -/

/-- The state but for the record slot with index `i`. -/
def State.OnlyEntry (i : Fin 40) (s t : State) : Prop := ∃ x, t = s.setEntry i x

section
variable {i : Fin 40} {s t u : State}

theorem State.setEntry_setEntry (s : State) (i : Fin 40) (x y : TableSlot) : (s.setEntry i x).setEntry i y = s.setEntry i y := by
  simp [State.setEntry]

theorem State.setEntry_entry (s : State) (i : Fin 40) : s.setEntry i (s.entry i) = s := by
  simp [State.setEntry, State.entry]

theorem State.OnlyEntry.refl (s : State) : s.OnlyEntry i s := ⟨_, (s.setEntry_entry i).symm⟩

theorem State.OnlyEntry.trans (h : State.OnlyEntry i s t) (k : State.OnlyEntry i t u) : State.OnlyEntry i s u := by
  obtain ⟨x, rfl⟩ := h
  obtain ⟨y, rfl⟩ := k
  exact ⟨y, s.setEntry_setEntry i x y⟩

theorem State.OnlyEntry.entry (h : State.OnlyEntry i s t) {j : Fin 40} (hj : j ≠ i) : t.entry j = s.entry j := by
  obtain ⟨x, rfl⟩ := h
  rw [State.entry_setEntry, if_neg hj]

theorem State.OnlyEntry.slots (h : State.OnlyEntry i s t) : t.slots = s.slots := by
  obtain ⟨x, rfl⟩ := h
  rfl

theorem State.OnlyEntry.queue (h : State.OnlyEntry i s t) : t.queue = s.queue := by
  obtain ⟨x, rfl⟩ := h
  rfl

theorem State.OnlyEntry.focus (h : State.OnlyEntry i s t) : t.table.focus = s.table.focus := by
  obtain ⟨x, rfl⟩ := h
  rfl

theorem State.modRecord_onlyEntry (s : State) (i : Fin 40) (f : Record → Record) : s.OnlyEntry i (s.modRecord i f) := by
  unfold State.modRecord
  split
  · exact ⟨_, rfl⟩
  · exact .refl s

theorem State.checkCurrency_onlyEntry (s : State) (i : Fin 40) : s.OnlyEntry i (s.checkCurrency i) := by
  unfold State.checkCurrency
  split
  · exact .refl s
  · split
    · exact .refl s
    · split
      · exact s.modRecord_onlyEntry i _
      · exact .refl s

theorem State.enterRetired_onlyEntry (s : State) (i : Fin 40) : s.OnlyEntry i (s.enterRetired i) := by
  unfold State.enterRetired
  split
  · exact ⟨_, rfl⟩
  · exact .refl s

theorem State.checkRetired_onlyEntry (s : State) (i : Fin 40) : s.OnlyEntry i (s.checkRetired i) := by
  unfold State.checkRetired
  split
  · split
    · exact s.enterRetired_onlyEntry i
    · exact .refl s
  · exact .refl s

theorem State.loseSlot_onlyEntry (s : State) (i : Fin 40) (k : Fin 16) (b : Bool) : s.OnlyEntry i (s.loseSlot i k b) :=
  ((s.modRecord_onlyEntry i _).trans (State.checkRetired_onlyEntry _ i)).trans (State.checkCurrency_onlyEntry _ i)

end

theorem State.ownedSlots_of_slots {s t : State} (h : t.slots = s.slots) (i : Fin 40) : t.ownedSlots i = s.ownedSlots i := by
  simp only [State.ownedSlots, State.slot, h]

theorem State.isFocus_of_focus {s t : State} (h : t.table.focus = s.table.focus) (i : Fin 40) : t.isFocus i = s.isFocus i := by
  simp only [State.isFocus, h]

/-! ### The check for RETIRED -/

section
variable {s : State} {i : Fin 40} {r : Record}

theorem State.checkRetired_retires (h : s.entry i = .used r) (hs : r.state = .retiring) (ho : s.ownedSlots i = []) :
    s.checkRetired i = s.setEntry i (.retired r.lastTag r.retiredMarks) := by
  unfold State.checkRetired State.enterRetired
  simp [(State.record?_eq_some s).2 h, hs, ho]

theorem State.checkRetired_stays (h : s.entry i = .used r) (hn : r.state ≠ .retiring ∨ s.ownedSlots i ≠ []) :
    s.checkRetired i = s := by
  unfold State.checkRetired
  rw [(State.record?_eq_some s).2 h]
  refine if_neg fun ⟨hs, ho⟩ => ?_
  rcases hn with hn | hn
  · exact hn hs
  · exact hn ho

/-- R55: the check of a pending buffer leaves the record, or makes the buffer current. -/
theorem State.checkCurrency_cases (h : s.entry i = .used r) : s.checkCurrency i = s ∨
    ∃ b, r.pending = some b ∧ r.state ≠ .retiring ∧ s.checkCurrency i = s.setEntry i (.used (r.makeCurrent b)) := by
  cases hp : r.pending with
  | none => exact .inl (State.checkCurrency_idle h (.inl hp))
  | some b =>
    by_cases hs : r.state = .retiring
    · exact .inl (State.checkCurrency_idle h (.inr hs))
    · cases hk : s.mayBecomeCurrent i r with
      | false => exact .inl (State.checkCurrency_held h hp hk)
      | true => exact .inr ⟨b, rfl, hs, State.checkCurrency_makes h hp hs hk⟩

end

/-! ### The steps of a retirement -/

/-- R120: a slot claimed for the record is FREE after its job's cancellation. -/
def LayerSlot.freeClaim (i : Fin 40) : LayerSlot → LayerSlot
  | .claimed o st => if o.index = i then .free else .claimed o st
  | x => x

/-- R65 step 6: a slot with a removal staged, where the record has it LIVE. -/
def LayerSlot.stageRemoval (i : Fin 40) : LayerSlot → LayerSlot
  | .live o c (some (.removal d)) => .live o c (some (.removal d))
  | .live o c st => if o.index = i then .live o c (some (.removal false)) else .live o c st
  | x => x

/-- R65 steps 2 to 4, on the record. -/
def Record.withdraw (r : Record) : Record := { r with variants := [], moveTo := none, resPending := false, wanted := none }

/-- R65 step 5: the record is RETIRING. -/
def Record.beginRetiring (r : Record) : Record := { r with state := .retiring }

section
variable {s : State} {i : Fin 40}

theorem State.entry_freeOwnClaims (j : Fin 40) : (s.freeOwnClaims i).entry j = s.entry j := by
  rw [State.entry, State.freeOwnClaims_table, State.entry]

theorem State.entry_dropJob (j : Fin 40) : (s.dropJob i).entry j = s.entry j := rfl

theorem State.entry_stageRemovals (j : Fin 40) : (s.stageRemovals i).entry j = s.entry j := by
  rw [State.entry, State.stageRemovals_table, State.entry]

theorem State.slot_freeOwnClaims (k : Fin 16) : (s.freeOwnClaims i).slot k = (s.slot k).freeClaim i := by
  simp only [State.slot, State.freeOwnClaims, Fin.getElem_fin, Vector.getElem_ofFn]
  cases s.slots[k.val] <;> simp [LayerSlot.freeClaim]

theorem State.slot_stageRemovals (k : Fin 16) : (s.stageRemovals i).slot k = (s.slot k).stageRemoval i := by
  simp only [State.slot, State.stageRemovals, Fin.getElem_fin, Vector.getElem_ofFn]
  rcases s.slots[k.val] with _ | ⟨o, st⟩ | ⟨o, c, _ | ⟨d, due⟩ | due⟩ <;> simp [LayerSlot.stageRemoval]

theorem State.withdrawRecord_slots : (s.withdrawRecord i).slots = s.slots := by
  unfold State.withdrawRecord
  split <;> exact State.modRecord_slots ..

theorem State.withdrawRecord_queue : (s.withdrawRecord i).queue = s.queue := by
  unfold State.withdrawRecord
  split <;> exact State.modRecord_queue ..

theorem State.withdrawRecord_focus :
    (s.withdrawRecord i).table.focus = if s.isFocus i then none else s.table.focus := by
  simp only [State.withdrawRecord, State.modRecord_focus]
  split <;> rfl

theorem State.withdrawRecord_isFocus : (s.withdrawRecord i).isFocus i = false := by
  rw [State.isFocus, State.withdrawRecord_focus]
  cases h : s.isFocus i with
  | true => rfl
  | false => exact h

theorem State.job?_dropJob : (s.dropJob i).job? i = none :=
  List.find?_eq_none.2 fun j hj => by simpa using (List.mem_filter.1 hj).2

end

/-- R65 steps 1 to 5: the state of an event with the record withdrawn and its job cancelled. -/
def Ev.withdrawn (e : Ev) (i : Fin 40) : State := ((e.mod fun s => s.withdrawRecord i).cancelJob i).s

/-- R65: the rest of a retirement: removals are staged, and the record is RETIRING or RETIRED. -/
theorem Ev.retire_s (e : Ev) (i : Fin 40) :
    (e.retire i).s = (((e.withdrawn i).stageRemovals i).modRecord i Record.beginRetiring).checkRetired i := rfl

section
variable {e : Ev} {i : Fin 40} {r : Record}

theorem Ev.withdrawn_idle (h : e.s.job? i = none) : e.withdrawn i = e.s.withdrawRecord i := by
  have job : (e.mod fun s => s.withdrawRecord i).s.job? i = none := by
    rw [← h]
    exact State.job?_of_queue State.withdrawRecord_queue
  rw [Ev.withdrawn, Ev.cancelJob, job]
  rfl

theorem Ev.withdrawn_job {j : Job} (h : e.s.job? i = some j) :
    e.withdrawn i = (((e.s.withdrawRecord i).freeOwnClaims i).checkCurrency i).dropJob i := by
  have job : (e.mod fun s => s.withdrawRecord i).s.job? i = some j := by
    rw [← h]
    exact State.job?_of_queue State.withdrawRecord_queue
  rw [Ev.withdrawn, Ev.cancelJob, job]
  rfl

theorem Ev.withdrawn_job? : (e.withdrawn i).job? i = none := by
  cases h : e.s.job? i with
  | none =>
    rw [Ev.withdrawn_idle h, ← h]
    exact State.job?_of_queue State.withdrawRecord_queue
  | some j =>
    rw [Ev.withdrawn_job h]
    exact State.job?_dropJob

theorem Ev.withdrawn_isFocus : (e.withdrawn i).isFocus i = false := by
  cases h : e.s.job? i with
  | none =>
    rw [Ev.withdrawn_idle h]
    exact State.withdrawRecord_isFocus
  | some j =>
    have focus : (e.withdrawn i).table.focus = (e.s.withdrawRecord i).table.focus := by
      rw [Ev.withdrawn_job h, State.dropJob_table, (State.checkCurrency_onlyEntry _ i).focus, State.freeOwnClaims_table]
    exact (State.isFocus_of_focus focus i).trans State.withdrawRecord_isFocus

theorem Ev.withdrawn_slot (k : Fin 16) :
    (e.withdrawn i).slot k = if (e.s.job? i).isSome then (e.s.slot k).freeClaim i else e.s.slot k := by
  have same : (e.s.withdrawRecord i).slot k = e.s.slot k := congrArg (fun v => v[k]) State.withdrawRecord_slots
  cases h : e.s.job? i with
  | none =>
    rw [Ev.withdrawn_idle h]
    exact same
  | some j =>
    have slots : (e.withdrawn i).slots = ((e.s.withdrawRecord i).freeOwnClaims i).slots := by
      rw [Ev.withdrawn_job h, State.dropJob_slots, State.checkCurrency_slots]
    have freed : (e.withdrawn i).slot k = ((e.s.withdrawRecord i).freeOwnClaims i).slot k := congrArg (fun v => v[k]) slots
    rw [freed, State.slot_freeOwnClaims, same]
    rfl

theorem Ev.withdrawn_entry_ne {j : Fin 40} (hj : j ≠ i) : (e.withdrawn i).entry j = e.s.entry j := by
  have same : (e.s.withdrawRecord i).entry j = e.s.entry j := by rw [State.withdrawRecord_entry, if_neg hj]
  cases h : e.s.job? i with
  | none =>
    rw [Ev.withdrawn_idle h]
    exact same
  | some _ =>
    rw [Ev.withdrawn_job h, State.entry_dropJob, (State.checkCurrency_onlyEntry _ i).entry hj, State.entry_freeOwnClaims,
      same]

/-- R65, R120, R55: the record withdrawn; a pending buffer may have become current at the cancellation of its job. -/
theorem Ev.withdrawn_entry (h : e.s.entry i = .used r) : ∃ r', (e.withdrawn i).entry i = .used r' ∧ (r' = r.withdraw ∨
    ∃ b, r.pending = some b ∧ r.state ≠ .retiring ∧ e.s.job? i ≠ none ∧ r' = r.withdraw.makeCurrent b) := by
  have start : (e.s.withdrawRecord i).entry i = .used r.withdraw := by
    rw [State.withdrawRecord_entry, if_pos rfl, h]
    rfl
  cases hj : e.s.job? i with
  | none =>
    rw [Ev.withdrawn_idle hj]
    exact ⟨_, start, .inl rfl⟩
  | some j =>
    have freed : ((e.s.withdrawRecord i).freeOwnClaims i).entry i = .used r.withdraw := by
      rw [State.entry_freeOwnClaims, start]
    have dropped : (e.withdrawn i).entry i = (((e.s.withdrawRecord i).freeOwnClaims i).checkCurrency i).entry i := by
      rw [Ev.withdrawn_job hj, State.entry_dropJob]
    rcases State.checkCurrency_cases freed with held | ⟨b, hb, hs, made⟩
    · exact ⟨_, by rw [dropped, held, freed], .inl rfl⟩
    · exact ⟨_, by rw [dropped, made, State.entry_setEntry_same], .inr ⟨b, hb, hs, nofun, rfl⟩⟩

/-- R65, R66: the record RETIRING, or RETIRED where it owns no slot. -/
theorem Ev.retire_entry (h : e.s.entry i = .used r) : ∃ r', (r' = r.withdraw.beginRetiring ∨
      ∃ b, r.pending = some b ∧ r.state ≠ .retiring ∧ e.s.job? i ≠ none ∧ r' = (r.withdraw.makeCurrent b).beginRetiring) ∧
    ((e.retire i).s.ownedSlots i = [] → (e.retire i).s.entry i = .retired r'.lastTag r'.retiredMarks) ∧
    ((e.retire i).s.ownedSlots i ≠ [] → (e.retire i).s.entry i = .used r') := by
  obtain ⟨r', hr', cases⟩ := Ev.withdrawn_entry h
  have staged : ((e.withdrawn i).stageRemovals i).entry i = .used r' := by
    rw [State.entry_stageRemovals, hr']
  have retiring : (((e.withdrawn i).stageRemovals i).modRecord i Record.beginRetiring).entry i = .used r'.beginRetiring := by
    rw [State.modRecord_used staged, State.entry_setEntry_same]
  have owned : (e.retire i).s.ownedSlots i =
      (((e.withdrawn i).stageRemovals i).modRecord i Record.beginRetiring).ownedSlots i :=
    State.ownedSlots_of_slots (State.checkRetired_slots ..) i
  refine ⟨r'.beginRetiring, ?_, fun ho => ?_, fun ho => ?_⟩
  · rcases cases with rfl | ⟨b, hb, hs, hj, rfl⟩
    · exact .inl rfl
    · exact .inr ⟨b, hb, hs, hj, rfl⟩
  · rw [Ev.retire_s, State.checkRetired_retires retiring rfl (owned ▸ ho), State.entry_setEntry_same]
  · rw [Ev.retire_s, State.checkRetired_stays retiring (.inr (owned ▸ ho)), retiring]

theorem Ev.retire_onlyEntry (e : Ev) (i : Fin 40) : State.OnlyEntry i ((e.withdrawn i).stageRemovals i) (e.retire i).s :=
  (State.modRecord_onlyEntry _ i _).trans (State.checkRetired_onlyEntry _ i)

theorem Ev.retire_slot (k : Fin 16) : (e.retire i).s.slot k =
    (if (e.s.job? i).isSome then (e.s.slot k).freeClaim i else e.s.slot k).stageRemoval i := by
  have slots : (e.retire i).s.slot k = ((e.withdrawn i).stageRemovals i).slot k :=
    congrArg (fun v => v[k]) (e.retire_onlyEntry i).slots
  rw [slots, State.slot_stageRemovals, Ev.withdrawn_slot]

end

/-! ### RETIRE_OWNER -/

section
variable {s : State} {f : HandleField} {owner : Half}

/-- R67: two ascending lists of the same records are one list. -/
theorem State.ownedRecords_eq {l : List (Fin 40)}
    (hl : ∀ i, i ∈ l ↔ ∃ r, s.entry i = .used r ∧ r.owner = owner ∧ r.state ≠ .retiring) (asc : l.Pairwise (· < ·)) :
    s.ownedRecords owner = l := by
  refine List.Pairwise.eq_of_mem_iff ((finRange_pairwise_lt 40).filter _) asc fun i => ?_
  rw [hl i, State.ownedRecords, List.mem_filter, Option.any_eq_true]
  simp [State.record?_eq_some, allRecords]

theorem State.handed_ownedRecords (c : Instr) : (s.handed c).ownedRecords owner = s.ownedRecords owner := by
  simp only [State.ownedRecords, State.handed_record?]

theorem ownRetireSurface_error {u : State} {st : Status} (h : u.liveRecord f = .error st) :
    ownRetireSurface f u = refuse u st := by
  simp only [ownRetireSurface, h]

theorem retireSurface_answers (ht : s.turn (.retireSurface f)) :
    (s.checkHandle f = none → Answers (.retireSurface f) s (s.answered .badHandle [])) ∧
    (∀ i, s.checkHandle f = some i → (∀ r, s.entry i = .used r → r.state = .retiring) →
      Answers (.retireSurface f) s (s.answered .retiring [])) ∧
    (∀ i r e, s.checkHandle f = some i → s.entry i = .used r → r.state ≠ .retiring →
      e = (Ev.start (s.handed (.retireSurface f))).retire i →
      e.s.EngineFrame e.done ∧
        Answers (.retireSurface f) s (e.done.answered (if e.s.isRetiring i then .accepted else .ok) [])) := by
  refine ⟨fun h => answers_badHandle ht rfl h fun _ => ownRetireSurface_error,
    fun i h hr => answers_retiring ht rfl h hr fun _ => ownRetireSurface_error, fun i r e h he hs hev => ⟨e.done_frame, ?_⟩⟩
  have live := s.handed_liveRecord_ok (.retireSurface f) h he hs
  have own : ownRetireSurface f (s.handed (.retireSurface f)) = (e.done, doneReply (e.s.isRetiring i) []) := by
    rw [hev, ownRetireSurface, live]
  exact answers_of_owner ht rfl own

theorem retireOwner_answers (ht : s.turn (.retireOwner owner)) {l : List (Fin 40)} {e : Ev}
    (hl : s.ownedRecords owner = l) (he : e = l.foldl Ev.retire (Ev.start (s.handed (.retireOwner owner)))) :
    Answers (.retireOwner owner) s (e.done.answered (if l.any e.s.isRetiring then .accepted else .ok) [byteOf l.length]) := by
  have own : ownRetireOwner owner (s.handed (.retireOwner owner)) =
      (e.done, doneReply (l.any fun i => e.s.isRetiring i) [byteOf l.length]) := by
    rw [ownRetireOwner, State.handed_ownedRecords, hl, he]
  exact answers_of_owner ht rfl own

end

/-! ### The buffer a retired record names last -/

section
variable {r : Record} {b : Buffer}

theorem Record.latest_makeCurrent (r : Record) (b : Buffer) : (r.makeCurrent b).latest = some b := by
  rw [Record.makeCurrent_eq]
  rfl

theorem Record.latest_of_pending (h : r.pending = some b) : r.latest = some b := by
  rw [Record.latest, h]
  rfl

/-- R66: what a record with a buffer leaves behind depends on its latest buffer alone. -/
theorem Record.retired_of_latest (h : r.latest = some b) : TableSlot.retired r.lastTag r.retiredMarks =
    .retired (some b.desc.tag) { Marks.empty with released := true, retired := true } := by
  simp [Record.lastTag, Record.retiredMarks, h]

end

/-- Settles O44: a retirement by `Ev.retire_entry` and `Ev.retire_slot`, the check of R66, and the two requests. -/
theorem retirement : Obligations.Retirement := by
  refine ⟨fun e i r latest gone h hlatest hgone => ?_, fun s f ht => retireSurface_answers ht,
    fun s owner l e ht hl asc he => ⟨e.done_frame, retireOwner_answers ht (State.ownedRecords_eq hl asc) he⟩⟩
  have latestOf (x : Record) : x.latest = (match x.pending with
      | some b => some b
      | none => x.current) := by
    unfold Record.latest
    cases x.pending <;> rfl
  have hl : latest = r.latest := hlatest.trans (latestOf r).symm
  have left : gone = .retired r.lastTag r.retiredMarks := by
    rw [hgone, hl]
    rfl
  obtain ⟨r', hr', retired, retiring⟩ := Ev.retire_entry h
  have only := e.retire_onlyEntry i
  refine ⟨?job, ?focus, fun k => ?slot, fun ho => ?gone, fun ho => ⟨r', retiring ho, ?same, fun hn => ?kept, ?latest⟩,
    fun j hj => by rw [only.entry hj, State.entry_stageRemovals, Ev.withdrawn_entry_ne hj],
    fun hs ho => left ▸ State.checkRetired_retires h hs ho, fun hn => State.checkRetired_stays h hn⟩
  case job =>
    have queue : (e.retire i).s.queue = (e.withdrawn i).queue := by rw [only.queue, State.stageRemovals_queue]
    rw [State.job?_of_queue queue, Ev.withdrawn_job?]
  case focus =>
    have focus : (e.retire i).s.table.focus = (e.withdrawn i).table.focus := by
      rw [only.focus, State.stageRemovals_table]
    exact (State.isFocus_of_focus focus i).trans Ev.withdrawn_isFocus
  case slot =>
    rw [Ev.retire_slot]
    generalize (e.s.job? i).isSome = cancelled
    rcases e.s.slot k with _ | ⟨o, st⟩ | ⟨o, c, _ | ⟨d, due⟩ | due⟩
    · cases cancelled <;> rfl
    all_goals
      cases cancelled <;> by_cases hi : o.index = i <;> simp [LayerSlot.freeClaim, LayerSlot.stageRemoval, hi]
  case gone =>
    rw [retired ho, left]
    rcases hr' with rfl | ⟨b, hb, -, -, rfl⟩
    · rfl
    · have new : (r.withdraw.makeCurrent b).beginRetiring.latest = some b := Record.latest_makeCurrent ..
      rw [Record.retired_of_latest new, Record.retired_of_latest (Record.latest_of_pending hb)]
  case same =>
    rcases hr' with rfl | ⟨b, -, -, -, rfl⟩
    · rfl
    · rw [Record.makeCurrent_eq]
      rfl
  case kept =>
    rcases hr' with rfl | ⟨b, hb, hs, hj, rfl⟩
    · rfl
    · rcases hn with hn | hn | hn
      · exact absurd hn hj
      · cases hn.symm.trans hb
      · exact absurd hn hs
  case latest =>
    refine (latestOf r').symm.trans ?_
    rw [hl]
    rcases hr' with rfl | ⟨b, hb, -, -, rfl⟩
    · rfl
    · exact (Record.latest_makeCurrent r.withdraw b).trans (Record.latest_of_pending hb).symm

end Sys2Proof.Machine
end

section
/-! SUPPORT. The order of a panel's stack (R140), the slots a lending setting gives (R142), what a grant does to the job and to the
slots (R110 to R113), and the end of an event (R109, R114, R117, R166). -/

namespace Sys2Proof.Machine

/-! ### The stack -/

section
variable {key : Fin 16 → Nat}

theorem insertStack_perm (key : Fin 16 → Nat) (k : Fin 16) (l : List (Fin 16)) : (insertStack key k l).Perm (k :: l) := by
  induction l with
  | nil => exact .refl _
  | cons m ms ih =>
    unfold insertStack
    split
    · exact .refl _
    · exact (ih.cons m).trans (.swap k m ms)

theorem insertStack_ordered (k : Fin 16) {l : List (Fin 16)} (h : l.Pairwise fun a b => key a ≤ key b) :
    (insertStack key k l).Pairwise fun a b => key a ≤ key b := by
  induction l with
  | nil => exact List.pairwise_singleton ..
  | cons m ms ih =>
    obtain ⟨hm, hms⟩ := List.pairwise_cons.1 h
    unfold insertStack
    split
    · next hlt =>
      refine List.pairwise_cons.2 ⟨fun b hb => ?_, h⟩
      rcases List.mem_cons.1 hb with rfl | hb
      · exact hlt.le
      · exact hlt.le.trans (hm b hb)
    · next hge =>
      refine List.pairwise_cons.2 ⟨fun b hb => ?_, ih hms⟩
      rcases List.mem_cons.1 ((insertStack_perm key k ms).mem_iff.1 hb) with rfl | hb
      · exact not_lt.1 hge
      · exact hm b hb

theorem foldl_insertStack (key : Fin 16 → Nat) (l acc : List (Fin 16)) (h : acc.Pairwise fun a b => key a ≤ key b) :
    (l.foldl (fun st k => insertStack key k st) acc).Perm (l ++ acc) ∧
      (l.foldl (fun st k => insertStack key k st) acc).Pairwise fun a b => key a ≤ key b := by
  induction l generalizing acc with
  | nil => exact ⟨.refl _, h⟩
  | cons k ks ih =>
    obtain ⟨perm, ordered⟩ := ih _ (insertStack_ordered k h)
    exact ⟨perm.trans (((insertStack_perm key k acc).append_left ks).trans List.perm_middle), ordered⟩

/-- R140: a greater key is a focus mark, a greater z rank, or a record index not below. -/
theorem stackKey_le {a b : SlotConfig} (h : stackKey a ≤ stackKey b) : (a.focus = false ∧ b.focus = true) ∨
    a.focus = b.focus ∧ (a.z.toNat < b.z.toNat ∨ a.z = b.z ∧ a.owner.index ≤ b.owner.index) := by
  have az := a.z.isLt
  have bz := b.z.isLt
  have ai := a.owner.index.isLt
  have bi := b.owner.index.isLt
  rw [BitVec.toNat_eq, Fin.le_def]
  unfold stackKey at h
  cases ha : a.focus <;> cases hb : b.focus <;> simp [ha, hb] at h ⊢ <;> omega

end

section
variable {s : State} {p : PanelId}

theorem State.stackOf_perm (s : State) (p : PanelId) :
    (s.stackOf p).Perm (allSlots.filter fun k => s.uses p k && (s.slot k).isLive) := by
  simpa [State.stackOf] using (foldl_insertStack (fun m => ((s.slot m).cfg?).elim 0 stackKey)
    (allSlots.filter fun k => s.uses p k && (s.slot k).isLive) [] .nil).1

theorem State.stackOf_nodup (s : State) (p : PanelId) : (s.stackOf p).Nodup :=
  (s.stackOf_perm p).nodup_iff.2 ((List.nodup_finRange 16).filter _)

theorem State.mem_stackOf {k : Fin 16} : k ∈ s.stackOf p ↔ s.user k = p ∧ (s.slot k).isLive = true := by
  rw [(s.stackOf_perm p).mem_iff]
  simp [allSlots, State.uses_iff]

theorem State.stackOf_ordered (s : State) (p : PanelId) : (s.stackOf p).Pairwise fun k m =>
    ((s.slot k).cfg?).elim 0 stackKey ≤ ((s.slot m).cfg?).elim 0 stackKey :=
  (foldl_insertStack _ _ [] .nil).2

end

/-! ### Lending -/

theorem usingPanel_p0_iff {lender : PanelId} {n : Nat} {k : Fin 16} (hn : n ≤ 8) : usingPanel lender n k = .p0 ↔
    k.val < 8 ∧ (lender = .p1 ∨ k.val + n < 8) ∨ 8 ≤ k.val ∧ lender = .p1 ∧ 16 ≤ k.val + n := by
  have hk := k.isLt
  unfold usingPanel
  by_cases h8 : k.val < 8
  · by_cases hr : 8 - n ≤ k.val <;> cases lender <;> simp [h8, hr] <;> omega
  · by_cases hr : 16 - n ≤ k.val <;> cases lender <;> simp [h8, hr] <;> omega

/-- R142: the lending settings give each panel its usable count. -/
theorem countP_usingPanel (lender p : PanelId) {n : Nat} (hn : n = 0 ∨ n = 2 ∨ n = 4 ∨ n = 6) :
    (allSlots.countP fun k => usingPanel lender n k = p) = if lender = p then 8 - n else 8 + n := by
  cases lender <;> cases p <;> rcases hn with rfl | rfl | rfl | rfl <;> decide

/-! ### Staging the actions of a step -/

section
variable {s t : State} {i : Fin 40} {pieces : List TargetPiece}

/-- R113: what an action of a step stages on its slot. -/
def State.staging (s : State) (i : Fin 40) (pieces : List TargetPiece) (a : SlotAction) : Option Staged :=
  match a.kind with
  | .removal => some (.removal false)
  | _ => (s.record? i).bind fun r =>
      (pieces.find? fun t => t.slot == some a.slot).map fun t => .full (s.configFor i r t) false

theorem State.stageAction_eq (s : State) (i : Fin 40) (pieces : List TargetPiece) (a : SlotAction) :
    s.stageAction i pieces a = (s.staging i pieces a).elim s fun x => s.stageAt a.slot x := by
  unfold State.stageAction State.staging
  cases a.kind with
  | removal => rfl
  | attach | restage =>
    cases s.record? i with
    | none => rfl
    | some r => cases pieces.find? fun t => t.slot == some a.slot <;> rfl

theorem State.staging_of_table (h : t.table = s.table) (a : SlotAction) : t.staging i pieces a = s.staging i pieces a := by
  simp only [State.staging, State.record?, State.entry, State.configFor, State.handle, State.gen, State.isFocus, h]

theorem State.slot_stageAction (a : SlotAction) (k : Fin 16) : (s.stageAction i pieces a).slot k =
    if k = a.slot then (s.staging i pieces a).elim (s.slot k) fun x => (s.slot k).stage x else s.slot k := by
  rw [State.stageAction_eq]
  cases s.staging i pieces a with
  | none => simp
  | some x =>
    refine (s.slot_setSlot a.slot k _).trans ?_
    split
    · next h => rw [h]; rfl
    · rfl

theorem State.slot_stageActions_ne {l : List SlotAction} {k : Fin 16} (h : ∀ a ∈ l, a.slot ≠ k) :
    (l.foldl (fun s a => s.stageAction i pieces a) s).slot k = s.slot k := by
  induction l generalizing s with
  | nil => rfl
  | cons a as ih =>
    rw [List.foldl_cons, ih fun b hb => h b (List.mem_cons_of_mem _ hb), State.slot_stageAction,
      if_neg (Ne.symm (h a List.mem_cons_self))]

theorem State.slot_stageActions_mem {l : List SlotAction} (hl : (l.map SlotAction.slot).Nodup) {a : SlotAction} (ha : a ∈ l) :
    (l.foldl (fun s a => s.stageAction i pieces a) s).slot a.slot =
      (s.staging i pieces a).elim (s.slot a.slot) fun x => (s.slot a.slot).stage x := by
  induction l generalizing s with
  | nil => cases ha
  | cons b bs ih =>
    rw [List.map_cons, List.nodup_cons] at hl
    obtain ⟨hb, hbs⟩ := hl
    rw [List.foldl_cons]
    rcases List.mem_cons.1 ha with rfl | ha
    · rw [State.slot_stageActions_ne fun c hc h => hb (List.mem_map.2 ⟨c, hc, h⟩), State.slot_stageAction, if_pos rfl]
    · have apart : a.slot ≠ b.slot := fun h => hb (h ▸ List.mem_map.2 ⟨a, ha, rfl⟩)
      rw [ih hbs ha, State.slot_stageAction, if_neg apart, State.staging_of_table (State.stageAction_table ..)]

theorem State.stageActions_slots_congr (l : List SlotAction) (ht : t.table = s.table) (hs : t.slots = s.slots) :
    (l.foldl (fun s a => s.stageAction i pieces a) t).slots = (l.foldl (fun s a => s.stageAction i pieces a) s).slots := by
  induction l generalizing s t with
  | nil => exact hs
  | cons a as ih =>
    refine ih (by rw [State.stageAction_table, State.stageAction_table, ht]) ?_
    simp only [State.stageAction_eq, State.staging_of_table ht]
    cases s.staging i pieces a with
    | none => exact hs
    | some x => simp only [Option.elim_some, State.stageAt, State.setSlot, State.slot, hs]

theorem State.stageActions_queue (l : List SlotAction) :
    (l.foldl (fun s a => s.stageAction i pieces a) s).queue = s.queue := by
  induction l generalizing s with
  | nil => rfl
  | cons a as ih => rw [List.foldl_cons, ih, State.stageAction_queue]

end

/-! ### The steps of a grant -/

section
variable {s : State} {i : Fin 40} {l pieces : List TargetPiece}

theorem State.attachStep_forall₂ (h : ∀ t ∈ pieces, t.slot ≠ none) : List.Forall₂ (fun t a => t.slot = some a.slot ∧
    a.kind = if s.slot a.slot = .free then .attach else .restage) pieces (s.attachStep pieces) := by
  induction pieces with
  | nil => exact .nil
  | cons t ts ih =>
    obtain ⟨k, hk⟩ := Option.ne_none_iff_exists'.1 (h t List.mem_cons_self)
    have step : s.attachStep (t :: ts) = ⟨if (s.slot k).isFree then .attach else .restage, k⟩ :: s.attachStep ts := by
      simp [State.attachStep, hk]
    rw [step]
    refine .cons ⟨hk, ?_⟩ (ih fun u hu => h u (List.mem_cons_of_mem _ hu))
    simp only [LayerSlot.isFree_iff]

theorem State.claim_queue (s : State) (i : Fin 40) (l : List TargetPiece) : (s.claim i l).queue = s.queue := by
  induction l generalizing s with
  | nil => rfl
  | cons t ts ih =>
    unfold State.claim
    split
    · split
      · exact ih _
      · exact ih _
    · exact ih _

theorem State.mem_detachStep {a : SlotAction} : a ∈ s.detachStep i pieces ↔ a.kind = .removal ∧
    (s.slot a.slot).ownedBy i = true ∧ ∀ t ∈ pieces, t.panel ≠ s.user a.slot := by
  unfold State.detachStep
  simp only [List.mem_map, List.mem_filter, State.mem_ownedSlots, Bool.not_eq_true', List.any_eq_false, State.uses_iff]
  constructor
  · rintro ⟨k, ⟨ho, hp⟩, rfl⟩
    exact ⟨rfl, ho, fun t ht h => hp t ht h.symm⟩
  · rintro ⟨hk, ho, hp⟩
    exact ⟨a.slot, ⟨ho, fun t ht h => hp t ht h.symm⟩, by rw [← hk]⟩

theorem State.detachStep_pairwise (s : State) (i : Fin 40) (pieces : List TargetPiece) :
    (s.detachStep i pieces).Pairwise fun a b => a.slot < b.slot :=
  List.pairwise_map.2 (((finRange_pairwise_lt 16).filter _).filter _)

theorem State.Grants.panel {t t' : TargetPiece} (h : s.Grants i t t') : t'.panel = t.panel := by
  obtain ⟨k, rfl, -⟩ := h
  rfl

theorem State.Grants.slot_ne_none {t t' : TargetPiece} (h : s.Grants i t t') : t'.slot ≠ none := by
  obtain ⟨k, rfl, -⟩ := h
  exact nofun

theorem forall₂_map_eq {α β γ : Type} {R : α → β → Prop} {f : α → γ} {g : β → γ} (hR : ∀ a b, R a b → f a = g b) {l : List α}
    {l' : List β} (h : List.Forall₂ R l l') : l.map f = l'.map g := by
  induction h with
  | nil => rfl
  | cons h _ ih => rw [List.map_cons, List.map_cons, hR _ _ h, ih]

theorem State.grants_panels (h : List.Forall₂ (s.Grants i) l pieces) :
    pieces.map TargetPiece.panel = l.map TargetPiece.panel :=
  (forall₂_map_eq (f := TargetPiece.panel) (g := TargetPiece.panel) (fun _ _ hg => (State.Grants.panel hg).symm) h).symm

variable (h : List.Forall₂ (s.Grants i) l pieces) (hl : (l.map TargetPiece.panel).Nodup)
include h hl

/-- R108: the pieces of a grant are on distinct panels, so they have distinct slots. -/
theorem State.grants_slot_inj {t u : TargetPiece} (ht : t ∈ pieces) (hu : u ∈ pieces) (he : t.slot = u.slot) : t = u := by
  have panels : (pieces.map TargetPiece.panel).Nodup := by rwa [State.grants_panels h]
  obtain ⟨a, -, ha⟩ := forall₂_of_mem_right h ht
  obtain ⟨b, -, hb⟩ := forall₂_of_mem_right h hu
  obtain ⟨k, hk⟩ := Option.ne_none_iff_exists'.1 ha.slot_ne_none
  exact List.inj_on_of_nodup_map panels ht hu ((ha.slot hk).1.symm.trans (hb.slot (he ▸ hk)).1)

theorem State.attachStep_nodup : ((s.attachStep pieces).map SlotAction.slot).Nodup := by
  have slots : (pieces.map TargetPiece.slot).Nodup := by
    refine List.Nodup.map_on (fun t ht u hu => State.grants_slot_inj h hl ht hu) ?_
    have panels : (pieces.map TargetPiece.panel).Nodup := by rwa [State.grants_panels h]
    exact .of_map _ panels
  have same : pieces.map TargetPiece.slot = ((s.attachStep pieces).map SlotAction.slot).map some := by
    rw [List.map_map]
    refine forall₂_map_eq (fun t a ha => ha.1) (State.attachStep_forall₂ fun t ht => ?_)
    obtain ⟨a, -, ha⟩ := forall₂_of_mem_right h ht
    exact ha.slot_ne_none
  exact .of_map some (same ▸ slots)

theorem State.grants_find? {t : TargetPiece} (ht : t ∈ pieces) {k : Fin 16} (hk : t.slot = some k) :
    (pieces.find? fun u => u.slot == some k) = some t := by
  cases hf : pieces.find? fun u => u.slot == some k with
  | none => exact absurd hk (by simpa using List.find?_eq_none.1 hf t ht)
  | some u =>
    have hu : u.slot = some k := by simpa using List.find?_some hf
    rw [State.grants_slot_inj h hl (List.mem_of_find?_eq_some hf) ht (hu.trans hk.symm)]

end

/-! ### A grant -/

/-- R110, R111, R112: the job with its slots and its two steps, in STEP_1. -/
def Job.granted (j : Job) (pieces : List TargetPiece) (steps : List SlotAction × List SlotAction) : Job := { j with
  phase := .stepOne, stepOne := steps.1, stepTwo := steps.2, outstanding := steps.1
  target := { j.target with shown := j.target.shown.map fun x => { x with pieces := pieces } } }

section
variable {e : Ev} {i : Fin 40} {j : Job}

theorem Ev.grantOne_waits (h : e.s.job? i = some j) (hn : j.phase ≠ .slotWait ∨ e.s.assign i j.target.pieces = none) :
    e.grantOne i = e := by
  unfold Ev.grantOne
  rw [h]
  by_cases hp : j.phase = .slotWait
  · simp only [if_pos hp, hn.resolve_left (not_not.2 hp)]
  · exact if_neg hp

variable {pieces : List TargetPiece} {steps : List SlotAction × List SlotAction} (h : e.s.job? i = some j)
  (hp : j.phase = .slotWait) (ha : e.s.assign i j.target.pieces = some pieces)
  (hs : steps = stepsFor j.target.mode (e.s.attachStep pieces) (e.s.detachStep i pieces))
include h hp ha hs

theorem Ev.grantOne_slot (k : Fin 16) : (e.grantOne i).s.slot k =
    (steps.1.foldl (fun s a => s.stageAction i pieces a) (e.s.claim i pieces)).slot k := by
  subst hs
  simp only [Ev.grantOne, h, if_pos hp, ha]
  exact congrArg (fun v => v[k]) (State.stageActions_slots_congr _ rfl rfl)

theorem Ev.grantOne_job? : (e.grantOne i).s.job? i = some (j.granted pieces steps) := by
  subst hs
  have claimed : (e.s.claim i pieces).job? i = some j := by rw [State.job?_of_queue (State.claim_queue ..), h]
  simp only [Ev.grantOne, h, if_pos hp, ha, Ev.stageStep, Ev.modJob, Ev.mod]
  refine (State.job?_modJob fun _ => by exact rfl).trans ?_
  rw [if_pos rfl, State.job?_of_queue (State.stageActions_queue _)]
  refine (congrArg _ (State.job?_modJob fun _ => by exact rfl)).trans ?_
  rw [if_pos rfl, claimed]
  rfl

end

section
variable {s : State} {i : Fin 40} {r : Record} {l pieces : List TargetPiece}

theorem Record.latest_eq (r : Record) : r.latest = (match r.pending with
    | some b => some b
    | none => r.current) := by
  unfold Record.latest
  cases r.pending <;> rfl

/-- R54: the fetch mode is FILL for a record without a buffer. -/
theorem fetchFor_latest (r : Record) (rotated : Bool) : fetchFor r.latest rotated =
    if r.pending = none ∧ r.current = none then .fill else if rotated then .decrement else .increment := by
  unfold Record.latest fetchFor
  cases r.pending <;> cases r.current <;> rfl

theorem State.mem_attachStep {a : SlotAction} (h : a ∈ s.attachStep pieces) :
    a.kind ≠ .removal ∧ ∃ t ∈ pieces, t.slot = some a.slot := by
  unfold State.attachStep at h
  obtain ⟨t, ht, ha⟩ := List.mem_filterMap.1 h
  obtain ⟨k, hk, rfl⟩ := Option.map_eq_some_iff.1 ha
  refine ⟨?_, t, ht, hk⟩
  cases (s.slot k).isFree <;> exact nofun

theorem State.exists_attach {t : TargetPiece} (ht : t ∈ pieces) {k : Fin 16} (hk : t.slot = some k) :
    ∃ a ∈ s.attachStep pieces, a.slot = k :=
  ⟨_, List.mem_filterMap.2 ⟨t, ht, by rw [hk]; rfl⟩, rfl⟩

/-- R113: what the attach step stages on the slot of a piece. -/
theorem State.staging_attach (h : List.Forall₂ (s.Grants i) l pieces) (hl : (l.map TargetPiece.panel).Nodup)
    (hr : s.entry i = .used r) {t : TargetPiece} (ht : t ∈ pieces) {a : SlotAction} (ha : a.kind ≠ .removal)
    (hk : t.slot = some a.slot) : s.staging i pieces a = some (.full (s.configFor i r t) false) := by
  have found := State.grants_find? h hl ht hk
  unfold State.staging
  rw [(State.record?_eq_some s).2 hr, found]
  cases hkind : a.kind with
  | removal => exact absurd hkind ha
  | attach | restage => rfl

/-- R111: the detach step has no part in the slots that a grant gives. -/
theorem State.detachStep_apart (h : List.Forall₂ (s.Grants i) l pieces) {t : TargetPiece} (ht : t ∈ pieces) {k : Fin 16}
    (hk : t.slot = some k) {a : SlotAction} (ha : a ∈ s.detachStep i pieces) : a.slot ≠ k := by
  rintro rfl
  obtain ⟨u, -, hg⟩ := forall₂_of_mem_right h ht
  exact (State.mem_detachStep.1 ha).2.2 t ht (hg.slot hk).1.symm

theorem State.detachStep_nodup (s : State) (i : Fin 40) (pieces : List TargetPiece) :
    ((s.detachStep i pieces).map SlotAction.slot).Nodup :=
  List.pairwise_map.2 ((s.detachStep_pairwise i pieces).imp fun h => Fin.ne_of_lt h)

theorem State.slot_claim_piece {t : TargetPiece} (ht : t ∈ pieces) {k : Fin 16} (hk : t.slot = some k) :
    (s.claim i pieces).slot k = if s.slot k = .free then .claimed (s.handle i) none else s.slot k := by
  rw [State.slot_claim]
  exact if_congr (and_iff_left ⟨t, ht, hk⟩) rfl rfl

theorem State.slot_claim_other {k : Fin 16} (hk : ∀ t ∈ pieces, t.slot ≠ some k) : (s.claim i pieces).slot k = s.slot k := by
  rw [State.slot_claim, if_neg fun ⟨_, t, ht, h⟩ => hk t ht h]

end

section
variable {e : Ev} {i : Fin 40} {j : Job} {r : Record} {pieces : List TargetPiece} {k : Fin 16}
  (h : e.s.job? i = some j) (hp : j.phase = .slotWait) (ha : e.s.assign i j.target.pieces = some pieces)
include h hp ha

theorem Ev.grantOne_make (hm : j.target.mode = .make) : (e.grantOne i).s.slot k =
    ((e.s.attachStep pieces).foldl (fun s a => s.stageAction i pieces a) (e.s.claim i pieces)).slot k := by
  rw [Ev.grantOne_slot h hp ha rfl, hm]
  rfl

theorem Ev.grantOne_break (hm : j.target.mode = .brk) : (e.grantOne i).s.slot k =
    ((e.s.detachStep i pieces).foldl (fun s a => s.stageAction i pieces a) (e.s.claim i pieces)).slot k := by
  rw [Ev.grantOne_slot h hp ha rfl, hm]
  rfl

/-- R112, R113: MAKE stages the whole configuration on the slot of each piece at once. -/
theorem Ev.grantOne_make_piece (hm : j.target.mode = .make) (hl : (j.target.pieces.map TargetPiece.panel).Nodup)
    (hr : e.s.entry i = .used r) {t : TargetPiece} (ht : t ∈ pieces) (hk : t.slot = some k) : (e.grantOne i).s.slot k =
      ((e.s.claim i pieces).slot k).stage (.full (e.s.configFor i r t) false) := by
  have grants := State.assign_eq_some ha
  obtain ⟨a, hmem, rfl⟩ := State.exists_attach (s := e.s) ht hk
  rw [Ev.grantOne_make h hp ha hm, State.slot_stageActions_mem (State.attachStep_nodup grants hl) hmem,
    State.staging_of_table (State.claim_table ..), State.staging_attach grants hl hr ht (State.mem_attachStep hmem).1 hk]
  rfl

/-- R112: BREAK only claims the slots of the pieces. -/
theorem Ev.grantOne_break_piece (hm : j.target.mode = .brk) {t : TargetPiece} (ht : t ∈ pieces) (hk : t.slot = some k) :
    (e.grantOne i).s.slot k = (e.s.claim i pieces).slot k := by
  rw [Ev.grantOne_break h hp ha hm,
    State.slot_stageActions_ne fun a hmem => State.detachStep_apart (State.assign_eq_some ha) ht hk hmem]

theorem Ev.grantOne_make_other (hm : j.target.mode = .make) (hk : ∀ t ∈ pieces, t.slot ≠ some k) :
    (e.grantOne i).s.slot k = e.s.slot k := by
  rw [Ev.grantOne_make h hp ha hm, State.slot_stageActions_ne fun a hmem hs => ?_, State.slot_claim_other hk]
  obtain ⟨-, t, ht, hslot⟩ := State.mem_attachStep hmem
  exact hk t ht (hs ▸ hslot)

/-- R112, R113: BREAK stages the removals at once. -/
theorem Ev.grantOne_break_other (hm : j.target.mode = .brk) (hk : ∀ t ∈ pieces, t.slot ≠ some k) : (e.grantOne i).s.slot k =
    if (⟨.removal, k⟩ : SlotAction) ∈ e.s.detachStep i pieces then (e.s.slot k).stage (.removal false) else e.s.slot k := by
  rw [Ev.grantOne_break h hp ha hm]
  split
  · next hmem =>
    rw [State.slot_stageActions_mem (State.detachStep_nodup ..) hmem, State.slot_claim_other hk]
    rfl
  · next hmem =>
    rw [State.slot_stageActions_ne fun a ha' hs => hmem ?_, State.slot_claim_other hk]
    have kind := (State.mem_detachStep.1 ha').1
    rw [← hs, ← kind]
    exact ha'

end

/-! ### The end of an event -/

theorem Job.stepDone_eq (j : Job) :
    j.stepDone = (decide (j.phase = .stepOne ∨ j.phase = .stepTwo) && decide (j.outstanding = [])) := by
  unfold Job.stepDone
  cases j.phase <;> cases j.outstanding <;> rfl

theorem Ev.finish_eq (e : Ev) : e.finish = { Ev.settle true 400 e.resolveDue with
    s := { (Ev.settle true 400 e.resolveDue).s with attn := (Ev.settle true 400 e.resolveDue).s.refreshNotice.attn } } := rfl

section
variable {e : Ev} {walks : Bool} {n : Nat}

theorem Ev.settle_step {j : Job} (h : e.s.queue.find? Job.stepDone = some j) :
    Ev.settle walks (n + 1) e = Ev.settle walks n (e.endStep j) := by
  rw [Ev.settle, h]

variable (h : e.s.queue.find? Job.stepDone = none)
include h

theorem Ev.settle_takeUp (hl : e.left ≠ 0) : Ev.settle walks (n + 1) e = Ev.settle walks n e.takeUp := by
  rw [Ev.settle, h]
  exact if_pos hl

theorem Ev.settle_walk (hl : e.left = 0) (hw : walks = true) (hd : e.walk = true) :
    Ev.settle walks (n + 1) e = Ev.settle walks n e.grantWalk := by
  rw [Ev.settle, h]
  exact (if_neg (not_not.2 hl)).trans (if_pos ⟨hw, hd⟩)

theorem Ev.settle_ends (hl : e.left = 0) (hw : walks = false ∨ e.walk = false) : Ev.settle walks (n + 1) e = e := by
  rw [Ev.settle, h]
  refine (if_neg (not_not.2 hl)).trans (if_neg fun ⟨hw', hd⟩ => ?_)
  rcases hw with hw | hw
  · cases hw.symm.trans hw'
  · cases hw.symm.trans hd

end

/-- Settles O59: the stack, the counts of a lending setting, the walk, the end of an event, and one grant. -/
theorem stackAndLending : Obligations.StackAndLending := by
  refine ⟨fun s p => ⟨s.stackOf_nodup p, fun k => State.mem_stackOf, ?stack⟩,
    fun lender p n k hn => ⟨usingPanel_p0_iff (by omega), countP_usingPanel lender p hn⟩, fun e => rfl,
    fun e w n walks ended hended => ?finish, fun e i j own usable hj hown husable => ?grant⟩
  case stack =>
    refine (s.stackOf_ordered p).imp fun {k m} h a b ha hb => stackKey_le ?_
    simpa [ha, hb] using h
  case finish =>
    have done : ended = Job.stepDone := funext fun j => (hended j).trans j.stepDone_eq.symm
    subst done
    refine ⟨fun hw => ?_, rfl, rfl, fun j => Ev.settle_step, fun hn =>
      ⟨Ev.settle_takeUp hn, fun hl => Ev.settle_walk hn hl, fun hl => Ev.settle_ends hn hl⟩⟩
    rw [Ev.finish_eq, State.refreshNotice_attn, ← hw]
  case grant =>
    have hasOwn (p k) : own p k ↔ (e.s.slot k).ownedBy i = true ∧ e.s.user k = p := (hown p k).trans and_comm
    have none_iff : e.s.assign i j.target.pieces = none ↔ ∃ t ∈ j.target.pieces, ∀ k, ¬own t.panel k ∧ ¬usable t.panel k := by
      simp only [State.assign_eq_none_iff, State.ownedOn_eq_none, State.freeOn_eq_none, hasOwn, husable]
      grind
    refine ⟨fun hn => Ev.grantOne_waits hj (hn.imp id none_iff.2), fun hp hall => ?_⟩
    obtain ⟨pieces, ha⟩ : ∃ pieces, e.s.assign i j.target.pieces = some pieces := by
      refine Option.ne_none_iff_exists'.1 fun hn => ?_
      obtain ⟨t, ht, hk⟩ := none_iff.1 hn
      obtain ⟨k, hk'⟩ := hall t ht
      exact hk'.elim (hk k).1 (hk k).2
    have grants := State.assign_eq_some ha
    refine ⟨pieces, e.s.attachStep pieces, e.s.detachStep i pieces, j.granted pieces _, Ev.grantOne_job? hj hp ha rfl, rfl,
      fun hm => ?make, fun hm => ?brk, ?pieces, State.attachStep_forall₂ fun t ht => ?slots, fun a => ?detach,
      e.s.detachStep_pairwise i pieces, fun k r hr hl => ⟨fun t ht hk x hx => ?piece, fun hk => ?other⟩⟩
    case make => rw [hm]; exact ⟨rfl, rfl⟩
    case brk => rw [hm]; exact ⟨rfl, rfl⟩
    case pieces =>
      refine grants.imp fun t t' ⟨k, ht, hk⟩ => ⟨k, ht, ?_⟩
      simp only [hasOwn, husable]
      rcases hk with hk | ⟨hno, hk⟩
      · exact .inl (State.ownedOn_eq_some.1 hk)
      · obtain ⟨hs, ⟨hf, hu⟩, hlow⟩ := State.freeOn_eq_some.1 hk
        exact .inr ⟨State.ownedOn_eq_none.1 hno, ⟨hu, hf, hs⟩, fun m hm hu => hlow m hm ⟨hu.2.1, hu.1⟩⟩
    case slots =>
      obtain ⟨u, -, hg⟩ := forall₂_of_mem_right grants ht
      exact hg.slot_ne_none
    case detach =>
      have panels : (∀ t ∈ pieces, t.panel ≠ e.s.user a.slot) ↔ ∀ t ∈ j.target.pieces, t.panel ≠ e.s.user a.slot := by
        rw [← List.forall_mem_map (f := TargetPiece.panel) (P := fun p => p ≠ e.s.user a.slot), State.grants_panels grants,
          List.forall_mem_map]
      rw [State.mem_detachStep, panels]
    case piece =>
      have config : x = .full (e.s.configFor i r t) false := by
        rw [hx, State.configFor, fetchFor_latest, Record.latest_eq]
        rfl
      have claimed := State.slot_claim_piece (s := e.s) (i := i) ht hk
      constructor
      · intro hm
        rw [Ev.grantOne_make_piece hj hp ha hm hl hr ht hk, claimed, config]
        cases e.s.slot k <;> rfl
      · intro hm
        rw [Ev.grantOne_break_piece hj hp ha hm ht hk, claimed]
        rfl
    case other =>
      cases hm : j.target.mode with
      | make => exact (Ev.grantOne_make_other hj hp ha hm hk).trans (if_neg (by rintro ⟨⟨⟩, -⟩)).symm
      | brk =>
        rw [Ev.grantOne_break_other hj hp ha hm hk]
        by_cases hmem : (⟨.removal, k⟩ : SlotAction) ∈ e.s.detachStep i pieces
        · rw [if_pos hmem, if_pos ⟨rfl, hmem⟩]
          cases e.s.slot k <;> rfl
        · rw [if_neg hmem, if_neg fun h => hmem h.2]

end Sys2Proof.Machine
end

section
/-! SUPPORT. A panel's departure from service: the report of one lost slot (R49, R66, R55, R118), what a list of reports makes of a
record (R155), and the departure whole (R129, R135). -/

namespace Sys2Proof.Machine

/-! ### The report of one lost slot -/

/-- R49, R155: the record with the piece of a lost slot gone. -/
def Record.lose (k : Fin 16) (evicted : Bool) (r : Record) : Record := { r with
  pieces := leavePiece k r.pieces
  state := if r.state = .placed ∧ leavePiece k r.pieces = [] then .parked else r.state
  marks := if evicted ∧ r.state ≠ .retiring then { r.marks with evicted := true } else r.marks }

/-- R129 step 4: what the report of one freed slot does to the state. -/
def State.reportLoss (evict : Bool) (before s : State) (k : Fin 16) : State :=
  match (before.slot k).owner? with
  | none => s
  | some o => (s.loseSlot o.index k (evict && (before.slot k).isLive)).modJob o.index (Job.loseSlot k)

theorem Ev.reportLoss_eq (evict : Bool) (before : State) (e : Ev) (k : Fin 16) :
    Ev.reportLoss evict before e k = { e with s := State.reportLoss evict before e.s k } := by
  unfold Ev.reportLoss State.reportLoss
  cases (before.slot k).owner? <;> rfl

/-- The reports change the state of the event alone. -/
theorem Ev.foldl_reportLoss (evict : Bool) (before : State) (l : List (Fin 16)) (e : Ev) :
    l.foldl (Ev.reportLoss evict before) e = { e with s := l.foldl (State.reportLoss evict before) e.s } := by
  induction l generalizing e with
  | nil => rfl
  | cons k ks ih => rw [List.foldl_cons, Ev.reportLoss_eq, ih, List.foldl_cons]

theorem State.loseSlot_eq (s : State) (i : Fin 40) (k : Fin 16) (b : Bool) :
    s.loseSlot i k b = ((s.modRecord i (Record.lose k b)).checkRetired i).checkCurrency i := rfl

section
variable {s before : State} {evict : Bool} {i : Fin 40} {k : Fin 16}

theorem State.reportLoss_unowned (h : (before.slot k).owner? = none) : State.reportLoss evict before s k = s := by
  unfold State.reportLoss
  rw [h]

theorem State.reportLoss_owned {o : Handle} (h : (before.slot k).owner? = some o) : State.reportLoss evict before s k =
    (s.loseSlot o.index k (evict && (before.slot k).isLive)).modJob o.index (Job.loseSlot k) := by
  unfold State.reportLoss
  rw [h]

/-- The report reads the state before for the slot's owner and whether it was live. -/
theorem State.reportLoss_congr {b : State} (h : b.slots = before.slots) :
    State.reportLoss evict b s k = State.reportLoss evict before s k := by
  simp only [State.reportLoss, State.slot, h]

theorem State.reportLoss_slots : (State.reportLoss evict before s k).slots = s.slots := by
  unfold State.reportLoss
  split
  · rfl
  · exact (State.loseSlot_onlyEntry ..).slots

theorem State.reportLoss_tableFrame : s.TableFrame (State.reportLoss evict before s k) := by
  have frame := Ev.reportLoss_tableFrame evict before (Ev.start s) k
  rwa [Ev.reportLoss_eq] at frame

/-- A report has no part in the other records. -/
theorem State.reportLoss_entry_other (h : (before.slot k).ownedBy i = false) :
    (State.reportLoss evict before s k).entry i = s.entry i := by
  cases ho : (before.slot k).owner? with
  | none => rw [State.reportLoss_unowned ho]
  | some o =>
    have hi : i ≠ o.index := by
      rintro rfl
      cases h.symm.trans (LayerSlot.ownedBy_iff.2 ⟨o, ho, rfl⟩)
    rw [State.reportLoss_owned ho]
    exact (State.loseSlot_onlyEntry s o.index k _).entry hi

theorem State.reportLoss_entry_own (h : (before.slot k).ownedBy i = true) :
    (State.reportLoss evict before s k).entry i = (s.loseSlot i k (evict && (before.slot k).isLive)).entry i := by
  obtain ⟨o, ho, rfl⟩ := LayerSlot.ownedBy_iff.1 h
  rw [State.reportLoss_owned ho]
  rfl

end

/-! ### What a report makes of its record -/

section
variable {s : State} {i : Fin 40} {k : Fin 16} {b : Bool} {r : Record}

theorem Record.lose_retiring_iff : (r.lose k b).state = .retiring ↔ r.state = .retiring := by
  unfold Record.lose
  by_cases h : r.state = .placed ∧ leavePiece k r.pieces = []
  · simp [h]
  · simp [h]

/-- R49: a record that is not RETIRING loses the piece; a pending buffer may have become current (R55). -/
theorem State.loseSlot_used (h : s.entry i = .used r) (hs : r.state ≠ .retiring) : ∃ r',
    (s.loseSlot i k b).entry i = .used r' ∧ (r' = r.lose k b ∨ ∃ c, r' = (r.lose k b).makeCurrent c) := by
  have lost : (s.modRecord i (Record.lose k b)).entry i = .used (r.lose k b) := by
    rw [State.modRecord_used h, State.entry_setEntry_same]
  rw [State.loseSlot_eq, State.checkRetired_stays lost (.inl fun hr => hs (Record.lose_retiring_iff.1 hr))]
  rcases State.checkCurrency_cases lost with held | ⟨c, -, -, made⟩
  · exact ⟨_, by rw [held, lost], .inl rfl⟩
  · exact ⟨_, by rw [made, State.entry_setEntry_same], .inr ⟨c, rfl⟩⟩

/-- A RETIRING record loses the piece alone. -/
theorem Record.lose_of_retiring (hs : r.state = .retiring) : r.lose k b = { r with pieces := leavePiece k r.pieces } := by
  simp [Record.lose, hs]

/-- R66: a RETIRING record that owns a slot yet stays. -/
theorem State.loseSlot_stays (h : s.entry i = .used r) (hs : r.state = .retiring) (ho : s.ownedSlots i ≠ []) :
    (s.loseSlot i k b).entry i = .used { r with pieces := leavePiece k r.pieces } := by
  have lost : (s.modRecord i (Record.lose k b)).entry i = .used { r with pieces := leavePiece k r.pieces } := by
    rw [State.modRecord_used h, State.entry_setEntry_same, Record.lose_of_retiring hs]
  have owned : (s.modRecord i (Record.lose k b)).ownedSlots i ≠ [] := by
    rwa [State.ownedSlots_of_slots (State.modRecord_slots ..)]
  rw [State.loseSlot_eq, State.checkRetired_stays lost (.inr owned), State.checkCurrency_idle lost (.inr hs), lost]

/-- R66: a RETIRING record that owns no slot becomes RETIRED. -/
theorem State.loseSlot_retires (h : s.entry i = .used r) (hs : r.state = .retiring) (ho : s.ownedSlots i = []) :
    (s.loseSlot i k b).entry i = .retired r.lastTag r.retiredMarks := by
  have lost : (s.modRecord i (Record.lose k b)).entry i = .used { r with pieces := leavePiece k r.pieces } := by
    rw [State.modRecord_used h, State.entry_setEntry_same, Record.lose_of_retiring hs]
  have owned : (s.modRecord i (Record.lose k b)).ownedSlots i = [] := by
    rwa [State.ownedSlots_of_slots (State.modRecord_slots ..)]
  rw [State.loseSlot_eq, State.checkRetired_retires lost hs owned]
  have gone (u : State) (x : TableSlot) (hx : x.record? = none) : (u.setEntry i x).checkCurrency i = u.setEntry i x := by
    unfold State.checkCurrency State.record?
    rw [State.entry_setEntry_same, hx]
  rw [gone _ _ rfl, State.entry_setEntry_same]
  rfl

/-- A record slot without a record stays as it is. -/
theorem State.loseSlot_none (h : s.record? i = none) : (s.loseSlot i k b).entry i = s.entry i := by
  have retired : s.checkRetired i = s := by
    unfold State.checkRetired
    rw [h]
  have current : s.checkCurrency i = s := by
    unfold State.checkCurrency
    rw [h]
  rw [State.loseSlot_eq, State.modRecord_none h, retired, current]

end

/-! ### A list of reports -/

/-- R49, R155: what the loss of a list of slots makes of a record that is not RETIRING. -/
structure Record.Lost (live : Fin 16 → Bool) (r : Record) (l : List (Fin 16)) (r' : Record) : Prop where
  rect : r'.rect = r.rect
  pieces : ∀ q, q ∈ r'.pieces ↔ q ∈ r.pieces ∧ q.slot ∉ l
  evicted : r'.marks.evicted = true ↔ r.marks.evicted = true ∨ ∃ k ∈ l, live k = true
  state : r'.state = if r.state = .placed ∧ r'.pieces = [] ∧ l ≠ [] then .parked else r.state

theorem mem_leavePiece {k : Fin 16} {l : List Piece} {q : Piece} : q ∈ leavePiece k l ↔ q ∈ l ∧ q.slot ≠ k := by
  simp [leavePiece]

section
variable {live : Fin 16 → Bool} {r r' r'' : Record} {l : List (Fin 16)} {k : Fin 16}

theorem Record.Lost.refl (r : Record) : r.Lost live [] r := ⟨rfl, by simp, by simp, by simp⟩

theorem Record.Lost.makeCurrent (h : r.Lost live l r') (b : Buffer) : r.Lost live l (r'.makeCurrent b) := by
  rw [Record.makeCurrent_eq]
  exact ⟨h.rect, h.pieces, h.evicted, h.state⟩

theorem Record.Lost.one (hs : r.state ≠ .retiring) : r.Lost live [k] (r.lose k (live k)) := by
  refine ⟨rfl, fun q => ?_, ?_, ?_⟩
  · simp [Record.lose, mem_leavePiece]
  · cases hl : live k <;> simp [Record.lose, hs, hl]
  · simp [Record.lose]

theorem Record.Lost.cons (h : r.Lost live [k] r') (h' : r'.Lost live l r'') : r.Lost live (k :: l) r'' where
  rect := h'.rect.trans h.rect
  pieces q := by
    rw [h'.pieces, h.pieces]
    simp [and_assoc]
  evicted := by
    rw [h'.evicted, h.evicted]
    simp [or_assoc]
  state := by
    have gone : r'.pieces = [] → r''.pieces = [] := fun hp => List.eq_nil_iff_forall_not_mem.2 fun q hq => by
      have := ((h'.pieces q).1 hq).1
      simp [hp] at this
    have last : l = [] → r''.pieces = [] → r'.pieces = [] := fun hl hp => List.eq_nil_iff_forall_not_mem.2 fun q hq => by
      have := (h'.pieces q).2 ⟨hq, by simp [hl]⟩
      simp [hp] at this
    have first := h.state
    have then_ := h'.state
    by_cases hs : r.state = .placed
    · by_cases hp : r'.pieces = []
      · rw [if_pos ⟨hs, hp, by simp⟩] at first
        rw [if_neg (by simp [first])] at then_
        rw [then_, first, if_pos ⟨hs, gone hp, by simp⟩]
      · rw [if_neg fun h => hp h.2.1] at first
        rw [then_, first]
        by_cases hl : l = []
        · have : r''.pieces ≠ [] := fun h => hp (last hl h)
          simp [hl, this]
        · simp [hl]
    · rw [if_neg fun h => hs h.1] at first
      rw [if_neg fun h => hs (first ▸ h.1)] at then_
      rw [then_, first, if_neg fun h => hs h.1]

theorem Record.Lost.live_ (h : r.Lost live l r') (hs : r.state ≠ .retiring) : r'.state ≠ .retiring := by
  rw [h.state]
  split
  · exact nofun
  · exact hs

end

section
variable {s before : State} {evict : Bool} {i : Fin 40} {l : List (Fin 16)} {r : Record}

theorem State.foldl_reportLoss_slots :
    (l.foldl (State.reportLoss evict before) s).slots = s.slots := by
  induction l generalizing s with
  | nil => rfl
  | cons k ks ih => rw [List.foldl_cons, ih, State.reportLoss_slots]

theorem State.foldl_reportLoss_tableFrame : s.TableFrame (l.foldl (State.reportLoss evict before) s) := by
  induction l generalizing s with
  | nil => exact .refl s
  | cons k ks ih => exact State.reportLoss_tableFrame.trans ih

/-- A record that is not RETIRING, after the reports of a list of slots. -/
theorem State.foldl_reportLoss_used (h : s.entry i = .used r) (hs : r.state ≠ .retiring) :
    ∃ r', (l.foldl (State.reportLoss evict before) s).entry i = .used r' ∧
      r.Lost (fun k => evict && (before.slot k).isLive) (l.filter fun k => (before.slot k).ownedBy i) r' := by
  induction l generalizing s r with
  | nil => exact ⟨r, h, .refl r⟩
  | cons k ks ih =>
    rw [List.foldl_cons]
    cases ho : (before.slot k).ownedBy i with
    | false =>
      rw [List.filter_cons_of_neg (by simp [ho])]
      exact ih (by rw [State.reportLoss_entry_other ho, h]) hs
    | true =>
      rw [List.filter_cons_of_pos (p := fun k => (before.slot k).ownedBy i) ho]
      obtain ⟨r1, h1, lost⟩ : ∃ r1, (State.reportLoss evict before s k).entry i = .used r1 ∧
          r.Lost (fun k => evict && (before.slot k).isLive) [k] r1 := by
        have one := Record.Lost.one (live := fun k => evict && (before.slot k).isLive) (k := k) hs
        obtain ⟨r1, h1, rfl | ⟨c, rfl⟩⟩ := State.loseSlot_used (k := k) (b := evict && (before.slot k).isLive) h hs
        · exact ⟨_, (State.reportLoss_entry_own ho).trans h1, one⟩
        · exact ⟨_, (State.reportLoss_entry_own ho).trans h1, one.makeCurrent c⟩
      obtain ⟨r', h', rest⟩ := ih h1 (lost.live_ hs)
      exact ⟨r', h', lost.cons rest⟩

theorem State.foldl_reportLoss_none (h : s.record? i = none) :
    (l.foldl (State.reportLoss evict before) s).entry i = s.entry i := by
  induction l generalizing s with
  | nil => rfl
  | cons k ks ih =>
    have step : (State.reportLoss evict before s k).entry i = s.entry i := by
      cases ho : (before.slot k).ownedBy i with
      | false => exact State.reportLoss_entry_other ho
      | true => rw [State.reportLoss_entry_own ho, State.loseSlot_none h]
    rw [List.foldl_cons, ih (by rw [State.record?, step]; exact h), step]

/-- R66: a RETIRING record that owns a slot yet, after the reports. -/
theorem State.foldl_reportLoss_stays (h : s.entry i = .used r) (hs : r.state = .retiring) (hn : s.ownedSlots i ≠ []) :
    ∃ p, (l.foldl (State.reportLoss evict before) s).entry i = .used { r with pieces := p } ∧
      ∀ q, q ∈ p ↔ q ∈ r.pieces ∧ ∀ k ∈ l, (before.slot k).ownedBy i = true → q.slot ≠ k := by
  induction l generalizing s r with
  | nil => exact ⟨r.pieces, h, by simp⟩
  | cons k ks ih =>
    have owned : (State.reportLoss evict before s k).ownedSlots i ≠ [] := by
      rwa [State.ownedSlots_of_slots State.reportLoss_slots]
    rw [List.foldl_cons]
    cases ho : (before.slot k).ownedBy i with
    | false =>
      obtain ⟨p, hp, mem⟩ := ih (by rw [State.reportLoss_entry_other ho, h]) hs owned
      exact ⟨p, hp, by simp [mem, ho]⟩
    | true =>
      obtain ⟨p, hp, mem⟩ := ih ((State.reportLoss_entry_own ho).trans (State.loseSlot_stays h hs hn)) hs owned
      refine ⟨p, hp, fun q => (mem q).trans ?_⟩
      simp [mem_leavePiece, ho, and_assoc]

/-- R66: a RETIRING record that owns no slot is RETIRED after the report of a slot that it had. -/
theorem State.foldl_reportLoss_retires (h : s.entry i = .used r) (hs : r.state = .retiring) (hn : s.ownedSlots i = []) :
    (l.foldl (State.reportLoss evict before) s).entry i =
      if ∃ k ∈ l, (before.slot k).ownedBy i = true then .retired r.lastTag r.retiredMarks else .used r := by
  induction l generalizing s with
  | nil => simpa using h
  | cons k ks ih =>
    rw [List.foldl_cons]
    cases ho : (before.slot k).ownedBy i with
    | false =>
      rw [ih (by rw [State.reportLoss_entry_other ho, h]) (by rwa [State.ownedSlots_of_slots State.reportLoss_slots])]
      simp [ho]
    | true =>
      have gone := (State.reportLoss_entry_own (evict := evict) ho).trans (State.loseSlot_retires h hs hn)
      rw [State.foldl_reportLoss_none (by rw [State.record?, gone]; rfl), gone, if_pos ⟨k, List.mem_cons_self, ho⟩]

end

/-! ### A departure from service -/

section
variable {s : State} {p : PanelId}

/-- R129 steps 1 to 3: the frames of a panel out of service stop, joined mode ends, and the slots it uses are free. -/
def State.leftService (s : State) (p : PanelId) : State :=
  ((s.modPanel p Panel.stopFrames).setJoined .notJoined).freeSlotsOf p

/-- The slots that a panel uses, in ascending index. -/
def State.usedSlots (s : State) (p : PanelId) : List (Fin 16) := allSlots.filter fun k => decide (s.user k = p)

theorem State.mem_usedSlots {k : Fin 16} : k ∈ s.usedSlots p ↔ s.user k = p := by
  simp [State.usedSlots, allSlots]

theorem State.slot_freeSlotsOf (k : Fin 16) : (s.freeSlotsOf p).slot k = if s.user k = p then .free else s.slot k := by
  simp only [State.slot, State.freeSlotsOf, Fin.getElem_fin, Vector.getElem_ofFn, State.uses_iff]

theorem State.leftService_slot (k : Fin 16) : (s.leftService p).slot k = if s.user k = p then .free else s.slot k :=
  State.slot_freeSlotsOf k

theorem State.leftService_eq : s.leftService p = { s.setPanel p (s.panel p).stopFrames with
    shared := { s.shared with joined := .notJoined }, slots := (s.leftService p).slots } := rfl

/-- R129: a departure from service of a panel that has left it. -/
theorem Ev.leaveService_eq {e : Ev} (evict : Bool) (h : (e.s.panel p).inService = false) : e.leaveService p evict = { e with
    s := (e.s.usedSlots p).foldl (State.reportLoss evict e.s) (e.s.leftService p), walk := true, resolveAll := true } := by
  have dark : ((e.modPanel p Panel.stopFrames).s.panel p).inService = false :=
    (congrArg Panel.inService (e.s.panel_modPanel_same p _)).trans h
  have joined : (e.modPanel p Panel.stopFrames).evalJoined.s = (e.s.modPanel p Panel.stopFrames).setJoined .notJoined := by
    rw [Ev.evalJoined_s, State.joinConditions_of_dark dark]
    rfl
  have slots : (e.s.usedSlots p) = allSlots.filter fun k => (e.modPanel p Panel.stopFrames).evalJoined.s.uses p k := by
    rw [joined, State.usedSlots]
    congr 1
  have reports : State.reportLoss evict (e.modPanel p Panel.stopFrames).evalJoined.s = State.reportLoss evict e.s := by
    funext s k
    exact State.reportLoss_congr (by rw [joined]; rfl)
  unfold Ev.leaveService
  simp only [Ev.foldl_reportLoss, reports, ← slots, Ev.mod]
  rw [joined, Ev.evalJoined_eq]
  rfl

end
end Sys2Proof.Machine
end

section
/-! SUPPORT. The thresholds of the health counter (R152, R153), the entry to OFFLINE that they make (R154, R156), and what it does to
the records that lose slots (R155). -/

namespace Sys2Proof.Machine

/-! ### The panel state after a change of the health counter -/

theorem State.setPanel_panel (s : State) (p : PanelId) : s.setPanel p (s.panel p) = s := by cases p <;> rfl

theorem State.setPanel_setPanel (s : State) (p : PanelId) (x y : Panel) :
    (s.setPanel p x).setPanel p y = s.setPanel p y := by cases p <;> rfl

/-- R152: the warning as the counter stands, with PANEL at an upward crossing. -/
def Ev.warned (e : Ev) (p : PanelId) : State := { e.s.setPanel p { e.s.panel p with
    warning := decide (48 ≤ (e.s.panel p).health) } with
  attn := { e.s.attn with flags := { e.s.attn.flags with
    panel := e.s.attn.flags.panel || (decide (48 ≤ (e.s.panel p).health) && !(e.s.panel p).warning) } } }

theorem Ev.checkWarning_eq (e : Ev) (p : PanelId) : e.checkWarning p = { e with s := e.warned p } := by
  unfold Ev.checkWarning Ev.warned
  by_cases h : 48 ≤ (e.s.panel p).health
  · cases hw : (e.s.panel p).warning with
    | false =>
      simp only [Config.warningLevel, h, if_true, hw, decide_true, Bool.not_false, Bool.and_self, Bool.or_true]
      rfl
    | true =>
      have same : ({ e.s.panel p with warning := true } : Panel) = e.s.panel p := by rw [← hw]
      simp only [Config.warningLevel, h, if_true, hw, decide_true, Bool.not_true, Bool.and_false, Bool.or_false, same,
        State.setPanel_panel]
  · simp only [Config.warningLevel, h, if_false, decide_false, Bool.false_and, Bool.or_false]
    rfl

theorem Ev.warned_panel (e : Ev) (p : PanelId) :
    (e.warned p).panel p = { e.s.panel p with warning := decide (48 ≤ (e.s.panel p).health) } :=
  e.s.panel_setPanel_same p _

/-- R152, R153: PANEL is set with a change of the panel state, whatever the warning. -/
theorem Ev.warned_raise (e : Ev) (p : PanelId) (x : Panel) :
    ((e.warned p).setPanel p x).raise .panel = (e.s.setPanel p x).raise .panel := by
  cases p <;> rfl

section
variable {e : Ev} {p : PanelId} {x : Panel} (hx : x = e.s.panel p)
include hx

theorem Ev.checkHealth_warns
    (h : x.inService = false ∨ x.mode = .on ∧ x.health < 96 ∨ x.mode = .degraded ∧ 64 < x.health ∧ x.health < 192) :
    e.checkHealth p = { e with s := e.warned p } := by
  subst hx
  rw [Ev.checkHealth, Ev.checkWarning_eq]
  simp only [Ev.checkLevels, Ev.warned_panel, Panel.inService] at h ⊢
  rcases h with h | ⟨hm, hh⟩ | ⟨hm, hl, hh⟩
  · rw [if_neg fun hc => by rw [h] at hc; exact absurd hc.1 nofun, if_neg fun hc => by rw [hc.1] at h; exact absurd h nofun,
      if_neg fun hc => by rw [hc.1] at h; exact absurd h nofun]
  · rw [if_neg fun hc => absurd hc.2 (by simp only [Config.offlineLevel]; omega),
      if_neg fun hc => absurd hc.2 (by simp only [Config.degradeLevel]; omega),
      if_neg fun hc => (by cases hm.symm.trans hc.1)]
  · rw [if_neg fun hc => absurd hc.2 (by simp only [Config.offlineLevel]; omega),
      if_neg fun hc => (by cases hm.symm.trans hc.1),
      if_neg fun hc => absurd hc.2 (by simp only [Config.restoreLevel]; omega)]

theorem Ev.checkHealth_degrades (hm : x.mode = .on) (hl : 96 ≤ x.health) (hh : x.health < 192) : e.checkHealth p =
    { e with s := (e.s.setPanel p { x with warning := true, mode := .degraded }).raise .panel } := by
  subst hx
  have high : 48 ≤ (e.s.panel p).health := by omega
  rw [Ev.checkHealth, Ev.checkWarning_eq]
  simp only [Ev.checkLevels, Ev.warned_panel]
  rw [if_neg fun hc => absurd hc.2 (by simp only [Config.offlineLevel]; omega), if_pos ⟨hm, hl⟩]
  refine congrArg (fun u => ({ e with s := u } : Ev)) ((Ev.warned_raise e p _).trans ?_)
  rw [Ev.warned_panel, decide_eq_true high]

theorem Ev.checkHealth_restores (hm : x.mode = .degraded) (hh : x.health ≤ 64) : e.checkHealth p =
    { e with s := (e.s.setPanel p { x with warning := decide (48 ≤ x.health), mode := .on }).raise .panel } := by
  subst hx
  rw [Ev.checkHealth, Ev.checkWarning_eq]
  simp only [Ev.checkLevels, Ev.warned_panel]
  rw [if_neg fun hc => absurd hc.2 (by simp only [Config.offlineLevel]; omega),
    if_neg fun hc => (by cases hm.symm.trans hc.1), if_pos ⟨hm, hh⟩]
  refine congrArg (fun u => ({ e with s := u } : Ev)) ((Ev.warned_raise e p _).trans ?_)
  rw [Ev.warned_panel]

end

/-! ### The entry to OFFLINE -/

/-- R154, R156, R157, R158: a panel as it enters OFFLINE. -/
def State.offlinePanel (s : State) (x : Panel) (cause : FaultCause) : Panel := { x with
  mode := .offline, seqTimer := none, offTimer := s.timerFor s.shared.tOff
  fault := captureFault x.capture x.fault cause, quietTimer := s.quietFor x }

/-- R154: the state as a panel enters OFFLINE at the threshold, before it leaves service. -/
def State.thrownOffline (s : State) (p : PanelId) : State :=
  (s.setPanel p (s.offlinePanel { s.panel p with warning := true } (s.panel p).linkError.cause)).raise .panel

section
variable {e : Ev} {p : PanelId}

theorem Ev.goOffline_of_service (c : FaultCause) (h : (e.s.panel p).inService = true) : e.goOffline p c =
    Ev.leaveService { e with s := (e.s.setPanel p (e.s.offlinePanel (e.s.panel p) c)).raise .panel } p true := by
  simp only [Ev.goOffline, h, if_true]
  rfl

variable (hs : (e.s.panel p).inService = true) (hh : 192 ≤ (e.s.panel p).health)
include hs hh

theorem Ev.checkHealth_goesOffline :
    e.checkHealth p = Ev.leaveService { e with s := e.s.thrownOffline p } p true := by
  have high : 48 ≤ (e.s.panel p).health := by omega
  have warned : (e.warned p).panel p = { e.s.panel p with warning := true } := by
    rw [Ev.warned_panel, decide_eq_true high]
  have service : ((e.warned p).panel p).inService = true := by
    rw [warned]
    exact hs
  have level : ({ e with s := e.warned p } : Ev).checkLevels p =
      ({ e with s := e.warned p } : Ev).goOffline p ((e.warned p).panel p).linkError.cause :=
    if_pos ⟨service, by rw [warned]; exact hh⟩
  rw [Ev.checkHealth, Ev.checkWarning_eq, level, Ev.goOffline_of_service (e := { e with s := e.warned p }) _ service]
  simp only [Ev.warned_raise, warned]
  rfl

/-- R129, R154: the entry to OFFLINE, whole. -/
theorem Ev.checkHealth_offline : e.checkHealth p = { e with
    s := (e.s.usedSlots p).foldl (State.reportLoss true e.s) ((e.s.thrownOffline p).leftService p)
    walk := true, resolveAll := true } := by
  have dark : ((e.s.thrownOffline p).panel p).inService = false :=
    congrArg Panel.inService (e.s.panel_setPanel_same p _)
  have reports : State.reportLoss true (e.s.thrownOffline p) = State.reportLoss true e.s := by
    funext s k
    exact State.reportLoss_congr rfl
  rw [Ev.checkHealth_goesOffline hs hh, Ev.leaveService_eq (e := { e with s := e.s.thrownOffline p }) true dark, reports]
  rfl

theorem Ev.checkHealth_offline_frame : ((e.s.thrownOffline p).leftService p).TableFrame (e.checkHealth p).s := by
  rw [Ev.checkHealth_offline hs hh]
  exact State.foldl_reportLoss_tableFrame

theorem Ev.checkHealth_offline_slot (k : Fin 16) :
    (e.checkHealth p).s.slot k = if e.s.user k = p then .free else e.s.slot k := by
  have slots : (e.checkHealth p).s.slots = ((e.s.thrownOffline p).leftService p).slots := by
    rw [Ev.checkHealth_offline hs hh]
    exact State.foldl_reportLoss_slots
  exact (congrArg (fun v => v[k]) slots).trans (State.leftService_slot k)

theorem Ev.checkHealth_offline_panel : (e.checkHealth p).s.panel p =
    (e.s.offlinePanel { e.s.panel p with warning := true } (e.s.panel p).linkError.cause).stopFrames ∧
    (e.checkHealth p).s.panel (otherPanel p) = e.s.panel (otherPanel p) := by
  have panels := (Ev.checkHealth_offline_frame hs hh).panels
  constructor
  · rw [State.panel, panels]
    cases p <;> rfl
  · rw [State.panel, panels]
    cases p <;> rfl

end

/-! ### The records that lose slots -/

section
variable {e : Ev} {p : PanelId} {i : Fin 40} {r : Record} (hs : (e.s.panel p).inService = true)
  (hh : 192 ≤ (e.s.panel p).health) (h : e.s.entry i = .used r)
include hs hh h

theorem Ev.checkHealth_offline_used (hr : r.state ≠ .retiring) : ∃ r', (e.checkHealth p).s.entry i = .used r' ∧
    r.Lost (fun k => true && (e.s.slot k).isLive) ((e.s.usedSlots p).filter fun k => (e.s.slot k).ownedBy i) r' := by
  rw [Ev.checkHealth_offline hs hh]
  exact State.foldl_reportLoss_used h hr

theorem Ev.checkHealth_offline_stays (hr : r.state = .retiring)
    (ho : ∃ k, (e.s.slot k).ownedBy i = true ∧ e.s.user k ≠ p) : ∃ l, (e.checkHealth p).s.entry i = .used { r with pieces := l } ∧
      ∀ q, q ∈ l ↔ q ∈ r.pieces ∧ ∀ k ∈ e.s.usedSlots p, (e.s.slot k).ownedBy i = true → q.slot ≠ k := by
  obtain ⟨k, hk, hu⟩ := ho
  have owned : ((e.s.thrownOffline p).leftService p).ownedSlots i ≠ [] := by
    refine List.ne_nil_of_mem (a := k) (State.mem_ownedSlots.2 ?_)
    rw [State.leftService_slot]
    exact (congrArg (LayerSlot.ownedBy · i) (if_neg hu)).trans hk
  rw [Ev.checkHealth_offline hs hh]
  exact State.foldl_reportLoss_stays h hr owned

theorem Ev.checkHealth_offline_retires (hr : r.state = .retiring)
    (ho : ∀ k, (e.s.slot k).ownedBy i = true → e.s.user k = p) : (e.checkHealth p).s.entry i =
      if ∃ k ∈ e.s.usedSlots p, (e.s.slot k).ownedBy i = true then .retired r.lastTag r.retiredMarks else .used r := by
  have owned : ((e.s.thrownOffline p).leftService p).ownedSlots i = [] := by
    refine List.eq_nil_iff_forall_not_mem.2 fun k hk => ?_
    rw [State.mem_ownedSlots, State.leftService_slot] at hk
    by_cases hu : e.s.user k = p
    · rw [show (if (e.s.thrownOffline p).user k = p then LayerSlot.free else (e.s.thrownOffline p).slot k) = .free from if_pos hu]
        at hk
      cases hk
    · exact hu (ho k ((congrArg (LayerSlot.ownedBy · i) (if_neg hu)).symm.trans hk))
  rw [Ev.checkHealth_offline hs hh]
  exact State.foldl_reportLoss_retires h hr owned

end

/-! ### The forms of the obligation -/

theorem leavePiece_eq (k : Fin 16) (l : List Piece) : leavePiece k l = l.filter fun q => decide (q.slot ≠ k) := by
  unfold leavePiece
  congr 1
  funext q
  simp [BEq.beq]

theorem LinkError.cause_eq (l : LinkError) : l.cause = if l = .ackTimeout then .ackTimeout else .ackError := by
  cases l <;> rfl

/-- R156: capture mode FIRST keeps a set that is not empty, and ALL adds to it. -/
theorem captureFault_eq {f one : FaultSet} {c : FaultCause}
    (h : one = ⟨decide (c = .trainFail), decide (c = .ackError), decide (c = .ackTimeout)⟩) :
    captureFault .first f c = (if f = ⟨false, false, false⟩ then one else f) ∧ captureFault .all f c =
      ⟨f.trainFail || one.trainFail, f.ackError || one.ackError, f.ackTimeout || one.ackTimeout⟩ := by
  subst h
  have empty : f.isEmpty = true ↔ f = ⟨false, false, false⟩ := by
    obtain ⟨a, b, d⟩ := f
    simp [FaultSet.isEmpty, and_assoc]
  constructor
  · simp only [captureFault, empty]
    cases c <;> rfl
  · obtain ⟨a, b, d⟩ := f
    cases c <;> simp [captureFault, FaultSet.add]

/-- R49, R155: the report of a slot that a record had. -/
theorem Ev.reportLoss_record {e : Ev} {evict : Bool} {before v : State} {k : Fin 16} {o : Handle} {r : Record}
    (ho : (before.slot k).owner? = some o) (he : e.s.entry o.index = .used r)
    (hv : v = e.s.setEntry o.index (.used (r.lose k (evict && (before.slot k).isLive)))) :
    ∃ q, Ev.reportLoss evict before e k = { e with s := { (v.checkRetired o.index).checkCurrency o.index with queue := q } } ∧
      q.map Job.handle = e.s.queue.map Job.handle ∧
      ∀ i, i ≠ o.index → (Ev.reportLoss evict before e k).s.job? i = e.s.job? i := by
  have whole : (Ev.reportLoss evict before e k) =
      { e with s := ((v.checkRetired o.index).checkCurrency o.index).modJob o.index (Job.loseSlot k) } := by
    rw [Ev.reportLoss_eq, State.reportLoss_owned ho, State.loseSlot_eq, State.modRecord_used he, hv]
  have queue : ((v.checkRetired o.index).checkCurrency o.index).queue = e.s.queue := by
    rw [State.checkCurrency_queue, State.checkRetired_queue, hv, State.setEntry_queue]
  refine ⟨_, whole, ?_, fun i hi => ?_⟩
  · exact (State.modJob_handles fun _ => by exact rfl).trans (congrArg _ queue)
  · rw [whole]
    refine (State.job?_modJob fun _ => by exact rfl).trans ?_
    rw [if_neg hi, State.job?_of_queue queue]

section
variable {e : Ev} {p : PanelId} {i : Fin 40} {r : Record} {lost : Fin 16 → Prop} (hs : (e.s.panel p).inService = true)
  (hh : 192 ≤ (e.s.panel p).health) (he : e.s.entry i = .used r)
  (hlost : ∀ k, lost k ↔ e.s.user k = p ∧ ∃ o, (e.s.slot k).owner? = some o ∧ o.index = i)
include hs hh he hlost

/-- R49, R155: a record that is not RETIRING, by the slots it loses. -/
theorem Ev.checkHealth_loses (hr : r.state ≠ .retiring) : ∃ r', (e.checkHealth p).s.entry i = .used r' ∧ r'.rect = r.rect ∧
    (∀ q, q ∈ r'.pieces ↔ q ∈ r.pieces ∧ ¬lost q.slot) ∧
    (r'.marks.evicted = true ↔ r.marks.evicted = true ∨ ∃ k, lost k ∧ (e.s.slot k).isLive = true) ∧
    ((r.state = .placed ∧ r'.pieces = [] ∧ ∃ k, lost k) → r'.state = .parked) ∧
    (¬(r.state = .placed ∧ r'.pieces = [] ∧ ∃ k, lost k) → r'.state = r.state) := by
  have mem (k : Fin 16) : k ∈ (e.s.usedSlots p).filter (fun k => (e.s.slot k).ownedBy i) ↔ lost k := by
    rw [List.mem_filter, State.mem_usedSlots, hlost, LayerSlot.ownedBy_iff]
  obtain ⟨r', hr', after⟩ := Ev.checkHealth_offline_used hs hh he hr
  have some_ : (e.s.usedSlots p).filter (fun k => (e.s.slot k).ownedBy i) ≠ [] ↔ ∃ k, lost k := by
    simp only [← mem]
    exact ⟨List.exists_mem_of_ne_nil _, fun ⟨k, hk⟩ => List.ne_nil_of_mem hk⟩
  have state := after.state
  refine ⟨r', hr', after.rect, fun q => ?_, ?_, fun ⟨hp, hn, hl⟩ => state.trans (if_pos ⟨hp, hn, some_.2 hl⟩),
    fun h => state.trans (if_neg fun ⟨hp, hn, hl⟩ => h ⟨hp, hn, some_.1 hl⟩)⟩
  · rw [after.pieces, mem]
  · rw [after.evicted]
    simp only [mem, Bool.true_and]

theorem Ev.checkHealth_stays (hr : r.state = .retiring) (ho : ∃ k, (e.s.slot k).ownedBy i = true ∧ ¬lost k) :
    ∃ l, (∀ q, q ∈ l ↔ q ∈ r.pieces ∧ ¬lost q.slot) ∧ (e.checkHealth p).s.entry i = .used { r with pieces := l } := by
  obtain ⟨k, hk, hn⟩ := ho
  have elsewhere : e.s.user k ≠ p := fun hu => hn ((hlost k).2 ⟨hu, LayerSlot.ownedBy_iff.1 hk⟩)
  obtain ⟨l, hl, mem⟩ := Ev.checkHealth_offline_stays hs hh he hr ⟨k, hk, elsewhere⟩
  refine ⟨l, fun q => (mem q).trans (and_congr_right fun _ => ?_), hl⟩
  rw [hlost, ← LayerSlot.ownedBy_iff]
  exact ⟨fun h ⟨hu, hq⟩ => h _ (State.mem_usedSlots.2 hu) hq rfl, fun h m hm hq he =>
    h ⟨he ▸ State.mem_usedSlots.1 hm, he ▸ hq⟩⟩

theorem Ev.checkHealth_retired (hr : r.state = .retiring) (ho : ∀ k, (e.s.slot k).ownedBy i = true → lost k) :
    ((∃ k, lost k) → (e.checkHealth p).s.entry i = .retired r.lastTag r.retiredMarks) ∧
      ((¬∃ k, lost k) → (e.checkHealth p).s.entry i = .used r) := by
  have some_ : (∃ k ∈ e.s.usedSlots p, (e.s.slot k).ownedBy i = true) ↔ ∃ k, lost k := by
    simp only [State.mem_usedSlots, hlost, LayerSlot.ownedBy_iff]
  have after := Ev.checkHealth_offline_retires hs hh he hr fun k hk => ((hlost k).1 (ho k hk)).1
  exact ⟨fun h => after.trans (if_pos (some_.2 h)), fun h => after.trans (if_neg fun hk => h (some_.1 hk))⟩

theorem Ev.checkHealth_evicts (hr : r.state = .retiring) (hm : ((e.checkHealth p).s.entry i).marks.evicted = true) :
    r.marks.evicted = true := by
  by_cases ho : ∃ k, (e.s.slot k).ownedBy i = true ∧ ¬lost k
  · obtain ⟨l, -, hl⟩ := Ev.checkHealth_stays hs hh he hlost hr ho
    rwa [hl] at hm
  · have all (k : Fin 16) (hk : (e.s.slot k).ownedBy i = true) : lost k := not_not.1 fun hn => ho ⟨k, hk, hn⟩
    obtain ⟨gone, kept⟩ := Ev.checkHealth_retired hs hh he hlost hr all
    by_cases hl : ∃ k, lost k
    · rw [gone hl] at hm
      cases hm
    · rwa [kept hl] at hm

end

/-- Settles O53: the four cases of the threshold check, the departure from service with its reports, and what the entry to OFFLINE
does to a record. -/
theorem healthThresholds : Obligations.HealthThresholds := by
  refine ⟨fun e p x hx => ⟨fun hc => ?warns, Ev.checkHealth_degrades hx, Ev.checkHealth_restores hx,
      fun hs hh => ?offline⟩, fun e p evict h => ?leave, fun evict before e k => ⟨fun h => ?unowned, fun o r v ho he hv => ?report⟩,
    fun e p i r lost hs hh he hlost => ⟨fun hr => ?used, fun hr hm => ?evicted, fun hr hl => ⟨fun hall => ?retired, fun hsome => ?stays⟩⟩,
    fun f c one h => captureFault_eq h⟩
  case warns =>
    subst hx
    exact Ev.checkHealth_warns rfl hc
  case offline =>
    subst hx
    have frame := Ev.checkHealth_offline_frame hs hh
    obtain ⟨own, other⟩ := Ev.checkHealth_offline_panel hs hh
    have whole := Ev.checkHealth_offline hs hh
    have goes := Ev.checkHealth_goesOffline hs hh
    rw [LinkError.cause_eq] at own
    refine ⟨own, ?_, fun k hk => ?_, ?_, ?_, e.checkHealth_blocks p, other, ?_, fun y hy => ?_⟩
    · rw [frame.attn]
      rfl
    · rw [Ev.checkHealth_offline_slot hs hh, if_pos hk]
    · rw [whole]
    · rw [whole]
    · rw [frame.shared]
      rfl
    · rw [goes, State.thrownOffline, LinkError.cause_eq, hy]
      rfl
  case leave =>
    refine ⟨e.s.leftService p, State.leftService_eq, State.leftService_slot, ?_⟩
    rw [Ev.leaveService_eq evict h, Ev.foldl_reportLoss]
    rfl
  case unowned => rw [Ev.reportLoss_eq, State.reportLoss_unowned h]
  case report =>
    have same : v = e.s.setEntry o.index (.used (r.lose k (evict && (before.slot k).isLive))) := by
      rw [hv, Record.lose, leavePiece_eq]
      simp only [Bool.and_eq_true, and_assoc]
    exact Ev.reportLoss_record ho he same
  case used => exact Ev.checkHealth_loses hs hh he hlost hr
  case evicted => exact Ev.checkHealth_evicts hs hh he hlost hr hm
  case retired =>
    rw [(Ev.checkHealth_retired hs hh he hlost hr hall).1 hl, Record.lastTag, Record.retiredMarks, Record.latest]
    cases r.pending <;> rfl
  case stays => exact Ev.checkHealth_stays hs hh he hlost hr hsome

end Sys2Proof.Machine
end

section
/-! SUPPORT. The end of steps has no part in the mark of a re-resolution of every record; the timeouts of a frame start with their
threshold checks, one panel and then the other (R151, R154, log 16). -/

namespace Sys2Proof.Machine

/-! ### The mark of a re-resolution of every record -/

section
variable (e : Ev) (i : Fin 40)

theorem Ev.examine_resolveAll : (e.examine i).resolveAll = e.resolveAll := by
  unfold Ev.examine
  split
  · split <;> rfl
  · rfl

theorem Ev.bufferCondition_resolveAll (j : Job) : (e.bufferCondition i j).resolveAll = e.resolveAll := by
  unfold Ev.bufferCondition
  split
  · rfl
  · split
    · rfl
    · simp only [Ev.beginWait]
      split <;> rfl

theorem Ev.prepare_resolveAll : (e.prepare i).resolveAll = e.resolveAll := by
  unfold Ev.prepare
  split
  · rw [Ev.examine_resolveAll, Ev.bufferCondition_resolveAll]
    rfl
  · rfl

theorem Ev.createJob_resolveAll (res : Resolution) : (e.createJob i res).resolveAll = e.resolveAll := by
  simp only [Ev.createJob, Ev.prepare_resolveAll]
  rfl

theorem Ev.pass_resolveAll (r : Record) (res : Resolution) : (e.pass i r res).resolveAll = e.resolveAll := by
  unfold Ev.pass
  split
  · unfold Ev.redirectJob
    split
    · exact Ev.prepare_resolveAll _ i
    · exact Ev.prepare_resolveAll _ i
    · rfl
    · rfl
  · split
    · unfold Ev.settleMark
      split
      · rfl
      · split
        · exact e.createJob_resolveAll i res
        · rfl
    · split
      · exact e.createJob_resolveAll i res
      · rfl

theorem Ev.reresolve_resolveAll : (e.reresolve i).resolveAll = e.resolveAll := by
  unfold Ev.reresolve
  split
  · rfl
  · split
    · simp only
      split
      · rfl
      · exact e.pass_resolveAll i _ _
    · rfl

theorem Ev.grantOne_resolveAll : (e.grantOne i).resolveAll = e.resolveAll := by
  unfold Ev.grantOne
  split
  · split
    · split <;> rfl
    · rfl
  · rfl

theorem Ev.grantWalk_resolveAll : e.grantWalk.resolveAll = e.resolveAll := by
  have fold (l : List (Fin 40)) (d : Ev) : (l.foldl Ev.grantOne d).resolveAll = d.resolveAll := by
    induction l generalizing d with
    | nil => rfl
    | cons i l ih => exact (ih _).trans (d.grantOne_resolveAll i)
  exact fold _ _

theorem Ev.complete_resolveAll (j : Job) : (e.complete i j).resolveAll = e.resolveAll := by
  simp only [Ev.complete]
  split
  · exact Ev.prepare_resolveAll _ i
  · rfl

theorem Ev.redirect_resolveAll (j : Job) (n : Resolution) : (e.redirect i j n).resolveAll = e.resolveAll := by
  simp only [Ev.redirect, Ev.prepare_resolveAll, Ev.modJob, Ev.mod]

theorem Ev.endStep_resolveAll (j : Job) : (e.endStep j).resolveAll = e.resolveAll := by
  simp only [Ev.endStep]
  split
  · split
    · exact e.complete_resolveAll _ j
    · exact e.redirect_resolveAll _ j _
  · split
    · exact e.complete_resolveAll _ j
    · rfl
  · exact e.complete_resolveAll _ j

theorem Ev.takeUp_resolveAll : e.takeUp.resolveAll = e.resolveAll := by
  unfold Ev.takeUp
  split
  · rfl
  · simp only
    split
    · exact e.reresolve_resolveAll _
    · split
      · exact e.reresolve_resolveAll _
      · exact e.reresolve_resolveAll _

theorem Ev.settle_resolveAll (walks : Bool) (n : Nat) : (Ev.settle walks n e).resolveAll = e.resolveAll := by
  induction n generalizing e with
  | zero => rfl
  | succ n ih =>
    unfold Ev.settle
    split
    · exact (ih _).trans (e.endStep_resolveAll _)
    · split
      · exact (ih _).trans e.takeUp_resolveAll
      · split
        · exact (ih _).trans e.grantWalk_resolveAll
        · rfl

theorem Ev.endSteps_resolveAll : e.endSteps.resolveAll = e.resolveAll := e.settle_resolveAll false settleFuel

end

/-! ### The threshold check below the offline level -/

/-- R152, R153: a panel after a change of its health counter below the offline level. -/
def Panel.checked (x : Panel) : Panel := { x with
  warning := decide (48 ≤ x.health)
  mode := if x.mode = .on ∧ 96 ≤ x.health then .degraded else if x.mode = .degraded ∧ x.health ≤ 64 then .on else x.mode }

/-- R154: a panel after a timeout that reaches the offline level, out of service (R129). -/
def State.timedOut (s : State) (x : Panel) : Panel :=
  (s.offlinePanel { x with warning := true } x.linkError.cause).stopFrames

theorem Panel.inService_iff {x : Panel} : x.inService = true ↔ x.mode = .on ∨ x.mode = .degraded := by
  unfold Panel.inService
  cases x.mode <;> simp

section
variable {e : Ev} {p : PanelId}

theorem Ev.checkHealth_below (hs : (e.s.panel p).inService = true) (hh : (e.s.panel p).health < 192) :
    ∃ a, e.checkHealth p = { e with s := { e.s.setPanel p (e.s.panel p).checked with attn := a } } ∧
      (e.s.attn.flags.panel = true → a.flags.panel = true) := by
  rcases Panel.inService_iff.1 hs with hm | hm
  · by_cases hl : 96 ≤ (e.s.panel p).health
    · refine ⟨(e.s.raise .panel).attn, (Ev.checkHealth_degrades rfl hm hl hh).trans ?_, fun _ => rfl⟩
      have checked : (e.s.panel p).checked = { e.s.panel p with warning := true, mode := .degraded } := by
        rw [Panel.checked, decide_eq_true (by omega), if_pos ⟨hm, hl⟩]
      rw [checked]
      rfl
    · refine ⟨(e.warned p).attn, (Ev.checkHealth_warns rfl (.inr (.inl ⟨hm, by omega⟩))).trans ?_,
        fun h => Bool.or_eq_true_iff.2 (.inl h)⟩
      have checked : (e.s.panel p).checked = { e.s.panel p with warning := decide (48 ≤ (e.s.panel p).health) } := by
        rw [Panel.checked, if_neg fun h => hl h.2, if_neg fun h => (by cases hm.symm.trans h.1)]
      rw [checked]
      rfl
  · by_cases hl : (e.s.panel p).health ≤ 64
    · refine ⟨(e.s.raise .panel).attn, (Ev.checkHealth_restores rfl hm hl).trans ?_, fun _ => rfl⟩
      have checked : (e.s.panel p).checked =
          { e.s.panel p with warning := decide (48 ≤ (e.s.panel p).health), mode := .on } := by
        rw [Panel.checked, if_neg fun h => (by cases hm.symm.trans h.1), if_pos ⟨hm, hl⟩]
      rw [checked]
      rfl
    · refine ⟨(e.warned p).attn, (Ev.checkHealth_warns rfl (.inr (.inr ⟨hm, by omega, hh⟩))).trans ?_,
        fun h => Bool.or_eq_true_iff.2 (.inl h)⟩
      have checked : (e.s.panel p).checked = { e.s.panel p with warning := decide (48 ≤ (e.s.panel p).health) } := by
        rw [Panel.checked, if_neg fun h => (by cases hm.symm.trans h.1), if_neg fun h => hl h.2]
      rw [checked]
      rfl

end

/-! ### The timeout check of one panel -/

/-- R151, R154: what the timeout check of one panel makes of an event, with `owed` for an acknowledgement still owed. -/
structure Ev.TimedOut (p : PanelId) (owed : Bool) (d e : Ev) : Prop where
  other : e.s.panel (otherPanel p) = d.s.panel (otherPanel p)
  now : e.s.now = d.s.now
  raised : d.s.attn.flags.panel = true → e.s.attn.flags.panel = true
  marked : d.resolveAll = true → e.resolveAll = true
  free : ∀ k, d.s.slot k = .free → e.s.slot k = .free
  shared : e.s.shared = d.s.shared ∨ e.s.shared = { d.s.shared with joined := .notJoined }
  below : (owed = true → (d.s.panel p).health < 192) → e.s.shared = d.s.shared ∧ e.resolveAll = d.resolveAll ∧
    e.s.slots = d.s.slots ∧ e.s.panel p = if owed then (d.s.panel p).checked else d.s.panel p
  above : owed = true → 192 ≤ (d.s.panel p).health → e.s.panel p = d.s.timedOut (d.s.panel p) ∧
    (∀ k, d.s.user k = p → e.s.slot k = .free) ∧ e.s.shared = { d.s.shared with joined := .notJoined } ∧
    e.s.attn.flags.panel = true ∧ e.resolveAll = true

section
variable {d : Ev} {p : PanelId} {w : State}

theorem Ev.TimedOut.of_unowed (d : Ev) (p : PanelId) : Ev.TimedOut p false d d where
  other := rfl
  now := rfl
  raised := id
  marked := id
  free := fun _ h => h
  shared := .inl rfl
  below := fun _ => ⟨rfl, rfl, rfl, rfl⟩
  above := nofun

theorem Ev.TimedOut.of_below (hs : (d.s.panel p).inService = true) (hh : (d.s.panel p).health < 192) :
    Ev.TimedOut p true d (d.checkHealth p) := by
  obtain ⟨a, whole, raised⟩ := Ev.checkHealth_below hs hh
  rw [whole]
  exact {
    other := d.s.panel_modPanel_other p fun _ => (d.s.panel p).checked
    now := rfl
    raised := raised
    marked := id
    free := fun _ h => h
    shared := .inl rfl
    below := fun _ => ⟨rfl, rfl, rfl, d.s.panel_setPanel_same p _⟩
    above := fun _ h => absurd h (by omega) }

theorem Ev.TimedOut.of_above (hs : (d.s.panel p).inService = true) (hh : 192 ≤ (d.s.panel p).health) :
    Ev.TimedOut p true d (d.checkHealth p) := by
  have frame := Ev.checkHealth_offline_frame hs hh
  have whole := Ev.checkHealth_offline hs hh
  obtain ⟨own, other⟩ := Ev.checkHealth_offline_panel hs hh
  have raised : (d.checkHealth p).s.attn.flags.panel = true := by
    rw [frame.attn]
    rfl
  have marked : (d.checkHealth p).resolveAll = true := by rw [whole]
  have shared : (d.checkHealth p).s.shared = { d.s.shared with joined := .notJoined } := by
    rw [frame.shared]
    rfl
  exact {
    other := other
    now := (d.checkHealth_blocks p).now
    raised := fun _ => raised
    marked := fun _ => marked
    free := fun k h => by rw [Ev.checkHealth_offline_slot hs hh, h, ite_self]
    shared := .inr shared
    below := fun h => absurd (h rfl) (by omega)
    above := fun _ _ => ⟨own, fun k hk => by rw [Ev.checkHealth_offline_slot hs hh, if_pos hk], shared, raised, marked⟩ }

theorem Ev.checkTimeout_timedOut (hs : (d.s.panel p).inService = true) :
    Ev.TimedOut p (w.panel p).ackOwed d (Ev.checkTimeout p w d) := by
  unfold Ev.checkTimeout
  cases ho : (w.panel p).ackOwed with
  | false => exact .of_unowed d p
  | true =>
    by_cases hh : (d.s.panel p).health < 192
    · exact .of_below hs hh
    · exact .of_above hs (not_lt.1 hh)

end
end Sys2Proof.Machine
end

section
/-! SUPPORT. A frame start (R131, R132, R136): the slots that apply (R133), the stack (R140), the reports of the applied slots (R139,
R48), and the panels that frame-start with the acknowledgements they owe (R151). -/

namespace Sys2Proof.Machine

/-! ### The stack depends on the live slots of its panel -/

theorem insertStack_congr {f g : Fin 16 → Nat} {k : Fin 16} {l : List (Fin 16)} (hk : f k = g k) (hl : ∀ m ∈ l, f m = g m) :
    insertStack f k l = insertStack g k l := by
  induction l with
  | nil => rfl
  | cons m ms ih =>
    unfold insertStack
    rw [hk, hl m List.mem_cons_self, ih fun x hx => hl x (List.mem_cons_of_mem _ hx)]

theorem foldl_insertStack_congr {f g : Fin 16 → Nat} {l acc : List (Fin 16)} (hl : ∀ m ∈ l, f m = g m)
    (hacc : ∀ m ∈ acc, f m = g m) :
    l.foldl (fun st k => insertStack f k st) acc = l.foldl (fun st k => insertStack g k st) acc := by
  induction l generalizing acc with
  | nil => rfl
  | cons k ks ih =>
    have hk := hl k List.mem_cons_self
    rw [List.foldl_cons, List.foldl_cons, insertStack_congr hk hacc]
    refine ih (fun m hm => hl m (List.mem_cons_of_mem _ hm)) fun m hm => ?_
    rcases List.mem_cons.1 ((insertStack_perm g k acc).mem_iff.1 hm) with rfl | hm
    · exact hk
    · exact hacc m hm

theorem LayerSlot.isLive_eq (x : LayerSlot) : x.isLive = x.live?.isSome := by cases x <;> rfl

theorem LayerSlot.cfg?_eq (x : LayerSlot) : x.cfg? = x.live?.map Prod.snd := by cases x <;> rfl

theorem State.stackOf_congr {s t : State} {p : PanelId} (hu : ∀ k, t.user k = s.user k)
    (hl : ∀ k, s.user k = p → (t.slot k).live? = (s.slot k).live?) : t.stackOf p = s.stackOf p := by
  have list : (allSlots.filter fun k => t.uses p k && (t.slot k).isLive) =
      allSlots.filter fun k => s.uses p k && (s.slot k).isLive := by
    refine List.filter_congr fun k _ => ?_
    by_cases hk : s.user k = p
    · rw [State.uses, State.uses, hu, LayerSlot.isLive_eq, LayerSlot.isLive_eq, hl k hk]
    · have apart : s.uses p k = false := Bool.eq_false_iff.2 fun h => hk (State.uses_iff.1 h)
      rw [State.uses, hu, ← State.uses, apart, Bool.false_and, Bool.false_and]
  unfold State.stackOf
  rw [list]
  refine foldl_insertStack_congr (fun m hm => ?_) nofun
  have used := (Bool.and_eq_true_iff.1 (List.mem_filter.1 hm).2).1
  rw [LayerSlot.cfg?_eq, LayerSlot.cfg?_eq, hl m (State.uses_iff.1 used)]

/-! ### The due configurations -/

theorem LayerSlot.live?_applied (x : LayerSlot) : (x.applied?.getD x).live? = x.liveNext := by
  rcases x with _ | ⟨o, _ | ⟨c, _ | _⟩ | _ | _⟩ | ⟨o, c, _ | ⟨d, _ | _⟩ | _ | _⟩ <;> rfl

section
variable {s : State} {p q : PanelId}

theorem State.slot_applyDue (k : Fin 16) :
    (s.applyDue p).slot k = if s.user k = p then (s.slot k).applied?.getD (s.slot k) else s.slot k := by
  simp only [State.slot, State.applyDue, Fin.getElem_fin, Vector.getElem_ofFn, State.uses_iff]

theorem State.openFrame_slots : (s.openFrame p).slots = (s.applyDue p).slots := rfl

theorem State.slot_openFrame (k : Fin 16) :
    (s.openFrame p).slot k = if s.user k = p then (s.slot k).applied?.getD (s.slot k) else s.slot k := by
  rw [State.slot, State.openFrame_slots, ← State.slot, State.slot_applyDue]

theorem State.live?_openFrame (k : Fin 16) :
    ((s.openFrame p).slot k).live? = if s.user k = p then (s.slot k).liveNext else (s.slot k).live? := by
  rw [State.slot_openFrame]
  split
  · exact LayerSlot.live?_applied _
  · rfl

theorem State.user_openFrame (k : Fin 16) : (s.openFrame p).user k = s.user k :=
  State.user_of_shared (State.openFrame_shared ..) k

theorem State.panel_openFrame : (s.openFrame p).panel q = if q = p then { (s.panel p).countTimeout with
    stack := (s.openFrame p).stackOf p, ackOwed := true } else s.panel q := by
  have stack : (s.openFrame p).stackOf p = (s.applyDue p).stackOf p := by
    refine State.stackOf_congr (fun k => ?_) fun k _ => ?_
    · rw [State.user, State.user, State.openFrame_shared, State.applyDue_shared]
    · rw [State.slot, State.slot, State.openFrame_slots]
  have own : (s.applyDue p).panel = s.panel := by
    funext q
    simp only [State.panel, State.applyDue_panels]
  rw [stack, State.openFrame, State.panel_modPanel, own]

end

/-! ### The reports of the applied slots -/

section
variable {e : Ev} {before : State} {p : PanelId} {k : Fin 16} {o : Handle}

/-- R139: the action of a step on an applied slot counts as settled. -/
def Job.settleSlot (k : Fin 16) (j : Job) : Job := { j with outstanding := j.outstanding.filter fun a => decide (a.slot ≠ k) }

theorem Job.settleSlot_eq (k : Fin 16) :
    (fun j : Job => { j with outstanding := j.outstanding.filter fun a => !(a.slot == k) }) = Job.settleSlot k := by
  funext j
  have same : (fun a : SlotAction => !(a.slot == k)) = fun a => decide (a.slot ≠ k) := by
    funext a
    simp [BEq.beq]
  rw [Job.settleSlot, same]

theorem Ev.reportApplied_unowned (h : (before.slot k).owner? = none) : Ev.reportApplied p before e k = e := by
  unfold Ev.reportApplied
  rw [h]

/-- R48: a slot with a live configuration after the frame start gives its record the piece. -/
theorem Ev.reportApplied_live (ho : (before.slot k).owner? = some o) {c : SlotConfig} (hc : (e.s.slot k).cfg? = some c) :
    Ev.reportApplied p before e k = { e with s := ((e.s.modRecord o.index fun r =>
      { r with pieces := enterPiece (c.piece p k) r.pieces }).checkCurrency o.index).modJob o.index (Job.settleSlot k) } := by
  simp only [Ev.reportApplied, ho, hc, Job.settleSlot_eq]
  rfl

/-- R49: a slot that the frame start has freed takes its piece from its record. -/
theorem Ev.reportApplied_freed (ho : (before.slot k).owner? = some o) (hc : (e.s.slot k).cfg? = none) :
    Ev.reportApplied p before e k = { e with
      s := (((e.s.modRecord o.index fun r => { r with pieces := leavePiece k r.pieces }).checkRetired
        o.index).checkCurrency o.index).modJob o.index (Job.settleSlot k)
      walk := true } := by
  simp only [Ev.reportApplied, ho, hc, Job.settleSlot_eq]
  rfl

end

/-- What the reports of a frame start and the ends of steps leave of the event. -/
structure Ev.Reported (d e : Ev) : Prop where
  panels : e.s.panels = d.s.panels
  shared : e.s.shared = d.s.shared
  now : e.s.now = d.s.now
  live : ∀ k, (e.s.slot k).live? = (d.s.slot k).live?
  resolveAll : e.resolveAll = d.resolveAll

section
variable {c d e : Ev}

theorem Ev.Reported.refl (e : Ev) : Ev.Reported e e := ⟨rfl, rfl, rfl, fun _ => rfl, rfl⟩

theorem Ev.Reported.trans (h : Ev.Reported c d) (k : Ev.Reported d e) : Ev.Reported c e where
  panels := k.panels.trans h.panels
  shared := k.shared.trans h.shared
  now := k.now.trans h.now
  live m := (k.live m).trans (h.live m)
  resolveAll := k.resolveAll.trans h.resolveAll

theorem Ev.reportApplied_reported (p : PanelId) (before : State) (e : Ev) (k : Fin 16) :
    Ev.Reported e (Ev.reportApplied p before e k) := by
  have frame := Ev.reportApplied_tableFrame e p before k
  have blocks := Ev.reportApplied_blocks p before e k
  have rest : (Ev.reportApplied p before e k).s.slots = e.s.slots ∧
      (Ev.reportApplied p before e k).resolveAll = e.resolveAll := by
    cases ho : (before.slot k).owner? with
    | none =>
      rw [Ev.reportApplied_unowned ho]
      exact ⟨rfl, rfl⟩
    | some o =>
      cases hc : (e.s.slot k).cfg? with
      | some c =>
        rw [Ev.reportApplied_live ho hc]
        exact ⟨((State.modRecord_onlyEntry ..).trans (State.checkCurrency_onlyEntry ..)).slots, rfl⟩
      | none =>
        rw [Ev.reportApplied_freed ho hc]
        exact ⟨(((State.modRecord_onlyEntry ..).trans (State.checkRetired_onlyEntry ..)).trans
          (State.checkCurrency_onlyEntry ..)).slots, rfl⟩
  exact ⟨frame.panels, frame.shared, blocks.now, fun m => by rw [State.slot, State.slot, rest.1], rest.2⟩

theorem Ev.reportFrame_reported (p : PanelId) (before : State) (e : Ev) : Ev.Reported e (Ev.reportFrame p before e) := by
  have fold (l : List (Fin 16)) (d : Ev) : Ev.Reported d (l.foldl (Ev.reportApplied p before) d) := by
    induction l generalizing d with
    | nil => exact .refl d
    | cons k ks ih => exact (Ev.reportApplied_reported p before d k).trans (ih _)
  exact fold _ e

theorem Ev.endSteps_reported (e : Ev) : Ev.Reported e e.endSteps where
  panels := e.endSteps_frame.panels
  shared := e.endSteps_frame.shared
  now := e.endSteps_frame.blocks.now
  live := e.endSteps_frame.live
  resolveAll := e.endSteps_resolveAll

end

/-! ### The timeout checks of the panels that frame-start -/

/-- R151, R154: what the timeout checks of the panels that frame-start make of an event. -/
structure Ev.Timeouts (runs owed : PanelId → Bool) (d e : Ev) : Prop where
  rest : ∀ q, runs q = false → e.s.panel q = d.s.panel q
  below : (∀ q, runs q = true → owed q = true → (d.s.panel q).health < 192) → e.s.shared = d.s.shared ∧
    e.resolveAll = d.resolveAll ∧ e.s.slots = d.s.slots ∧
    ∀ q, runs q = true → e.s.panel q = if owed q then (d.s.panel q).checked else d.s.panel q
  above : ∀ q, runs q = true → owed q = true → 192 ≤ (d.s.panel q).health → e.s.panel q = d.s.timedOut (d.s.panel q) ∧
    (∀ k, d.s.user k = q → e.s.slot k = .free) ∧ e.s.shared = { d.s.shared with joined := .notJoined } ∧
    e.s.attn.flags.panel = true ∧ e.resolveAll = true

section
variable {runs owed : PanelId → Bool} {d m e : Ev}

theorem Ev.TimedOut.solo {p : PanelId} (h : Ev.TimedOut p (owed p) d e) (hr : ∀ q, runs q = decide (q = p)) :
    Ev.Timeouts runs owed d e where
  rest q hq := by
    have other : q = otherPanel p := by
      rw [hr] at hq
      cases p <;> cases q <;> simp_all [otherPanel]
    rw [other, h.other]
  below hb := by
    obtain ⟨shared, marked, slots, own⟩ := h.below (hb p (by rw [hr]; exact decide_eq_true rfl))
    refine ⟨shared, marked, slots, fun q hq => ?_⟩
    rw [hr, decide_eq_true_eq] at hq
    rw [hq, own]
  above q hq := by
    rw [hr, decide_eq_true_eq] at hq
    subst hq
    exact h.above

/-- The timeouts of an entry to OFFLINE are timed by what the panels share. -/
theorem State.timedOut_congr {s t : State} (hn : t.now = s.now) (ht : t.shared = s.shared ∨
    t.shared = { s.shared with joined := .notJoined }) (x : Panel) : t.timedOut x = s.timedOut x := by
  have off : t.shared.tOff = s.shared.tOff := by rcases ht with h | h <;> rw [h]
  have quiet : t.shared.tQuiet = s.shared.tQuiet := by rcases ht with h | h <;> rw [h]
  simp only [State.timedOut, State.offlinePanel, State.timerFor, State.quietFor, State.after, hn, off, quiet]

/-- A panel's timeout check leaves which slots a panel uses. -/
theorem Ev.TimedOut.user {p : PanelId} {b : Bool} (h : Ev.TimedOut p b d e) (k : Fin 16) : e.s.user k = d.s.user k := by
  rcases h.shared with h | h <;> rw [State.user, State.user, h]

/-- R154 (log 16): in joined mode panel 0's check comes first, and the two leave each other's panel alone. -/
theorem Ev.TimedOut.joint (h0 : Ev.TimedOut .p0 (owed .p0) d m) (h1 : Ev.TimedOut .p1 (owed .p1) m e)
    (hr : ∀ q, runs q = true) : Ev.Timeouts runs owed d e where
  rest q hq := by cases (hr q).symm.trans hq
  below hb := by
    have p1 : m.s.panel .p1 = d.s.panel .p1 := h0.other
    obtain ⟨shared0, marked0, slots0, own0⟩ := h0.below (hb .p0 (hr _))
    obtain ⟨shared1, marked1, slots1, own1⟩ := h1.below (p1.symm ▸ hb .p1 (hr _))
    refine ⟨shared1.trans shared0, marked1.trans marked0, slots1.trans slots0, fun q _ => ?_⟩
    cases q with
    | p0 => exact h1.other.trans own0
    | p1 => rw [own1, p1]
  above q _ ho hh := by
    have p1 : m.s.panel .p1 = d.s.panel .p1 := h0.other
    cases q with
    | p0 =>
      obtain ⟨own, free, shared, raised, marked⟩ := h0.above ho hh
      refine ⟨h1.other.trans own, fun k hk => h1.free k (free k hk), ?_, h1.raised raised, h1.marked marked⟩
      rcases h1.shared with h | h <;> rw [h, shared]
    | p1 =>
      obtain ⟨own, free, shared, raised, marked⟩ := h1.above ho (p1.symm ▸ hh)
      refine ⟨?_, fun k hk => free k ((h0.user k).trans hk), ?_, raised, marked⟩
      · rw [own, p1, State.timedOut_congr h0.now h0.shared]
      · rw [shared]
        rcases h0.shared with h | h <;> rw [h]

end
end Sys2Proof.Machine
end

section
/-! SUPPORT. A frame start, whole, alone and in joined mode and at the lock (R131, R132, R136), with the reports of its applied slots
(R48, R66, R139), and the staging cutoff (R133). -/

namespace Sys2Proof.Machine

/-! ### A panel at its frame start -/

/-- R132, R133, R140, R151: a panel as its frame start leaves it, before the threshold checks. -/
def Panel.reopened (effective : Nat) (owed : Bool) (stack : List (Fin 16)) (x : Panel) : Panel := { x with
  period := x.pendPeriod.getD x.period, lead := x.pendLead.getD x.lead, pendPeriod := none, pendLead := none
  effective := effective, counter := 0, cutoffDone := false, ackOwed := true, stack := stack
  health := if owed then min 255 (x.health + 6) else x.health
  linkError := if owed then .ackTimeout else x.linkError }

section
variable {x : Panel} {n : Nat} {owed : Bool} {l : List (Fin 16)}

theorem Panel.countTimeout_eq : { (x.adopt.beginFrame n).countTimeout with stack := l, ackOwed := true } =
    x.reopened n x.ackOwed l := by
  unfold Panel.countTimeout
  cases h : x.ackOwed with
  | false => simp [Panel.reopened, Panel.beginFrame, Panel.adopt, h]
  | true => simp [Panel.reopened, Panel.beginFrame, Panel.adopt, errorHealth, Config.healthMax, Config.errorStep, h]

/-- The time that has run in the last frame has no part in the new one. -/
theorem Panel.reopened_elapse (us : Nat) : (x.elapse us).reopened n owed l = x.reopened n owed l := by
  unfold Panel.elapse
  split <;> rfl

theorem Panel.reopened_withdrawn (b : Bool) : ({ x with ackOwed := b } : Panel).reopened n owed l = x.reopened n owed l := rfl

theorem Panel.reopened_inService : (x.reopened n owed l).inService = x.inService := rfl

end

/-! ### The panels that frame-start -/

/-- R132: from an event to the ends of steps within its frame start, with the effective period of each panel that frame-starts. -/
structure Ev.Opened (runs : PanelId → Bool) (effective : PanelId → Nat) (c d : Ev) : Prop where
  panel : ∀ q, runs q = true →
    d.s.panel q = (c.s.panel q).reopened (effective q) (c.s.panel q).ackOwed (d.s.stackOf q)
  rest : ∀ q, runs q = false → d.s.panel q = c.s.panel q
  shared : d.s.shared = c.s.shared
  now : d.s.now = c.s.now
  live : ∀ k, (d.s.slot k).live? = if runs (c.s.user k) then (c.s.slot k).liveNext else (c.s.slot k).live?
  resolveAll : d.resolveAll = c.resolveAll

section
variable {runs : PanelId → Bool} {effective : PanelId → Nat} {c o d : Ev}

theorem Ev.Opened.reported (h : Ev.Opened runs effective c o) (k : Ev.Reported o d) : Ev.Opened runs effective c d where
  panel q hq := by
    have stack : d.s.stackOf q = o.s.stackOf q :=
      State.stackOf_congr (fun m => State.user_of_shared k.shared m) fun m _ => k.live m
    rw [State.panel, k.panels, stack]
    exact h.panel q hq
  rest q hq := by
    rw [State.panel, k.panels]
    exact h.rest q hq
  shared := k.shared.trans h.shared
  now := k.now.trans h.now
  live m := (k.live m).trans (h.live m)
  resolveAll := k.resolveAll.trans h.resolveAll

end

/-! ### A frame start of one panel alone -/

/-- R132 steps 1 and 2, for one panel. -/
def State.soloBase (s : State) (p : PanelId) : State := s.modPanel p fun x => x.adopt.beginFrame x.adopt.soloPeriod

section
variable {c : Ev} {p : PanelId}

theorem Ev.soloFrame_eq : c.soloFrame p = Ev.checkTimeout p (c.s.soloBase p)
    ({ c with s := (c.s.soloBase p).openFrame p }.reportFrame p (c.s.soloBase p)).endSteps := rfl

theorem Ev.solo_opened (c : Ev) (p : PanelId) : Ev.Opened (fun q => decide (q = p)) (fun q => (c.s.panel q).adopt.soloPeriod) c
    { c with s := (c.s.soloBase p).openFrame p } where
  panel q hq := by
    rw [decide_eq_true_eq] at hq
    subst hq
    refine State.panel_openFrame.trans ((if_pos rfl).trans ?_)
    rw [State.soloBase, State.panel_modPanel_same]
    exact Panel.countTimeout_eq
  rest q hq := by
    rw [decide_eq_false_iff_not] at hq
    refine State.panel_openFrame.trans ((if_neg hq).trans ?_)
    rw [State.soloBase, State.panel_modPanel, if_neg hq]
  shared := State.openFrame_shared ..
  now := State.openFrame_now ..
  live k := by
    refine State.live?_openFrame k |>.trans ?_
    simp only [decide_eq_true_eq]
    rfl
  resolveAll := rfl

theorem Ev.soloFrame_spec (hs : (c.s.panel p).inService = true) : ∃ d, Ev.Opened (fun q => decide (q = p))
    (fun q => (c.s.panel q).adopt.soloPeriod) c d ∧
    Ev.Timeouts (fun q => decide (q = p)) (fun q => (c.s.panel q).ackOwed) d (c.soloFrame p) := by
  have opened := (Ev.solo_opened c p).reported ((Ev.reportFrame_reported p (c.s.soloBase p) _).trans (Ev.endSteps_reported _))
  have owed : ((c.s.soloBase p).panel p).ackOwed = (c.s.panel p).ackOwed := by
    rw [State.soloBase, State.panel_modPanel_same]
    rfl
  refine ⟨_, opened, Ev.TimedOut.solo (p := p) ?_ fun _ => rfl⟩
  rw [← owed]
  refine Ev.checkTimeout_timedOut ?_
  rw [opened.panel p (decide_eq_true rfl)]
  exact hs

end

/-! ### A frame start of both panels as one event -/

/-- R132 step 1, for both panels. -/
def State.adopted (s : State) : State := (s.modPanel .p0 Panel.adopt).modPanel .p1 Panel.adopt

/-- R132 steps 1 and 2, for both panels. -/
def State.jointBase (s : State) : State :=
  (s.adopted.modPanel .p0 (Panel.beginFrame s.adopted.jointPeriod)).modPanel .p1 (Panel.beginFrame s.adopted.jointPeriod)

section
variable {c : Ev}

theorem Ev.jointFrame_eq : c.jointFrame = Ev.checkTimeout .p1 c.s.jointBase (Ev.checkTimeout .p0 c.s.jointBase
    (({ c with s := (c.s.jointBase.openFrame .p0).openFrame .p1 }.reportFrame .p0 c.s.jointBase).reportFrame .p1
      c.s.jointBase).endSteps) := rfl

theorem State.jointBase_panel (s : State) (q : PanelId) :
    s.jointBase.panel q = (s.panel q).adopt.beginFrame s.adopted.jointPeriod := by cases q <;> rfl

theorem Ev.joint_opened (c : Ev) : Ev.Opened (fun _ => true) (fun _ => c.s.adopted.jointPeriod) c
    { c with s := (c.s.jointBase.openFrame .p0).openFrame .p1 } where
  panel q _ := by
    have first (q : PanelId) : (c.s.jointBase.openFrame .p0).panel q = if q = .p0 then
        { (c.s.jointBase.panel .p0).countTimeout with stack := (c.s.jointBase.openFrame .p0).stackOf .p0, ackOwed := true }
      else c.s.jointBase.panel q := State.panel_openFrame
    refine State.panel_openFrame.trans ?_
    cases q with
    | p0 =>
      have stack : ((c.s.jointBase.openFrame .p0).openFrame .p1).stackOf .p0 = (c.s.jointBase.openFrame .p0).stackOf .p0 := by
        refine State.stackOf_congr State.user_openFrame fun k hk => ?_
        rw [State.live?_openFrame, if_neg (by rw [hk]; exact nofun)]
      rw [if_neg (by exact nofun), first, if_pos rfl, stack, State.jointBase_panel]
      exact Panel.countTimeout_eq
    | p1 =>
      rw [if_pos rfl, first, if_neg (by exact nofun), State.jointBase_panel]
      exact Panel.countTimeout_eq
  rest q hq := by cases hq
  shared := (State.openFrame_shared ..).trans (State.openFrame_shared ..)
  now := (State.openFrame_now ..).trans (State.openFrame_now ..)
  live k := by
    have same : c.s.jointBase.slot k = c.s.slot k := rfl
    have user : c.s.jointBase.user k = c.s.user k := rfl
    refine State.live?_openFrame k |>.trans ?_
    rw [State.user_openFrame, State.slot_openFrame, user, same, if_pos rfl]
    cases c.s.user k with
    | p0 =>
      rw [if_neg (by exact nofun), if_pos rfl]
      exact LayerSlot.live?_applied _
    | p1 => rw [if_pos rfl, if_neg (by exact nofun)]
  resolveAll := rfl

theorem Ev.jointFrame_spec (hs : ∀ q, (c.s.panel q).inService = true) : ∃ d, Ev.Opened (fun _ => true)
    (fun _ => c.s.adopted.jointPeriod) c d ∧
    Ev.Timeouts (fun _ => true) (fun q => (c.s.panel q).ackOwed) d c.jointFrame := by
  have opened := (Ev.joint_opened c).reported (((Ev.reportFrame_reported .p0 c.s.jointBase _).trans
    (Ev.reportFrame_reported .p1 c.s.jointBase _)).trans (Ev.endSteps_reported _))
  have owed (q : PanelId) : (c.s.jointBase.panel q).ackOwed = (c.s.panel q).ackOwed := by
    rw [State.jointBase_panel]
    rfl
  have service (q : PanelId) := (congrArg Panel.inService (opened.panel q rfl)).trans (hs q)
  refine ⟨_, opened, ?_⟩
  have first := Ev.checkTimeout_timedOut (w := c.s.jointBase) (service .p0)
  have second := Ev.checkTimeout_timedOut (w := c.s.jointBase) ((congrArg Panel.inService first.other).trans (service .p1))
  rw [owed] at first second
  exact Ev.TimedOut.joint first second fun _ => rfl

end
end Sys2Proof.Machine
end

section
/-! SUPPORT. The whole frame start in its three forms, the report of one applied slot in the form of the obligation, and the staging
cutoff (R131 to R133, R136, R139). -/

namespace Sys2Proof.Machine

/-! ### The three forms of a frame start -/

theorem Panel.elapse_eq (x : Panel) (us : Nat) : x.elapse us = { x with counter := (x.elapse us).counter } := by
  unfold Panel.elapse
  split <;> rfl

section
variable {x : Panel} (us : Nat)

theorem Panel.elapse_ackOwed : (x.elapse us).ackOwed = x.ackOwed := by rw [Panel.elapse_eq]

theorem Panel.elapse_inService : (x.elapse us).inService = x.inService := by rw [Panel.inService, Panel.elapse_mode]; rfl

theorem Panel.elapse_soloPeriod : (x.elapse us).adopt.soloPeriod =
    if x.mode = .degraded then 2 * x.pendPeriod.getD x.period else x.pendPeriod.getD x.period := by
  rw [Panel.elapse_eq]
  rfl

end

theorem State.adopted_jointPeriod (s : State) : s.adopted.jointPeriod =
    if (s.panel .p0).mode = .degraded ∨ (s.panel .p1).mode = .degraded
    then 2 * (s.panel .p0).pendPeriod.getD (s.panel .p0).period else (s.panel .p0).pendPeriod.getD (s.panel .p0).period := rfl

theorem State.elapse_jointPeriod (s : State) (us : Nat) : (s.elapse us).adopted.jointPeriod =
    if (s.panel .p0).mode = .degraded ∨ (s.panel .p1).mode = .degraded
    then 2 * (s.panel .p0).pendPeriod.getD (s.panel .p0).period else (s.panel .p0).pendPeriod.getD (s.panel .p0).period := by
  rw [State.adopted_jointPeriod, State.panel_elapse, State.panel_elapse, Panel.elapse_eq (s.panel .p0),
    Panel.elapse_eq (s.panel .p1)]

/-- R132, R136: the panels of a frame start up to the threshold checks, from the state before it. -/
structure State.Frame (s v : State) (lock joint : Bool) (runs owed : PanelId → Bool) (effective : PanelId → Nat) (d : Ev) :
    Prop where
  panel : ∀ q, runs q = true → d.s.panel q = (s.panel q).reopened (effective q) (owed q) (d.s.stackOf q)
  rest : ∀ q, runs q = false → d.s.panel q = v.panel q
  shared : d.s.shared = { s.shared with joined := if joint then .joined else s.shared.joined }
  now : d.s.now = v.now
  live : ∀ k, (d.s.slot k).live? = if runs (s.user k) then (s.slot k).liveNext else (s.slot k).live?
  resolveAll : d.resolveAll = lock

section
variable {s : State} {p : PanelId} {us : Nat}

/-- R131: outside joined mode, and for panel 1 in LOCK_PENDING, the panel frame-starts alone. -/
theorem Ev.frameStart_solo (hs : (s.panel p).inService = true)
    (hj : s.shared.joined ≠ .joined ∧ ¬(s.shared.joined = .lockPending ∧ p = .p0)) : ∃ d,
    s.Frame (s.elapse us) false false (fun q => decide (q = p)) (fun q => (s.panel q).ackOwed)
      (fun q => if (s.panel q).mode = .degraded then 2 * (s.panel q).pendPeriod.getD (s.panel q).period
        else (s.panel q).pendPeriod.getD (s.panel q).period) d ∧
    Ev.Timeouts (fun q => decide (q = p)) (fun q => (s.panel q).ackOwed) d ((Ev.start (s.elapse us)).frameStart p) := by
  have panel (q : PanelId) : (Ev.start (s.elapse us)).s.panel q = (s.panel q).elapse us := s.panel_elapse us q
  have solo : (Ev.start (s.elapse us)).frameStart p = (Ev.start (s.elapse us)).soloFrame p := by
    have shared : (Ev.start (s.elapse us)).s.shared.joined = s.shared.joined := rfl
    unfold Ev.frameStart
    rw [shared]
    split
    · next h => exact absurd h hj.1
    · next h => exact absurd ⟨h, rfl⟩ hj.2
    · rfl
  obtain ⟨d, opened, timeouts⟩ := Ev.soloFrame_spec (c := Ev.start (s.elapse us)) (p := p)
    (by rw [panel, Panel.elapse_inService, hs])
  have owed : (fun q => ((Ev.start (s.elapse us)).s.panel q).ackOwed) = fun q => (s.panel q).ackOwed := by
    funext q
    rw [panel, Panel.elapse_ackOwed]
  rw [owed] at timeouts
  rw [solo]
  refine ⟨d, ?_, timeouts⟩
  exact {
    panel := fun q hq => by
      rw [opened.panel q hq, panel, Panel.reopened_elapse, Panel.elapse_ackOwed, Panel.elapse_soloPeriod]
    rest := opened.rest
    shared := opened.shared
    now := opened.now
    live := opened.live
    resolveAll := opened.resolveAll }

/-- R136: in JOINED both panels frame-start as one event. -/
theorem Ev.frameStart_joined (hs : ∀ q, (s.panel q).inService = true) (hj : s.shared.joined = .joined) : ∃ d,
    s.Frame (s.elapse us) false true (fun _ => true) (fun q => (s.panel q).ackOwed)
      (fun _ => if (s.panel .p0).mode = .degraded ∨ (s.panel .p1).mode = .degraded
        then 2 * (s.panel .p0).pendPeriod.getD (s.panel .p0).period
        else (s.panel .p0).pendPeriod.getD (s.panel .p0).period) d ∧
    Ev.Timeouts (fun _ => true) (fun q => (s.panel q).ackOwed) d ((Ev.start (s.elapse us)).frameStart p) := by
  have panel (q : PanelId) : (Ev.start (s.elapse us)).s.panel q = (s.panel q).elapse us := s.panel_elapse us q
  have joint : (Ev.start (s.elapse us)).frameStart p = (Ev.start (s.elapse us)).jointFrame := by
    have shared : (Ev.start (s.elapse us)).s.shared.joined = .joined := hj
    unfold Ev.frameStart
    rw [shared]
  obtain ⟨d, opened, timeouts⟩ := Ev.jointFrame_spec (c := Ev.start (s.elapse us))
    fun q => by rw [panel, Panel.elapse_inService, hs]
  have owed : (fun q => ((Ev.start (s.elapse us)).s.panel q).ackOwed) = fun q => (s.panel q).ackOwed := by
    funext q
    rw [panel, Panel.elapse_ackOwed]
  rw [owed] at timeouts
  rw [joint]
  refine ⟨d, ?_, timeouts⟩
  exact {
    panel := fun q hq => by
      have period := s.elapse_jointPeriod us
      rw [opened.panel q hq, panel, Panel.reopened_elapse, Panel.elapse_ackOwed]
      exact congrArg (fun n => (s.panel q).reopened n (s.panel q).ackOwed (d.s.stackOf q)) period
    rest := opened.rest
    shared := by
      rw [opened.shared]
      exact congrArg (fun j => { s.shared with joined := j }) hj
    now := opened.now
    live := opened.live
    resolveAll := opened.resolveAll }

/-- R136: the event of the lock, before the joint frame. -/
def Ev.locked (e : Ev) : Ev :=
  { e with s := (e.s.modPanel .p1 fun x => { x with ackOwed := false }).setJoined .joined, resolveAll := true }

/-- R136: at panel 0's frame start in LOCK_PENDING the panels lock, and panel 1's owed acknowledgement is withdrawn. -/
theorem Ev.frameStart_lock (hs : ∀ q, (s.panel q).inService = true) (hj : s.shared.joined = .lockPending) : ∃ d,
    s.Frame (s.elapse us) true true (fun _ => true) (fun q => (s.panel q).ackOwed && !decide (q = .p1))
      (fun _ => if (s.panel .p0).mode = .degraded ∨ (s.panel .p1).mode = .degraded
        then 2 * (s.panel .p0).pendPeriod.getD (s.panel .p0).period
        else (s.panel .p0).pendPeriod.getD (s.panel .p0).period) d ∧
    Ev.Timeouts (fun _ => true) (fun q => (s.panel q).ackOwed && !decide (q = .p1)) d
      ((Ev.start (s.elapse us)).frameStart .p0) := by
  have lock : (Ev.start (s.elapse us)).frameStart .p0 = (Ev.start (s.elapse us)).locked.jointFrame := by
    have shared : (Ev.start (s.elapse us)).s.shared.joined = .lockPending := hj
    unfold Ev.frameStart
    rw [shared]
    rfl
  have panel (q : PanelId) : (Ev.start (s.elapse us)).locked.s.panel q =
      { (s.panel q).elapse us with ackOwed := (s.panel q).ackOwed && !decide (q = .p1) } := by
    rw [← Panel.elapse_ackOwed us]
    cases q with
    | p0 => exact congrArg (fun b => { (s.panel .p0).elapse us with ackOwed := b }) (Bool.and_true _).symm
    | p1 => exact congrArg (fun b => { (s.panel .p1).elapse us with ackOwed := b }) (Bool.and_false _).symm
  obtain ⟨d, opened, timeouts⟩ := Ev.jointFrame_spec (c := (Ev.start (s.elapse us)).locked)
    fun q => by
      rw [panel]
      exact ((s.panel q).elapse_inService us).trans (hs q)
  have owed : (fun q => ((Ev.start (s.elapse us)).locked.s.panel q).ackOwed) =
      fun q => (s.panel q).ackOwed && !decide (q = .p1) := by
    funext q
    rw [panel]
  rw [owed] at timeouts
  rw [lock]
  refine ⟨d, ?_, timeouts⟩
  exact {
    panel := fun q hq => by
      rw [opened.panel q hq, panel, Panel.reopened_withdrawn, Panel.reopened_elapse, State.adopted_jointPeriod, panel, panel,
        Panel.elapse_eq (s.panel .p0), Panel.elapse_eq (s.panel .p1)]
    rest := nofun
    shared := opened.shared
    now := opened.now
    live := opened.live
    resolveAll := opened.resolveAll }

end
end Sys2Proof.Machine
end

section
/-! SUPPORT. The frame start as the obligation states it, with its reports and the staging cutoff (R48, R131 to R136, R139, R151). -/

namespace Sys2Proof.Machine

/-! ### The frame start -/

section
variable {s v : State} {p : PanelId} {lock joint : Bool} {runs owed : PanelId → Bool} {period effective : PanelId → Nat}

theorem Ev.frameStart_frame (hs : (s.panel p).inService = true)
    (hlock : lock = (decide (s.shared.joined = .lockPending) && decide (p = .p0)))
    (hjoint : joint = (decide (s.shared.joined = .joined) || lock))
    (hother : joint = true → (s.panel (otherPanel p)).inService = true)
    (hv : v = s.elapse ((s.panel p).effective - (s.panel p).counter)) (hruns : ∀ q, runs q = (joint || decide (q = p)))
    (howed : ∀ q, owed q = ((s.panel q).ackOwed && !(lock && decide (q = .p1))))
    (hperiod : ∀ q, period q = (s.panel q).pendPeriod.getD (s.panel q).period)
    (heff : ∀ q, effective q =
      if joint then (if (s.panel .p0).mode = .degraded ∨ (s.panel .p1).mode = .degraded then 2 * period .p0 else period .p0)
      else if (s.panel q).mode = .degraded then 2 * period q else period q) :
    ∃ d, s.Frame v lock joint runs owed effective d ∧ Ev.Timeouts runs owed d ((Ev.start v).frameStart p) := by
  have both (hj : joint = true) (q : PanelId) : (s.panel q).inService = true := by
    by_cases hq : q = p
    · rw [hq, hs]
    · have : q = otherPanel p := by cases p <;> cases q <;> simp_all [otherPanel]
      rw [this, hother hj]
  obtain rfl : period = fun q => (s.panel q).pendPeriod.getD (s.panel q).period := funext hperiod
  obtain rfl : runs = fun q => joint || decide (q = p) := funext hruns
  obtain rfl : owed = fun q => (s.panel q).ackOwed && !(lock && decide (q = .p1)) := funext howed
  obtain rfl := funext heff
  subst hv
  by_cases hj : s.shared.joined = .joined
  · have hl : lock = false := by simp [hlock, hj]
    have hjt : joint = true := by simp [hjoint, hj]
    subst hl hjt
    simpa using Ev.frameStart_joined (p := p) (both rfl) hj
  · by_cases hlp : s.shared.joined = .lockPending ∧ p = .p0
    · obtain ⟨hlp, rfl⟩ := hlp
      have hl : lock = true := by simp [hlock, hlp]
      subst hl
      have hjt : joint = true := by simp [hjoint]
      subst hjt
      simpa using Ev.frameStart_lock (both rfl) hlp
    · have hl : lock = false := by
        rw [hlock, ← Bool.decide_and]
        exact decide_eq_false hlp
      subst hl
      have hjt : joint = false := by simp [hjoint, hj]
      subst hjt
      simpa using Ev.frameStart_solo hs ⟨hj, hlp⟩

end

/-! ### A frame start with no timeout at the offline level -/

/-- R151 to R153: the panel of a frame start after its threshold check below the offline level. -/
theorem Panel.reopened_checked (x : Panel) (n : Nat) (owed : Bool) (l : List (Fin 16)) {period health : Nat}
    (hp : period = x.pendPeriod.getD x.period) (hh : health = if owed then min 255 (x.health + 6) else x.health) :
    (if owed then (x.reopened n owed l).checked else x.reopened n owed l) = { x with
      period := period, lead := x.pendLead.getD x.lead, pendPeriod := none, pendLead := none
      effective := n, counter := 0, cutoffDone := false, ackOwed := true, stack := l
      health := health
      linkError := if owed then .ackTimeout else x.linkError
      warning := if owed then decide (48 ≤ health) else x.warning
      mode :=
        if owed = true ∧ x.mode = .on ∧ 96 ≤ health then .degraded
        else if owed = true ∧ x.mode = .degraded ∧ health ≤ 64 then .on
        else x.mode } := by
  subst hp hh
  cases owed with
  | false => simp [Panel.reopened]
  | true => simp [Panel.reopened, Panel.checked]

/-- R154: the panel of a frame start whose timeout reaches the offline level. -/
theorem State.timedOut_reopened (d : State) (x : Panel) (n : Nat) (l : List (Fin 16)) {period health now : Nat} {g : Shared}
    (hp : period = x.pendPeriod.getD x.period) (hh : health = min 255 (x.health + 6)) (hn : d.now = now)
    (hoff : d.shared.tOff = g.tOff) (hquiet : d.shared.tQuiet = g.tQuiet) :
    d.timedOut (x.reopened n true l) = { x with
      period := period, lead := x.pendLead.getD x.lead, pendPeriod := none, pendLead := none
      effective := 0, counter := 0, cutoffDone := false, ackOwed := false, stack := [], stableTimer := none
      seqTimer := none, health := health, linkError := .ackTimeout, warning := true, mode := .offline
      offTimer := if g.tOff = 0 then none else some (now + g.tOff * 1000)
      fault := captureFault x.capture x.fault .ackTimeout
      quietTimer := if x.recovery = .auto ∧ x.attempts < 3 then some (now + g.tQuiet * 1000) else none } := by
  subst hp hh hn
  rw [← hoff, ← hquiet]
  rfl

section
variable {s v : State} {lock joint : Bool} {runs owed : PanelId → Bool} {effective : PanelId → Nat} {d e : Ev}
  (frame : s.Frame v lock joint runs owed effective d) (timeouts : Ev.Timeouts runs owed d e)

include frame in
theorem State.Frame.user (k : Fin 16) : d.s.user k = s.user k := by rw [State.user, State.user, frame.shared]

include frame in
theorem State.Frame.health {q : PanelId} (hq : runs q = true) : (d.s.panel q).health =
    if owed q then min 255 ((s.panel q).health + 6) else (s.panel q).health := by
  rw [frame.panel q hq]
  rfl

include frame timeouts

theorem State.Frame.panel_rest {q : PanelId} (hq : runs q = false) : e.done.panel q = v.panel q := by
  rw [State.panel_of_panels e.done_frame.panels, timeouts.rest q hq, frame.rest q hq]

/-- R132, R136: a frame start in which no panel reaches the offline level. -/
theorem State.Frame.below (hb : ∀ q, runs q = true → owed q = true → (d.s.panel q).health < 192) :
    e.done.shared = { s.shared with joined := if joint then .joined else s.shared.joined } ∧ e.resolveAll = lock ∧
    (∀ k, (e.done.slot k).live? = if runs (s.user k) then (s.slot k).liveNext else (s.slot k).live?) ∧
    ∀ q, runs q = true → e.done.panel q = if owed q
      then ((s.panel q).reopened (effective q) (owed q) (e.done.stackOf q)).checked
      else (s.panel q).reopened (effective q) (owed q) (e.done.stackOf q) := by
  obtain ⟨shared, marked, slots, panels⟩ := timeouts.below hb
  have done := e.done_frame
  have live (k : Fin 16) : (e.done.slot k).live? = (d.s.slot k).live? := by
    rw [done.live, State.slot, State.slot, slots]
  refine ⟨(done.shared.trans shared).trans frame.shared, marked.trans frame.resolveAll,
    fun k => (live k).trans (frame.live k), fun q hq => ?_⟩
  have stack : e.done.stackOf q = d.s.stackOf q :=
    State.stackOf_congr (State.user_of_shared (done.shared.trans shared)) fun k _ => live k
  rw [State.panel_of_panels done.panels, panels q hq, frame.panel q hq, stack]

/-- R154: a panel that reaches the offline level at its frame start. -/
theorem State.Frame.above {q : PanelId} (hq : runs q = true) (ho : owed q = true) (hh : 192 ≤ (d.s.panel q).health) :
    e.done.panel q = d.s.timedOut ((s.panel q).reopened (effective q) (owed q) (d.s.stackOf q)) ∧
    (∀ k, s.user k = q → e.done.slot k = .free) ∧ e.done.shared = { s.shared with joined := .notJoined } ∧
    e.done.attn.flags.panel = true ∧ e.resolveAll = true := by
  obtain ⟨panel, free, shared, raised, marked⟩ := timeouts.above q hq ho hh
  have done := e.done_frame
  have user (k : Fin 16) : e.s.user k = s.user k := by
    rw [← frame.user k, State.user, State.user, shared]
  refine ⟨?_, fun k hk => e.done_steady.dark k ?_ (free k ((frame.user k).trans hk)), ?_, done.panel.trans raised, marked⟩
  · rw [State.panel_of_panels done.panels, panel, frame.panel q hq]
  · rw [user, hk, panel]
    rfl
  · rw [done.shared, shared, frame.shared]

end

/-! ### The report of one applied slot -/

theorem mem_enterPiece {t q : Piece} {l : List Piece} : q ∈ enterPiece t l ↔ q = t ∨ q ∈ l ∧ q.panel ≠ t.panel := by
  unfold enterPiece
  cases t.panel <;> simp [or_comm]

/-- R48: the pieces of a placement, panel 0 first. -/
def PiecesOrdered (l : List Piece) : Prop := l.Pairwise fun a b => a.panel = .p0 ∧ b.panel = .p1

theorem PanelId.eq_of_ne_otherPanel {p q : PanelId} (h : q ≠ p) : q = otherPanel p := by
  cases p <;> cases q <;> simp_all [otherPanel]

theorem PiecesOrdered.enterPiece {t : Piece} {l : List Piece} (h : PiecesOrdered l) : PiecesOrdered (enterPiece t l) := by
  have rest : PiecesOrdered (l.filter fun q => !(q.panel == t.panel)) := List.Pairwise.filter _ h
  have other (q : Piece) (hq : q ∈ l.filter fun q => !(q.panel == t.panel)) : q.panel = otherPanel t.panel :=
    PanelId.eq_of_ne_otherPanel (by simpa using (List.mem_filter.1 hq).2)
  unfold Machine.enterPiece
  cases ht : t.panel with
  | p0 =>
    rw [ht] at rest other
    exact List.pairwise_cons.2 ⟨fun q hq => ⟨ht, other q hq⟩, rest⟩
  | p1 =>
    rw [ht] at rest other
    refine List.pairwise_append.2 ⟨rest, List.pairwise_singleton .., fun q hq u hu => ?_⟩
    rw [List.mem_singleton.1 hu]
    exact ⟨other q hq, ht⟩

theorem PiecesOrdered.leavePiece {k : Fin 16} {l : List Piece} (h : PiecesOrdered l) : PiecesOrdered (leavePiece k l) :=
  List.Pairwise.filter _ h

/-- R139: what the settling of an action does to the jobs. -/
theorem State.settleSlot_jobs {s t : State} {i : Fin 40} {k : Fin 16} (h : s.queue = t.queue) :
    (s.modJob i (Job.settleSlot k)).queue.map Job.handle = t.queue.map Job.handle ∧
    (∀ j, j ≠ i → (s.modJob i (Job.settleSlot k)).job? j = t.job? j) ∧
    ∀ j, t.job? i = some j → (s.modJob i (Job.settleSlot k)).job? i = some (j.settleSlot k) := by
  have keeps : ∀ j : Job, (j.settleSlot k).handle = j.handle := fun _ => rfl
  refine ⟨(State.modJob_handles keeps).trans (congrArg _ h), fun j hj => ?_, fun j hj => ?_⟩
  · rw [State.job?_modJob keeps, if_neg hj, State.job?_of_queue h]
  · rw [State.job?_modJob keeps, if_pos rfl, State.job?_of_queue h, hj]
    rfl

section
variable {e : Ev} {before : State} {p : PanelId} {k : Fin 16} {o : Handle} {r : Record}
  (ho : (before.slot k).owner? = some o) (he : e.s.entry o.index = .used r)
include ho he

/-- R48, R55: the report of a slot with a live configuration. -/
theorem Ev.reportApplied_enters {c : SlotConfig} (hc : (e.s.slot k).cfg? = some c) {v : State}
    (hv : v = e.s.setEntry o.index (.used { r with pieces := enterPiece (c.piece p k) r.pieces })) :
    Ev.reportApplied p before e k = { e with s := (v.checkCurrency o.index).modJob o.index (Job.settleSlot k) } ∧
    (v.checkCurrency o.index).queue = e.s.queue ∧
    (r.pending = none → (v.checkCurrency o.index).entry o.index =
      .used { r with pieces := enterPiece (c.piece p k) r.pieces }) := by
  have entry : v.entry o.index = .used { r with pieces := enterPiece (c.piece p k) r.pieces } := by
    rw [hv, State.entry_setEntry_same]
  refine ⟨?_, ?_, fun hp => ?_⟩
  · rw [Ev.reportApplied_live ho hc, State.modRecord_used he, hv]
  · rw [State.checkCurrency_queue, hv, State.setEntry_queue]
  · rw [State.checkCurrency_idle entry (.inl hp), entry]

/-- R49, R66, R55: the report of a slot that was freed. -/
theorem Ev.reportApplied_leaves (hc : (e.s.slot k).cfg? = none) {v : State}
    (hv : v = e.s.setEntry o.index (.used { r with pieces := leavePiece k r.pieces })) :
    Ev.reportApplied p before e k = { e with
      s := ((v.checkRetired o.index).checkCurrency o.index).modJob o.index (Job.settleSlot k), walk := true } ∧
    ((v.checkRetired o.index).checkCurrency o.index).queue = e.s.queue ∧
    (r.state ≠ .retiring → r.pending = none → ((v.checkRetired o.index).checkCurrency o.index).entry o.index =
      .used { r with pieces := leavePiece k r.pieces }) := by
  have entry : v.entry o.index = .used { r with pieces := leavePiece k r.pieces } := by
    rw [hv, State.entry_setEntry_same]
  refine ⟨?_, ?_, fun hs hp => ?_⟩
  · rw [Ev.reportApplied_freed ho hc, State.modRecord_used he, hv]
  · rw [State.checkCurrency_queue, State.checkRetired_queue, hv, State.setEntry_queue]
  · rw [State.checkRetired_stays entry (.inl hs), State.checkCurrency_idle entry (.inl hp), entry]

end

/-! ### The slots that apply, and the staging cutoff -/

theorem State.dueSlots_congr {s t : State} (hg : t.shared = s.shared) (hs : t.slots = s.slots) (p : PanelId) :
    t.dueSlots p = s.dueSlots p := by
  simp only [State.dueSlots, State.uses, State.user, State.slot, hg, hs]

theorem State.slot_cutoff (s : State) (p : PanelId) (k : Fin 16) :
    (s.cutoff p).slot k = if s.user k = p then (s.slot k).makeDue else s.slot k := by
  simp only [State.slot, State.cutoff, Fin.getElem_fin, Vector.getElem_ofFn, State.uses_iff]

/-- R133, R139: the slots of a panel on which a due configuration applies. -/
theorem State.dueSlots_eq (s : State) (p : PanelId) : s.dueSlots p =
    allSlots.filter fun k => decide (s.user k = p) && (match s.slot k with
      | .claimed _ (some (.full _ d)) => d
      | .live _ _ (some (.full _ d)) => d
      | .live _ _ (some (.removal d)) => d
      | _ => false) := by
  refine List.filter_congr fun k _ => congrArg₂ Bool.and (Bool.eq_iff_iff.2 ?_) ?_
  · rw [State.uses_iff, decide_eq_true_eq]
  · rcases s.slot k with _ | ⟨o, _ | ⟨c, _ | _⟩ | _ | _⟩ | ⟨o, c, _ | ⟨d, _ | _⟩ | _ | _⟩ <;> rfl

theorem LayerSlot.makeDue_eq (x : LayerSlot) : x.makeDue = match x with
    | .claimed o (some (.full c _)) => .claimed o (some (.full c true))
    | .claimed o (some (.removal _)) => .claimed o (some (.removal true))
    | .live o c (some (.full c' _)) => .live o c (some (.full c' true))
    | .live o c (some (.removal _)) => .live o c (some (.removal true))
    | x => x := by
  rcases x with _ | ⟨o, _ | _ | _⟩ | ⟨o, c, _ | _ | _⟩ <;> rfl

section
variable {s : State} {p : PanelId}

theorem frameStart_answers (h : (s.panel p).inService = true) : Answers (.frameStart p) s
    ((Ev.start (s.elapse ((s.panel p).effective - (s.panel p).counter))).frameStart p).done := by
  simp only [Answers, exec, execFrameStart, h, if_true]
  rfl

theorem frameStart_idle (h : (s.panel p).inService = false) : Answers (.frameStart p) s s := by
  simp only [Answers, exec, execFrameStart, h]
  rfl

theorem stagingCutoff_answers (h : (s.panel p).inService = true) (hc : (s.panel p).cutoffDone = false) :
    Answers (.stagingCutoff p) s
      ((s.elapse ((s.panel p).effective - (s.panel p).lead - (s.panel p).counter)).cutoff p) := by
  simp only [Answers, exec, execStagingCutoff, h, hc, and_self, if_true]
  rfl

theorem stagingCutoff_idle (h : (s.panel p).inService = false ∨ (s.panel p).cutoffDone = true) :
    Answers (.stagingCutoff p) s s := by
  have stopped : ¬((s.panel p).inService = true ∧ (s.panel p).cutoffDone = false) := by
    rcases h with h | h <;> simp [h]
  simp only [Answers, exec, execStagingCutoff, if_neg stopped]

end

/-- Settles O54: the frame start whole, the report of one slot, the frame as one fold of reports, and the staging cutoff. -/
theorem frameTiming : Obligations.FrameTiming := by
  refine ⟨fun s v p lock joint runs owed period effective health hs hlock hjoint hother hv hruns howed hperiod heff hhealth => ?whole,
    fun e before p k o r ho he => ⟨?report, fun j hj => ?job⟩, fun e w due opened hdue => ⟨fun p hw hopened => ?solo,
      fun hpanels hw hopened => ?joint⟩, fun s v p hs hc hv => ?cutoff,
    fun s p => ⟨fun h => ⟨frameStart_idle h, stagingCutoff_idle (.inl h)⟩, fun h => stagingCutoff_idle (.inr h)⟩⟩
  case whole =>
    obtain ⟨d, frame, timeouts⟩ := Ev.frameStart_frame hs hlock hjoint hother hv hruns howed hperiod heff
    have healths (q : PanelId) (hq : runs q = true) : (d.s.panel q).health = health q :=
      (frame.health hq).trans (hhealth q).symm
    refine ⟨_, _, rfl, rfl, hv ▸ frameStart_answers hs, ((Ev.start v).frameStart_blocks p).trans (Ev.done_frame _).blocks,
      fun q hq => frame.panel_rest timeouts hq, fun hb => ?_, fun q hq ho hh => ?_⟩
    · obtain ⟨shared, marked, live, panels⟩ := frame.below timeouts fun q hq ho => (healths q hq).symm ▸ hb q hq ho
      exact ⟨shared, marked, live, fun q hq =>
        (panels q hq).trans (Panel.reopened_checked _ _ _ _ (hperiod q) (hhealth q))⟩
    · obtain ⟨panel, free, shared, raised, marked⟩ := frame.above timeouts hq ho ((healths q hq).symm ▸ hh)
      refine ⟨panel.trans ?_, free, shared, raised, marked⟩
      rw [ho]
      exact State.timedOut_reopened _ _ _ _ (hperiod q) ((hhealth q).trans (if_pos ho)) frame.now
        (g := s.shared) (by rw [frame.shared]) (by rw [frame.shared])
  case report =>
    cases hc : (e.s.slot k).cfg? with
    | some c =>
      obtain ⟨whole, queue, entry⟩ := Ev.reportApplied_enters (p := p) ho he hc rfl
      obtain ⟨handles, others, -⟩ := State.settleSlot_jobs (i := o.index) (k := k) queue
      refine ⟨enterPiece (c.piece p k) r.pieces, _, _, rfl, fun c' hc' => ?_, nofun, PiecesOrdered.enterPiece,
        fun _ hp => ?_, handles, fun i hi => ?_⟩
      · cases hc'
        exact ⟨fun _ => mem_enterPiece, whole⟩
      · rw [whole]
        exact entry hp
      · rw [whole]
        exact others i hi
    | none =>
      obtain ⟨whole, queue, entry⟩ := Ev.reportApplied_leaves (p := p) ho he hc rfl
      obtain ⟨handles, others, -⟩ := State.settleSlot_jobs (i := o.index) (k := k) queue
      refine ⟨leavePiece k r.pieces, _, _, rfl, nofun, fun _ => ⟨fun _ => mem_leavePiece, whole⟩, PiecesOrdered.leavePiece,
        fun hr hp => ?_, handles, fun i hi => ?_⟩
      · rw [whole]
        exact entry hr hp
      · rw [whole]
        exact others i hi
  case job =>
    cases hc : (e.s.slot k).cfg? with
    | some c =>
      obtain ⟨whole, queue, -⟩ := Ev.reportApplied_enters (p := p) ho he hc rfl
      rw [whole]
      exact (State.settleSlot_jobs queue).2.2 j hj
    | none =>
      obtain ⟨whole, queue, -⟩ := Ev.reportApplied_leaves (p := p) ho he hc rfl
      rw [whole]
      exact (State.settleSlot_jobs queue).2.2 j hj
  case solo =>
    subst hw hopened
    have slots : due p = (e.s.soloBase p).dueSlots p :=
      (hdue p).trans ((State.dueSlots_eq e.s p).symm.trans (State.dueSlots_congr rfl rfl p).symm)
    rw [slots]
    exact Ev.soloFrame_eq
  case joint =>
    rw [hpanels] at hw
    obtain rfl : w = e.s.jointBase := hw
    subst hopened
    have slots (p : PanelId) : due p = e.s.jointBase.dueSlots p :=
      (hdue p).trans ((State.dueSlots_eq e.s p).symm.trans (State.dueSlots_congr rfl rfl p).symm)
    rw [slots, slots]
    exact Ev.jointFrame_eq
  case cutoff =>
    subst hv
    refine ⟨_, stagingCutoff_answers hs hc, rfl, fun k => (State.slot_cutoff _ p k).trans ?_⟩
    exact congrArg (fun x => if s.user k = p then x else s.slot k) (LayerSlot.makeDue_eq (s.slot k))

end Sys2Proof.Machine
end

section
/-! SUPPORT. What the engine does with a resolution passed for a record (R96 to R100): the preparation of a job, the queue entry
that a new job takes, and each case of `Ev.pass`. -/

namespace Sys2Proof.Machine

/-! ### The preparation of a job -/

/-- R99: the job has not begun its steps. -/
def Job.unstarted (j : Job) : Prop := j.phase = .preparing ∨ j.phase = .slotWait

/-- R102, R107: what the preparation of a job leaves alone. -/
structure Job.SameAim (j j' : Job) : Prop where
  handle : j'.handle = j.handle
  target : j'.target = j.target
  next : j'.next = j.next
  unstarted : j.unstarted → j'.unstarted

theorem Job.SameAim.trans {a b d : Job} (h : a.SameAim b) (k : b.SameAim d) : a.SameAim d :=
  ⟨k.handle.trans h.handle, k.target.trans h.target, k.next.trans h.next, k.unstarted ∘ h.unstarted⟩

/-- The preparation of the job of the record with index `i` keeps the queue's order, the record's state and mark, and the aim
of the job. -/
structure Ev.Prepares (i : Fin 40) (e d : Ev) : Prop where
  handles : d.s.queue.map Job.handle = e.s.queue.map Job.handle
  changed : d.changed = e.changed
  state : (d.s.record? i).map Record.state = (e.s.record? i).map Record.state
  mark : (d.s.record? i).map Record.resPending = (e.s.record? i).map Record.resPending
  job : ∀ j, e.s.job? i = some j → ∃ j', d.s.job? i = some j' ∧ j.SameAim j'

/-- What `modRecord` does to the record it names. -/
theorem State.record?_modRecord (s : State) (i : Fin 40) (f : Record → Record) :
    (s.modRecord i f).record? i = (s.record? i).map f := by
  cases h : s.record? i with
  | none => rw [State.modRecord_none h, h]; rfl
  | some r =>
    rw [State.modRecord_used ((State.record?_eq_some s).1 h), State.record?, State.entry_setEntry_same]
    rfl

section
variable {i : Fin 40} (e : Ev)

theorem Ev.Prepares.refl : Ev.Prepares i e e := ⟨rfl, rfl, rfl, rfl, fun j h => ⟨j, h, rfl, rfl, rfl, id⟩⟩

theorem Ev.Prepares.trans {e d b : Ev} (h : Ev.Prepares i e d) (k : Ev.Prepares i d b) : Ev.Prepares i e b where
  handles := k.handles.trans h.handles
  changed := k.changed.trans h.changed
  state := k.state.trans h.state
  mark := k.mark.trans h.mark
  job := fun j hj => by
    obtain ⟨j', hj', same⟩ := h.job j hj
    obtain ⟨j'', hj'', same'⟩ := k.job j' hj'
    exact ⟨j'', hj'', same.trans same'⟩

theorem Ev.Prepares.of_modJob {f : Job → Job} (hf : ∀ j : Job, j.SameAim (f j)) : Ev.Prepares i e (e.modJob i f) where
  handles := State.modJob_handles fun j => (hf j).handle
  changed := rfl
  state := rfl
  mark := rfl
  job := fun j hj => ⟨f j, by
    refine (State.job?_modJob fun j => (hf j).handle).trans ?_
    rw [if_pos rfl, hj]
    rfl, hf j⟩

theorem Ev.Prepares.of_modRecord {f : Record → Record} (hs : ∀ r, (f r).state = r.state)
    (hm : ∀ r, (f r).resPending = r.resPending) : Ev.Prepares i e (e.modRecord i f) where
  handles := congrArg (List.map Job.handle) (State.modRecord_queue ..)
  changed := rfl
  state := by
    refine (congrArg _ (e.s.record?_modRecord i f)).trans ?_
    cases e.s.record? i with
    | none => rfl
    | some r => exact congrArg some (hs r)
  mark := by
    refine (congrArg _ (e.s.record?_modRecord i f)).trans ?_
    cases e.s.record? i with
    | none => rfl
    | some r => exact congrArg some (hm r)
  job := fun j hj => ⟨j, (State.job?_of_queue (State.modRecord_queue ..)).trans hj, rfl, rfl, rfl, id⟩

theorem Ev.examine_prepares : Ev.Prepares i e (e.examine i) := by
  unfold Ev.examine
  split
  · split
    · have granted := Ev.Prepares.of_modJob (i := i) e (f := fun j => { j with phase := .slotWait })
        fun _ => ⟨rfl, rfl, rfl, fun _ => .inr rfl⟩
      exact { granted with }
    · exact .refl e
  · exact .refl e

theorem Ev.expireWait_prepares : Ev.Prepares i e (e.expireWait i) :=
  (Ev.Prepares.of_modRecord e (fun _ => by exact rfl) fun _ => by exact rfl).trans
    (.of_modJob _ fun _ => by exact ⟨rfl, rfl, rfl, id⟩)

theorem Ev.beginWait_prepares (z : Size) (d : Nat) : Ev.Prepares i e (e.beginWait i z d) := by
  have begun := (Ev.Prepares.of_modRecord (i := i) e
    (f := fun r => { r with wanted := some z, marks := { r.marks with wanted := true } }) (fun _ => rfl) fun _ => rfl).trans
      (.of_modJob _ (f := fun j => { j with waiting := true, expiry := some (e.s.after d) }) fun _ => ⟨rfl, rfl, rfl, id⟩)
  simp only [Ev.beginWait]
  split
  · exact begun.trans (Ev.expireWait_prepares _)
  · exact begun

theorem Ev.bufferCondition_prepares (j : Job) : Ev.Prepares i e (e.bufferCondition i j) := by
  unfold Ev.bufferCondition
  split
  · exact (Ev.Prepares.of_modRecord e (fun _ => by exact rfl) fun _ => by exact rfl).trans
      (.of_modJob _ fun _ => by exact ⟨rfl, rfl, rfl, id⟩)
  · split
    · exact .of_modJob e fun _ => by exact ⟨rfl, rfl, rfl, id⟩
    · exact e.beginWait_prepares _ _

theorem Ev.prepare_prepares : Ev.Prepares i e (e.prepare i) := by
  unfold Ev.prepare
  split
  · exact ((Ev.Prepares.of_modJob e fun _ => by exact ⟨rfl, rfl, rfl, fun _ => .inl rfl⟩).trans
      (Ev.bufferCondition_prepares _ _)).trans (Ev.examine_prepares _)
  · exact .refl e

end

/-! ### A new job -/

section
variable {e : Ev} {i : Fin 40} {r : Record} {res : Resolution}

/-- R94, R97: the queue entry that a new job takes, and its record MOVING, before the job is prepared. -/
def Ev.enqueue (e : Ev) (i : Fin 40) (res : Resolution) : Ev :=
  { (e.mod fun s => { s with queue := if s.isFocus i then Job.fresh (e.s.handle i) res :: s.queue
      else s.queue ++ [Job.fresh (e.s.handle i) res] }).modRecord i fun r => { r with state := .moving, resPending := false }
    with changed := true }

theorem Ev.createJob_eq : e.createJob i res = (e.enqueue i res).prepare i := rfl

theorem Ev.enqueue_queue : (e.enqueue i res).s.queue = if e.s.isFocus i then Job.fresh (e.s.handle i) res :: e.s.queue
    else e.s.queue ++ [Job.fresh (e.s.handle i) res] := State.modRecord_queue ..

theorem Ev.enqueue_record? (h : e.s.entry i = .used r) :
    (e.enqueue i res).s.record? i = some { r with state := .moving, resPending := false } := by
  have found : e.s.record? i = some r := (State.record?_eq_some _).2 h
  exact (State.record?_modRecord _ i _).trans (congrArg _ found)

theorem Ev.enqueue_job? (h : e.s.job? i = none) : (e.enqueue i res).s.job? i = some (Job.fresh (e.s.handle i) res) := by
  unfold State.job? at h ⊢
  rw [Ev.enqueue_queue]
  split
  · exact List.find?_cons_of_pos (by simp [Job.fresh, State.handle])
  · rw [List.find?_append, h]
    simp [Job.fresh, State.handle]

/-- R97: a job is made for a record that has none. -/
theorem Ev.createJob_spec (hr : e.s.entry i = .used r) (hj : e.s.job? i = none) :
    ((e.createJob i res).s.queue.map Job.handle = if e.s.isFocus i then e.s.handle i :: e.s.queue.map Job.handle
      else e.s.queue.map Job.handle ++ [e.s.handle i]) ∧
    ((e.createJob i res).s.record? i).map Record.state = some .moving ∧
    ((e.createJob i res).s.record? i).map Record.resPending = some false ∧
    (∃ j, (e.createJob i res).s.job? i = some j ∧ j.target = res ∧ j.next = none) ∧
    (e.createJob i res).changed = true := by
  have prep := (e.enqueue i res).prepare_prepares (i := i)
  rw [Ev.createJob_eq]
  refine ⟨prep.handles.trans ?_, prep.state.trans ?_, prep.mark.trans ?_, ?_, prep.changed⟩
  · rw [Ev.enqueue_queue]
    split <;> simp [Job.fresh]
  · rw [Ev.enqueue_record? hr]
    rfl
  · rw [Ev.enqueue_record? hr]
    rfl
  · obtain ⟨j, found, aim⟩ := prep.job _ (Ev.enqueue_job? hj)
    exact ⟨j, found, aim.target, aim.next⟩

/-! ### A resolution passed -/

theorem Ev.pass_job {j : Job} (h : e.s.job? i = some j) : e.pass i r res = e.redirectJob i j res := by
  rw [Ev.pass, h]

section
variable (hj : e.s.job? i = none)
include hj

/-- R97, R98: with a queue entry free, a job is made, unless the resolution only settles a mark. -/
theorem Ev.pass_creates (hq : e.s.queue.length < 16) (hm : r.resPending = false ∨ res.samePlacement r = false) :
    e.pass i r res = e.createJob i res := by
  rcases hm with hm | hm <;> simp [Ev.pass, hj, Ev.settleMark, Config.queueMax, hq, hm]

/-- R98: with the queue full, the record is marked. -/
theorem Ev.pass_marks (hq : 16 ≤ e.s.queue.length) (hm : r.resPending = false) : e.pass i r res = e.setPendingMark i := by
  simp [Ev.pass, hj, Config.queueMax, hm, Nat.not_lt.2 hq]

/-- R98: a resolution equal to the placement takes the mark. -/
theorem Ev.pass_settles (hm : r.resPending = true) (hp : res.samePlacement r = true) :
    e.pass i r res = e.modRecord i fun r => { r with resPending := false } := by
  simp [Ev.pass, hj, Ev.settleMark, hm, hp]

theorem Ev.pass_waits (hq : 16 ≤ e.s.queue.length) (hm : r.resPending = true) (hp : res.samePlacement r = false) :
    e.pass i r res = e := by
  simp [Ev.pass, hj, Ev.settleMark, Config.queueMax, hm, hp, Nat.not_lt.2 hq]

end

theorem Ev.setPendingMark_eq (hr : e.s.entry i = .used r) : e.setPendingMark i = { e with
    changed := true
    s := { e.s.setEntry i (.used { r with resPending := true }) with
      attn := { e.s.attn with flags := { e.s.attn.flags with backlog := true } } } } := by
  simp only [Ev.setPendingMark, Ev.modRecord, Ev.raise, Ev.mod, State.modRecord_used hr]
  rfl

variable {j : Job} (hj : e.s.job? i = some j)
include hj

/-- R99: a job that has not begun its steps takes the resolution as its target. -/
theorem Ev.redirectJob_unstarted (hp : j.phase = .preparing ∨ j.phase = .slotWait) :
    (e.redirectJob i j res).s.queue.map Job.handle = e.s.queue.map Job.handle ∧ (e.redirectJob i j res).changed = true ∧
    ∃ j', (e.redirectJob i j res).s.job? i = some j' ∧ j'.target = res ∧ j'.handle = j.handle ∧
      (j'.phase = .preparing ∨ j'.phase = .slotWait) := by
  let d : Ev := { (e.modJob i fun j => { j with target := res }) with changed := true }
  have redirected : e.redirectJob i j res = d.prepare i := by
    rcases hp with hp | hp <;> simp only [Ev.redirectJob, hp, d]
  have found : d.s.job? i = some { j with target := res } := by
    refine (State.job?_modJob fun _ => by exact rfl).trans ?_
    rw [if_pos rfl, hj]
    rfl
  have prep := d.prepare_prepares (i := i)
  obtain ⟨j', hj', aim⟩ := prep.job _ found
  rw [redirected]
  exact ⟨prep.handles.trans (State.modJob_handles fun _ => by exact rfl), prep.changed, j', hj', aim.target, aim.handle,
    aim.unstarted hp⟩

/-- R100: a job that has begun its steps keeps the resolution as its next target, unless it equals its target. -/
theorem Ev.redirectJob_begun (hp : j.phase = .stepOne ∨ j.phase = .stepTwo) :
    (e.redirectJob i j res).changed = true ∧ (e.redirectJob i j res).s.slots = e.s.slots ∧
    (e.redirectJob i j res).s.queue.map Job.handle = e.s.queue.map Job.handle ∧
    (e.redirectJob i j res).s.job? i = some { j with next := if res.sameTarget j.target then none else some res } := by
  have redirected : e.redirectJob i j res =
      { (e.modJob i fun j => { j with next := if res.sameTarget j.target then none else some res }) with changed := true } := by
    rcases hp with hp | hp <;> simp only [Ev.redirectJob, hp]
  rw [redirected]
  refine ⟨rfl, rfl, State.modJob_handles fun _ => by exact rfl, (State.job?_modJob fun _ => by exact rfl).trans ?_⟩
  rw [if_pos rfl, hj]
  rfl

end
end Sys2Proof.Machine
end

section
/-! SUPPORT. When two resolutions are equal (R91), the end of a step (R115, R116), the take-up of a freed queue entry (R117), and
a lost slot (R118). -/

namespace Sys2Proof.Machine

/-! ### Comparison -/

/-- R91: the compared parts of a piece as a tuple. -/
def PieceKey.parts (k : PieceKey) : PanelId × Rect × Nat × Nat × Bool := (k.panel, k.dest, k.srcX, k.srcY, k.rotated)

theorem PieceKey.parts_injective : Function.Injective PieceKey.parts := fun a b h => by
  cases a
  cases b
  simpa [PieceKey.parts] using h

/-- Lists of pieces agree on their keys just when they agree on the tuples of their compared parts. -/
theorem map_key_eq_iff {α β : Type} {f : α → PieceKey} {g : β → PieceKey} {f' : α → PanelId × Rect × Nat × Nat × Bool}
    {g' : β → PanelId × Rect × Nat × Nat × Bool} (hf : ∀ x, f' x = (f x).parts) (hg : ∀ y, g' y = (g y).parts)
    {l : List α} {m : List β} : l.map f = m.map g ↔ l.map f' = m.map g' := by
  rw [funext hf, funext hg, ← (List.map_injective_iff.2 PieceKey.parts_injective).eq_iff, List.map_map, List.map_map]
  rfl

section
variable {a b : Resolution} {r : Record}

theorem Resolution.sameTarget_iff : a.sameTarget b = true ↔ a.shown = none ∧ b.shown = none ∨
    ∃ x y, a.shown = some x ∧ b.shown = some y ∧ x.rect = y.rect ∧
      x.pieces.map TargetPiece.key = y.pieces.map TargetPiece.key := by
  unfold Resolution.sameTarget
  cases a.shown <;> cases b.shown <;> simp

theorem Resolution.samePlacement_iff : a.samePlacement r = true ↔ a.shown = none ∧ r.pieces = [] ∨
    ∃ x, a.shown = some x ∧ r.pieces ≠ [] ∧ r.rect = some x.rect ∧
      x.pieces.map TargetPiece.key = r.pieces.map Piece.key := by
  unfold Resolution.samePlacement
  cases a.shown <;> simp [and_assoc]

end

/-- R85, R89: a resolution that shows a record has a piece. -/
theorem State.resolve_pieces {s : State} {i : Fin 40} {r : Record} {x : ShownTarget} (h : (s.resolve i r).shown = some x) :
    x.pieces ≠ [] := by
  by_cases hu : s.posture.committed = .unknown
  · rw [State.resolve_park rfl (.inl hu)] at h
    cases h
  · cases ha : s.area r (s.source i r (s.governing r.cls)) with
    | none =>
      rw [State.resolve_park rfl (.inr ha)] at h
      cases h
    | some a =>
      rw [State.resolve_area rfl hu ha rfl rfl] at h
      split at h
      · cases h
      · next hp =>
        cases h
        exact hp

/-- R118: no resolution equals a target that has lost every piece. -/
theorem State.resolve_ne_lost {s : State} {i : Fin 40} {r : Record} {t : Resolution} {x : ShownTarget}
    (ht : t.shown = some x) (hx : x.pieces = []) : (s.resolve i r).sameTarget t = false := by
  refine Bool.eq_false_iff.2 fun h => ?_
  rcases Resolution.sameTarget_iff.1 h with ⟨-, hn⟩ | ⟨y, z, hy, hz, -, hk⟩
  · cases ht.symm.trans hn
  · cases ht.symm.trans hz
    rw [hx, List.map_nil, List.map_eq_nil_iff] at hk
    exact State.resolve_pieces hy hk

/-! ### The end of a step -/

section
variable {e : Ev} {i : Fin 40} {j : Job} {r : Record} {n : Resolution}

theorem Ev.endStep_redirects (hp : j.phase = .stepOne) (hs : j.stepTwo ≠ []) (hn : j.next = some n) :
    e.endStep j = e.redirect j.handle.index j n := by
  simp [Ev.endStep, hp, hn, hs]

theorem Ev.endStep_stages (hp : j.phase = .stepOne) (hs : j.stepTwo ≠ []) (hn : j.next = none) : e.endStep j =
    (e.modJob j.handle.index fun j => { j with phase := .stepTwo }).stageStep j.handle.index j.target.pieces j.stepTwo := by
  simp [Ev.endStep, hp, hn, hs]

theorem Ev.endStep_completes (h : j.phase = .stepTwo ∨ j.phase = .stepOne ∧ j.stepTwo = []) :
    e.endStep j = e.complete j.handle.index j := by
  rcases h with hp | ⟨hp, hs⟩
  · simp [Ev.endStep, hp]
  · cases hn : j.next <;> simp [Ev.endStep, hp, hn, hs]

theorem State.job?_takeNext {s : State} (hj : s.job? i = some j) :
    (s.modJob i fun j => j.takeNext n).job? i = some { j with target := n, next := none } := by
  rw [State.job?_modJob fun _ => by exact rfl, if_pos rfl, hj]
  rfl

/-! ### A redirect -/

section
variable {s : State} {l : List SlotAction} {k : Fin 16}

/-- R115: the claimed slots of dropped attaches are free. -/
theorem State.slot_freeClaims_claimed {o : Handle} {st : Option Staged} (h : s.slot k = .claimed o st) :
    (s.freeClaims l).slot k = if l.any fun a => decide (a.slot = k) then .free else .claimed o st := by
  simp only [State.slot, Fin.getElem_fin] at h
  simp only [State.slot, State.freeClaims, Fin.getElem_fin, Vector.getElem_ofFn, h]
  rfl

theorem State.slot_freeClaims_other (h : ∀ o st, s.slot k ≠ .claimed o st) : (s.freeClaims l).slot k = s.slot k := by
  simp only [State.slot, Fin.getElem_fin] at h
  cases hk : s.slots[k.val] with
  | claimed o st => exact absurd hk (h o st)
  | free | live => simp only [State.slot, State.freeClaims, Fin.getElem_fin, Vector.getElem_ofFn, hk]

end

theorem State.anyClaimed_iff {s : State} {l : List SlotAction} :
    s.anyClaimed l = true ↔ ∃ a ∈ l, ∃ o st, s.slot a.slot = .claimed o st := by
  simp only [State.anyClaimed, List.any_eq_true]
  refine exists_congr fun a => and_congr_right fun _ => ?_
  cases s.slot a.slot <;> simp

/-- R115: a redirected job with its next target taken up, before it is prepared again. -/
def Ev.redirecting (e : Ev) (i : Fin 40) (j : Job) (n : Resolution) : Ev :=
  { ((e.mod fun s => s.freeClaims j.stepTwo).modJob i fun j => j.takeNext n) with
    walk := e.walk || e.s.anyClaimed j.stepTwo }

theorem Ev.redirect_eq : e.redirect i j n = (e.redirecting i j n).prepare i := rfl

theorem Ev.redirecting_job? (hj : e.s.job? i = some j) :
    (e.redirecting i j n).s.job? i = some { j with target := n, next := none } :=
  State.job?_takeNext ((State.job?_of_queue (State.freeClaims_queue ..)).trans hj)

theorem Ev.redirecting_slot (k : Fin 16) : (e.redirecting i j n).s.slot k = (e.s.freeClaims j.stepTwo).slot k := rfl

theorem Ev.redirecting_walk : (e.redirecting i j n).walk = (e.walk || e.s.anyClaimed j.stepTwo) := rfl

theorem Ev.redirecting_handles : (e.redirecting i j n).s.queue.map Job.handle = e.s.queue.map Job.handle :=
  (State.modJob_handles fun _ => by exact rfl).trans (congrArg _ (State.freeClaims_queue ..))

/-! ### The second step -/

theorem State.stageActions_table (s : State) (i : Fin 40) (pieces : List TargetPiece) (l : List SlotAction) :
    (l.foldl (fun s a => s.stageAction i pieces a) s).table = s.table := by
  induction l generalizing s with
  | nil => rfl
  | cons a as ih => rw [List.foldl_cons, ih, State.stageAction_table]

theorem Ev.stageStep_job? (hj : e.s.job? i = some j) (pieces : List TargetPiece) (l : List SlotAction) :
    (e.stageStep i pieces l).s.job? i = some { j with outstanding := l } := by
  refine (State.job?_modJob fun _ => by exact rfl).trans ?_
  rw [if_pos rfl]
  refine (congrArg _ ((State.job?_of_queue (State.stageActions_queue _)).trans hj)).trans ?_
  rfl

/-- R113: the second step is staged. -/
theorem Ev.secondStep (hj : e.s.job? i = some j) :
    ((e.modJob i fun j => { j with phase := .stepTwo }).stageStep i j.target.pieces j.stepTwo).s.job? i =
        some { j with phase := .stepTwo, outstanding := j.stepTwo } ∧
      ((e.modJob i fun j => { j with phase := .stepTwo }).stageStep i j.target.pieces j.stepTwo).s.slots =
        (j.stepTwo.foldl (fun s a => s.stageAction i j.target.pieces a) e.s).slots ∧
      ((e.modJob i fun j => { j with phase := .stepTwo }).stageStep i j.target.pieces j.stepTwo).s.table = e.s.table := by
  have begun : (e.modJob i fun j => { j with phase := .stepTwo }).s.job? i = some { j with phase := .stepTwo } := by
    refine (State.job?_modJob fun _ => by exact rfl).trans ?_
    rw [if_pos rfl, hj]
    rfl
  exact ⟨Ev.stageStep_job? begun _ _, State.stageActions_slots_congr _ rfl rfl, State.stageActions_table ..⟩

/-! ### Completion -/

/-- R116: the target pieces whose slots are live and the record's. -/
theorem State.completed_eq (s : State) (i : Fin 40) (l : List TargetPiece) : s.completed i l =
    (l.filter fun t => t.slot.any fun k => (s.slot k).isLive && (s.slot k).ownedBy i).map fun t =>
      ⟨t.panel, t.slot.getD 0, t.dest, t.srcX, t.srcY, t.rotated⟩ := by
  induction l with
  | nil => rfl
  | cons t ts ih =>
    unfold State.completed at ih ⊢
    rw [List.filterMap_cons, ih]
    cases hk : t.slot with
    | none => simp [hk]
    | some k => cases hl : (s.slot k).isLive && (s.slot k).ownedBy i <;> simp [hk, hl]

section
variable (hr : e.s.entry i = .used r)
include hr

/-- R48, R116: a job without a next target leaves the queue. -/
theorem Ev.complete_ends (hn : j.next = none) : e.complete i j = { e with
    s := (e.s.setEntry i (.used { r.complete j.target (e.s.completed i j.target.pieces) with
      state := if (e.s.completed i j.target.pieces).isEmpty then .parked else .placed })).dropJob i
    left := e.left + 1 } := by
  simp only [Ev.complete, hn, Ev.modRecord, Ev.mod, State.modRecord_used hr,
    State.modRecord_used (State.entry_setEntry_same ..), State.setEntry_setEntry]

/-- R116: a job with a next target takes it up. -/
theorem Ev.complete_continues (hn : j.next = some n) : e.complete i j =
    (({ e with s := e.s.setEntry i (.used (r.complete j.target (e.s.completed i j.target.pieces))) } : Ev).modJob i
      fun j => j.takeNext n).prepare i := by
  simp only [Ev.complete, hn, Ev.modRecord, Ev.mod, State.modRecord_used hr]

end
end

/-! ### A freed queue entry -/

theorem State.resPending_iff {s : State} {i : Fin 40} :
    (s.record? i).any Record.resPending = true ↔ ∃ r, s.entry i = .used r ∧ r.resPending = true := by
  simp only [Option.any_eq_true, ← State.record?_eq_some]

section
variable {e : Ev} {i : Fin 40}

theorem Ev.takeUp_none (h : ∀ i, ¬(e.s.record? i).any Record.resPending = true) : e.takeUp = { e with left := 0 } := by
  have none_ : e.s.firstMarked = none := List.find?_eq_none.2 fun i _ => h i
  rw [Ev.takeUp, none_]

/-- R117: the entry is offered to the lowest-index record that holds the mark. -/
theorem Ev.takeUp_first (h : (e.s.record? i).any Record.resPending = true)
    (hlow : ∀ m < i, ¬(e.s.record? m).any Record.resPending = true) : e.takeUp =
      if ((e.reresolve i).s.record? i).any Record.resPending then { e.reresolve i with left := 0 }
      else if e.s.queue.length < (e.reresolve i).s.queue.length then { e.reresolve i with left := (e.reresolve i).left - 1 }
      else e.reresolve i := by
  have first : e.s.firstMarked = some i :=
    finRange_find?_eq_some.2 ⟨h, fun m hm => Bool.eq_false_iff.2 (hlow m hm)⟩
  rw [Ev.takeUp, first]

end

/-! ### A lost slot -/

/-- R118: what the loss of a slot makes of a job. -/
theorem Job.loseSlot_eq (k : Fin 16) (j : Job) : j.loseSlot k = { j with
    stepOne := j.stepOne.filter fun a => decide (a.slot ≠ k)
    stepTwo := j.stepTwo.filter fun a => decide (a.slot ≠ k)
    outstanding := j.outstanding.filter fun a => decide (a.slot ≠ k)
    target := { j.target with shown := j.target.shown.map fun x =>
      { x with pieces := x.pieces.filter fun t => decide (t.slot ≠ some k) } } } := by
  have other {α : Type} [BEq α] [LawfulBEq α] [DecidableEq α] (x y : α) : (!(x == y)) = decide (x ≠ y) := by
    by_cases h : x = y <;> simp [h]
  simp only [Job.loseSlot, Resolution.loseSlot, other]

theorem Ev.reportLoss_job? {e : Ev} {evict : Bool} {before : State} {k : Fin 16} {o : Handle} {j : Job}
    (ho : (before.slot k).owner? = some o) (hj : e.s.job? o.index = some j) :
    (Ev.reportLoss evict before e k).s.job? o.index = some (j.loseSlot k) := by
  rw [Ev.reportLoss_eq, State.reportLoss_owned ho]
  refine (State.job?_modJob fun _ => by exact rfl).trans ?_
  rw [if_pos rfl, State.job?_of_queue (State.loseSlot_onlyEntry ..).queue, hj]
  rfl

/-! ### The obligation -/

/-- Settles O60: each case of `Ev.pass`, the comparisons, each end of a step, the take-up of a freed entry, and a lost slot. -/
theorem resolutionPassed : Obligations.ResolutionPassed := by
  refine ⟨fun e i r res hr => ⟨fun hj hq hm => ?creates, fun hj hq hm => ?marks, fun hj hm hp => ?settles,
      fun hj hq hm hp => Ev.pass_waits hj hq hm hp, fun j hj hp => ?unstarted, fun j hj hp => ?begun⟩,
    fun a b r key shown hkey hshown => ⟨?target, ?placement⟩,
    fun e i j r hj hr => ⟨fun n hp hs hn => ?redirects, fun hp hs hn => ?stages, fun l r' hp hl hr' => ?completes⟩,
    fun e marked hmarked => ⟨fun h => ?idle, fun i d hi hlow hd => ?takes⟩,
    fun e before k o j evict ho hj => ?loses, fun s i r t x => State.resolve_ne_lost⟩
  case creates =>
    rw [Ev.pass_creates hj hq hm]
    exact Ev.createJob_spec hr hj
  case marks => rw [Ev.pass_marks hj hq hm, Ev.setPendingMark_eq hr]
  case settles =>
    rw [Ev.pass_settles hj hm hp, Ev.modRecord, Ev.mod, State.modRecord_used hr]
  case unstarted =>
    rw [Ev.pass_job hj]
    exact Ev.redirectJob_unstarted hj hp
  case begun =>
    rw [Ev.pass_job hj]
    exact Ev.redirectJob_begun hj hp
  case target =>
    rw [Resolution.sameTarget_iff]
    simp only [map_key_eq_iff (f := TargetPiece.key) (g := TargetPiece.key) hkey hkey]
  case placement =>
    rw [Resolution.samePlacement_iff]
    simp only [map_key_eq_iff (f := TargetPiece.key) (g := Piece.key) hkey hshown]
  case redirects =>
    obtain rfl := State.job?_some_index hj
    refine ⟨e.redirecting j.handle.index j n, (Ev.endStep_redirects hp hs hn).trans Ev.redirect_eq,
      Ev.redirecting_job? hj, Ev.redirecting_handles, e.s.freeClaims_table j.stepTwo, fun k => ?_, ?_⟩
    · rw [Ev.redirecting_slot]
      cases hk : e.s.slot k with
      | claimed o st => exact State.slot_freeClaims_claimed hk
      | free | live => exact (State.slot_freeClaims_other (by simp [hk])).trans hk
    · rw [Ev.redirecting_walk, Bool.or_eq_true, State.anyClaimed_iff]
  case stages =>
    obtain rfl := State.job?_some_index hj
    rw [Ev.endStep_stages hp hs hn]
    exact Ev.secondStep hj
  case completes =>
    obtain rfl := State.job?_some_index hj
    rw [← State.completed_eq] at hl
    have record : r' = r.complete j.target (e.s.completed j.handle.index j.target.pieces) := by
      rw [hr', hl, Record.complete]
      cases j.target.shown <;> rfl
    rw [Ev.endStep_completes hp]
    refine ⟨fun hn => ?_, fun n hn => ?_⟩
    · rw [Ev.complete_ends hr hn, record, hl]
      refine ⟨State.job?_dropJob, rfl, rfl, ?_⟩
      rw [State.entry_dropJob, State.entry_setEntry_same]
      simp only [List.isEmpty_iff]
    · refine ⟨_, Ev.complete_continues hr hn, rfl, ?_, State.job?_takeNext hj, State.modJob_handles fun _ => by exact rfl⟩
      rw [record]
      exact State.entry_setEntry_same ..
  case idle => exact Ev.takeUp_none fun i hi => h i ((hmarked e i).2 (State.resPending_iff.1 hi))
  case takes =>
    subst hd
    have held (d : Ev) (m : Fin 40) : (d.s.record? m).any Record.resPending = true ↔ marked d m :=
      State.resPending_iff.trans (hmarked d m).symm
    have step := Ev.takeUp_first ((held e i).2 hi) fun m hm h => hlow m hm ((held e m).1 h)
    rw [step]
    refine ⟨fun h => if_pos ((held _ i).2 h), fun h hq => ?_, fun h hq => ?_⟩
    · rw [if_neg (mt (held _ i).1 h), if_pos hq]
    · rw [if_neg (mt (held _ i).1 h), if_neg (Nat.not_lt.2 hq)]
  case loses => rw [Ev.reportLoss_job? ho hj, Job.loseSlot_eq]

end Sys2Proof.Machine
end

section
/-! SUPPORT. The pieces of a target rectangle (R83 to R86), and what a panel shows at a position (R87, R141). -/

namespace Sys2Proof.Machine

/-! ### One piece -/

theorem Rect.covers_iff {r : Rect} {x y : Int} :
    r.covers x y = true ↔ r.x ≤ x ∧ x < r.x + r.w ∧ r.y ≤ y ∧ y < r.y + r.h := by
  simp [Rect.covers, and_assoc]

/-- R86: positions within an extent are counted from its far end on a rotated piece. -/
theorem logicalOffset_cast {turned : Bool} {n : Nat} {d : Int} (h0 : 0 ≤ d) (hn : d < n) :
    (logicalOffset turned n d.toNat : Int) = if turned then n - 1 - d else d := by
  cases turned <;> simp only [logicalOffset, if_true, if_false, Bool.false_eq_true] <;> omega

/-- R83, R84: the piece of a rectangle on a panel whose left edge lies `o` to the right in the area. -/
def clippedPiece (g : Shared) (q : PanelId) (turned : Bool) (o : Int) (r : Rect) : Option TargetPiece :=
  makePiece g q turned (max (r.x - o) 0) (min (r.x + r.w - o) g.width) (max r.y 0) (min (r.y + r.h) g.height)
    (max 0 (o - r.x)) (max 0 (-r.y))

section
variable {g : Shared} {q : PanelId} {turned : Bool} {o : Int} {r : Rect}

theorem panelPiece_eq : panelPiece g q turned r = clippedPiece g q turned 0 r := by
  simp only [panelPiece, clippedPiece, sub_zero, zero_sub]

theorem canvasPiece0_eq : canvasPiece0 g r = clippedPiece g .p0 false 0 r := panelPiece_eq

theorem canvasPiece1_eq : canvasPiece1 g r = clippedPiece g .p1 false (g.width + g.seam) r := by
  have left (x e : Int) : max x e - e = max (x - e) 0 := by omega
  have right (x e w : Int) : min x (e + w) - e = min (x - e) w := by omega
  simp only [canvasPiece1, clippedPiece, left, right]

theorem clippedPiece_eq_some {t : TargetPiece} : clippedPiece g q turned o r = some t ↔
    max (r.x - o) 0 < min (r.x + r.w - o) g.width ∧ max r.y 0 < min (r.y + r.h) g.height ∧ t =
      ⟨q, ⟨if turned then g.width - min (r.x + r.w - o) g.width else max (r.x - o) 0,
        if turned then g.height - min (r.y + r.h) g.height else max r.y 0,
        (min (r.x + r.w - o) g.width - max (r.x - o) 0).toNat, (min (r.y + r.h) g.height - max r.y 0).toNat⟩,
        (max 0 (o - r.x)).toNat, (max 0 (-r.y)).toNat, turned, none⟩ := by
  unfold clippedPiece makePiece
  split
  · next h =>
    simp only [h, true_and, Option.some.injEq, sub_sub, add_sub_cancel]
    exact eq_comm
  · next h =>
    simp only [reduceCtorEq, false_iff]
    exact fun hc => h ⟨hc.1, hc.2.1⟩

/-- R83 to R86: a panel position is covered just when its point of the area is in the rectangle. -/
theorem clippedPiece_covers {px py : Int} : (∃ t, clippedPiece g q turned o r = some t ∧ t.dest.covers px py = true) ↔
    0 ≤ px ∧ px < g.width ∧ 0 ≤ py ∧ py < g.height ∧
      r.covers ((if turned then g.width - 1 - px else px) + o) (if turned then g.height - 1 - py else py) = true := by
  simp only [clippedPiece_eq_some, Rect.covers_iff]
  cases turned with
  | false | true =>
    simp only [if_true, if_false, Bool.false_eq_true]
    constructor
    · rintro ⟨t, ⟨hw, hh, rfl⟩, hc⟩
      dsimp only at hc
      omega
    · intro hc
      exact ⟨_, ⟨by omega, by omega, rfl⟩, by dsimp only; omega⟩

/-- R83, R85: a piece lies within its panel and is not empty. -/
theorem clippedPiece_within {t : TargetPiece} (h : clippedPiece g q turned o r = some t) :
    0 ≤ t.dest.x ∧ t.dest.x + t.dest.w ≤ g.width ∧ 0 ≤ t.dest.y ∧ t.dest.y + t.dest.h ≤ g.height ∧
      0 < t.dest.w ∧ 0 < t.dest.h ∧ t.rotated = turned ∧ t.slot = none := by
  obtain ⟨hw, hh, rfl⟩ := clippedPiece_eq_some.1 h
  cases turned <;> simp only [if_true, if_false, Bool.false_eq_true, and_true] <;> omega

/-- R84, R86, R87: the point of the rectangle that a covered position shows. -/
theorem clippedPiece_source {t : TargetPiece} (h : clippedPiece g q turned o r = some t) {px py : Int}
    (hc : t.dest.covers px py = true) :
    (t.srcX : Int) + logicalOffset turned t.dest.w (px - t.dest.x).toNat =
        (if turned then g.width - 1 - px else px) + o - r.x ∧
      (t.srcY : Int) + logicalOffset turned t.dest.h (py - t.dest.y).toNat =
        (if turned then g.height - 1 - py else py) - r.y := by
  obtain ⟨hx, hx', hy, hy'⟩ := Rect.covers_iff.1 hc
  rw [logicalOffset_cast (by omega) (by omega), logicalOffset_cast (by omega) (by omega)]
  obtain ⟨hw, hh, rfl⟩ := clippedPiece_eq_some.1 h
  cases turned <;> simp only [if_true, if_false, Bool.false_eq_true] <;> omega

theorem clippedPiece_panel {t : TargetPiece} (h : clippedPiece g q turned o r = some t) : t.panel = q := by
  obtain ⟨-, -, rfl⟩ := clippedPiece_eq_some.1 h
  rfl

end

/-! ### The pieces of a target -/

section
variable {g : Shared} {rotated : Option PanelId} {a : Area} {r : Rect} {q : PanelId} {turned : Bool} {o : Int}

/-- R83, R84: the piece of a target on one panel is the rectangle clipped to it. -/
theorem mem_piecesOf (ht : turned = true ↔ a = .panel q ∧ rotated = some q)
    (ho : o = if a = .canvas ∧ q = .p1 then (g.width + g.seam : Int) else 0) {t : TargetPiece} :
    t ∈ piecesOf g rotated a r ∧ t.panel = q ↔ (a = .canvas ∨ a = .panel q) ∧ clippedPiece g q turned o r = some t := by
  cases a with
  | panel p =>
    simp only [piecesOf, panelPiece_eq, Option.mem_toList, reduceCtorEq, false_and, if_false, false_or,
      Area.panel.injEq] at ho ht ⊢
    subst ho
    constructor
    · rintro ⟨hp, rfl⟩
      obtain rfl := clippedPiece_panel hp
      have same : turned = (rotated == some t.panel) := by
        rw [Bool.eq_iff_iff, ht, beq_iff_eq]
        exact and_iff_right rfl
      exact ⟨rfl, same ▸ hp⟩
    · rintro ⟨rfl, hp⟩
      have same : turned = (rotated == some p) := by
        rw [Bool.eq_iff_iff, ht, beq_iff_eq]
        exact and_iff_right rfl
      exact ⟨same ▸ hp, clippedPiece_panel hp⟩
  | canvas =>
    obtain rfl : turned = false := by simpa using ht
    simp only [piecesOf, canvasPiece0_eq, canvasPiece1_eq, List.mem_append, Option.mem_toList, true_and,
      true_or] at ho ⊢
    constructor
    · rintro ⟨hp | hp, rfl⟩
      all_goals
        rw [clippedPiece_panel hp] at ho ⊢
        subst ho
        exact hp
    · intro hp
      refine ⟨?_, clippedPiece_panel hp⟩
      cases q with
      | p0 =>
        obtain rfl : o = 0 := by simpa using ho
        exact .inl hp
      | p1 =>
        obtain rfl : o = g.width + g.seam := by simpa using ho
        exact .inr hp

/-- The pieces of a target are on distinct panels, panel 0 first. -/
theorem piecesOf_pairwise :
    ((piecesOf g rotated a r).map TargetPiece.panel).Pairwise fun p p' => p = .p0 ∧ p' = .p1 := by
  cases a with
  | panel p =>
    simp only [piecesOf]
    generalize panelPiece g p _ r = piece
    cases piece <;> simp
  | canvas =>
    simp only [piecesOf, canvasPiece0_eq, canvasPiece1_eq]
    cases h0 : clippedPiece g .p0 false 0 r <;> cases h1 : clippedPiece g .p1 false (g.width + g.seam) r
    case some.some => simpa using ⟨clippedPiece_panel h0, clippedPiece_panel h1⟩
    all_goals simp

end

/-! ### What a position shows -/

theorem LayerSlot.cfg?_eq_some {x : LayerSlot} {c : SlotConfig} : x.cfg? = some c ↔ ∃ o st, x = .live o c st := by
  cases x <;> simp [LayerSlot.cfg?]

section
variable {s : State} {p : PanelId} {x y : Int}

/-- R141: with no live slot over a position, the background shows. -/
theorem State.shown_background
    (h : ∀ k ∈ (s.panel p).stack, ∀ o c st, s.slot k = .live o c st → ¬c.dest.covers x y = true) :
    s.shown p x y = .background := by
  have uncovered : (((s.panel p).stack.reverse.filterMap fun k => (s.slot k).cfg?).find? fun c => c.dest.covers x y) = none := by
    refine List.find?_eq_none.2 fun c hc => ?_
    obtain ⟨k, hk, hcfg⟩ := List.mem_filterMap.1 hc
    obtain ⟨o, st, hs⟩ := LayerSlot.cfg?_eq_some.1 hcfg
    exact h k (List.mem_reverse.1 hk) o c st hs
  rw [State.shown, uncovered]

/-- R140, R141: the topmost live slot over a position shows. -/
theorem State.shown_top {below above : List (Fin 16)} {k : Fin 16} {o : Handle} {c : SlotConfig} {st : Option Staged}
    (hk : (s.panel p).stack = below ++ k :: above) (hs : s.slot k = .live o c st) (hc : c.dest.covers x y = true)
    (ha : ∀ m ∈ above, ∀ o' c' st', s.slot m = .live o' c' st' → ¬c'.dest.covers x y = true) :
    s.shown p x y = c.shows x y := by
  have higher : ((above.reverse.filterMap fun k => (s.slot k).cfg?).find? fun c => c.dest.covers x y) = none := by
    refine List.find?_eq_none.2 fun d hd => ?_
    obtain ⟨m, hm, hcfg⟩ := List.mem_filterMap.1 hd
    obtain ⟨o', st', hl⟩ := LayerSlot.cfg?_eq_some.1 hcfg
    exact ha m (List.mem_reverse.1 hm) o' d st' hl
  have own : (s.slot k).cfg? = some c := LayerSlot.cfg?_eq_some.2 ⟨o, st, hs⟩
  have top : (((s.panel p).stack.reverse.filterMap fun k => (s.slot k).cfg?).find? fun c => c.dest.covers x y) = some c := by
    simp only [hk, List.reverse_append, List.reverse_cons, List.filterMap_append, List.find?_append, higher,
      List.filterMap_cons, own, List.filterMap_nil, List.find?_cons, hc, Option.none_or, Option.some_or]
  rw [State.shown, top]

end

section
variable {c : SlotConfig} {x y : Int} {u v : Nat} (hc : c.dest.covers x y = true)
  (hu : (u : Int) = c.srcX + (if c.rotated then c.dest.w - 1 - (x - c.dest.x) else x - c.dest.x))
  (hv : (v : Int) = c.srcY + (if c.rotated then c.dest.h - 1 - (y - c.dest.y) else y - c.dest.y))

theorem SlotConfig.shows_fill (h : c.fetch = .fill ∨ c.buffer = none) : c.shows x y = .colour c.fill := by
  unfold SlotConfig.shows
  rcases h with h | h
  · rw [h]
  · rw [h]
    cases c.fetch <;> rfl

include hc hu hv

/-- R87: a configuration with a buffer shows the pixel at its logical column and row, and the fill colour beyond the buffer. -/
theorem SlotConfig.shows_buffer {b : Buffer} (hf : c.fetch ≠ .fill) (hb : c.buffer = some b) : c.shows x y =
    if u < b.desc.width.toNat ∧ v < b.desc.height.toNat then .memory (b.pixel u v) else .colour c.fill := by
  obtain ⟨hx, hx', hy, hy'⟩ := Rect.covers_iff.1 hc
  have column : c.srcX + logicalOffset c.rotated c.dest.w (x - c.dest.x).toNat = u := by
    rw [← Int.natCast_inj, Int.natCast_add, logicalOffset_cast (by omega) (by omega), hu]
  have row : c.srcY + logicalOffset c.rotated c.dest.h (y - c.dest.y).toNat = v := by
    rw [← Int.natCast_inj, Int.natCast_add, logicalOffset_cast (by omega) (by omega), hv]
  unfold SlotConfig.shows
  rw [column, row, hb]
  cases h : c.fetch with
  | fill => exact absurd h hf
  | increment | decrement => rfl

end

/-- Settles O58: the piece on one panel is a clipped rectangle (`mem_piecesOf`), and a position shows the topmost slot over it. -/
theorem piecesShowTheRectangle : Obligations.PiecesShowTheRectangle := by
  refine ⟨fun g rotated a r q px py x y turned _ ht hx hy => ⟨?covered, fun t hmem hq => ?piece, piecesOf_pairwise⟩,
    fun s p x y covers hcovers => ?shown⟩
  case covered =>
    rw [hx, hy, ← clippedPiece_covers (q := q), ← exists_and_left]
    refine exists_congr fun t => ?_
    rw [← and_assoc, mem_piecesOf ht rfl, and_assoc]
  case piece =>
    obtain ⟨-, clipped⟩ := (mem_piecesOf ht rfl).1 ⟨hmem, hq⟩
    obtain ⟨left, right, top, bottom, wide, high, turns, unslotted⟩ := clippedPiece_within clipped
    rw [hx, hy]
    exact ⟨left, right, top, bottom, wide, high, turns, unslotted, clippedPiece_source clipped⟩
  case shown =>
    obtain rfl : covers = fun c => c.dest.covers x y = true :=
      funext fun c => propext ((hcovers c).trans Rect.covers_iff.symm)
    refine ⟨State.shown_background, fun below above k o c st u v hk hs hc ha hu hv => ?_⟩
    rw [State.shown_top hk hs hc ha]
    refine ⟨SlotConfig.shows_fill, fun b hf hb => ?_⟩
    rw [SlotConfig.shows_buffer hc hu hv hf hb]
    exact ⟨fun hw hh => if_pos ⟨hw, hh⟩, fun h => if_neg h⟩

end Sys2Proof.Machine
end

section
/-! SUPPORT. The power sequence of a panel (R124 to R128) and what a change of its lit demand does (R123, R129). -/

namespace Sys2Proof.Machine

/-! ### Power-up -/

/-- R125: a panel as it enters POWERING_UP. -/
def State.poweringUp (s : State) (x : Panel) : Panel := { x with
  mode := .poweringUp .rail, seqTimer := some (s.now + s.shared.tRail * 1000)
  health := 0, warning := false, linkError := .none }

section
variable (s : State) (p : PanelId)

/-- R124: a panel that is OFF, wanted lit and past its off-time powers up. -/
theorem State.setPanel_checkPowerUp (x : Panel) : (s.setPanel p x).checkPowerUp p = s.setPanel p
    (if x.mode = .off ∧ x.litDemand = true ∧ x.offTimer = none then s.poweringUp x else x) := by
  simp only [State.checkPowerUp, State.panel_setPanel_same]
  split
  · refine (State.setPanel_setPanel s p x _).trans ?_
    rw [State.panel_setPanel_same]
    rfl
  · rfl

/-- R124: entry to OFF. -/
theorem State.setPanel_enterOff {x y : Panel} (hx : x = { y with mode := .off }) : (s.setPanel p y).enterOff p =
    s.setPanel p (if x.litDemand = true ∧ x.offTimer = none then s.poweringUp x else x) := by
  have off : (s.setPanel p y).modPanel p (fun x => { x with mode := .off }) = s.setPanel p x := by
    rw [State.modPanel, State.panel_setPanel_same, State.setPanel_setPanel, hx]
  rw [State.enterOff, off, State.setPanel_checkPowerUp]
  exact congrArg _ (if_congr (and_iff_right (by rw [hx])) rfl rfl)

/-- Time that passes leaves a panel out of service alone. -/
theorem State.panel_elapse_dark {s : State} {p : PanelId} (h : (s.panel p).inService = false) (us : Nat) :
    (s.elapse us).panel p = s.panel p := by
  rw [State.panel_elapse, Panel.elapse, h]
  rfl

end

/-! ### The stages -/

section
variable {s v : State} {p : PanelId} {t : Nat}

theorem State.atTimer_some {u : Timer} (h : u = some t) (f : State → State) :
    s.atTimer u f = f (s.elapse (t - s.now)) := by
  rw [h]
  rfl

theorem Panel.dark_of_poweringUp {x : Panel} {st : PowerStage} (h : x.mode = .poweringUp st) : x.inService = false := by
  simp only [Panel.inService, h]

theorem Panel.dark_of_poweringDown {x : Panel} (h : x.mode = .poweringDown) : x.inService = false := by
  simp only [Panel.inService, h]

/-- R154: the entry to OFFLINE of a panel out of service. -/
theorem Ev.goOffline_of_dark {e : Ev} (c : FaultCause) (h : (e.s.panel p).inService = false) : e.goOffline p c = { e with
    s := (e.s.setPanel p (e.s.offlinePanel (e.s.panel p) c)).raise .panel, resolveAll := true } := by
  simp only [Ev.goOffline, h]
  rfl

section
variable (ht : (s.panel p).seqTimer = some t) (hv : v = s.elapse (t - s.now))
include ht hv

/-- R125: a stage that ends begins the next one, with its length on the timer. -/
theorem State.stageEnd {st next : PowerStage} (length : Shared → Nat) (hm : (s.panel p).mode = .poweringUp st) :
    (if (s.panel p).mode = .poweringUp st then s.atTimer (s.panel p).seqTimer fun s => s.modPanel p fun x =>
        { x with mode := .poweringUp next, seqTimer := some (s.after (length s.shared)) }
      else s) = v.setPanel p { s.panel p with
        mode := .poweringUp next, seqTimer := some (v.now + length s.shared * 1000) } := by
  subst hv
  rw [if_pos hm, State.atTimer_some ht, State.modPanel, State.panel_elapse_dark (Panel.dark_of_poweringUp hm)]
  rfl

theorem railStageEnd_answers (hm : (s.panel p).mode = .poweringUp .rail) : Answers (.railStageEnd p) s
    (v.setPanel p { s.panel p with mode := .poweringUp .reset, seqTimer := some (v.now + s.shared.tRst * 1000) }) :=
  congrArg Host.Outcome.next (State.stageEnd ht hv Shared.tRst hm)

theorem resetStageEnd_answers (hm : (s.panel p).mode = .poweringUp .reset) : Answers (.resetStageEnd p) s
    (v.setPanel p { s.panel p with mode := .poweringUp .training, seqTimer := some (v.now + s.shared.tTrain * 1000) }) :=
  congrArg Host.Outcome.next (State.stageEnd ht hv Shared.tTrain hm)

/-- R126: a training that does not end enters OFFLINE. -/
theorem trainingExpiry_answers (hm : (s.panel p).mode = .poweringUp .training) : Answers (.trainingExpiry p) s
    { Ev.start ((v.setPanel p (v.offlinePanel (s.panel p) .trainFail)).raise .panel) with resolveAll := true }.done := by
  subst hv
  have same := State.panel_elapse_dark (Panel.dark_of_poweringUp hm) (t - s.now)
  refine congrArg Host.Outcome.next ((if_pos hm).trans ((State.atTimer_some ht _).trans ?_))
  rw [Ev.goOffline_of_dark (e := Ev.start (s.elapse (t - s.now))) .trainFail
    ((congrArg Panel.inService same).trans (Panel.dark_of_poweringUp hm))]
  simp only [Ev.start, same]

/-- R124, R128: a power-down ends in OFF with the off-time started. -/
theorem powerDownEnd_answers (hm : (s.panel p).mode = .poweringDown) {x : Panel}
    (hx : x = { s.panel p with mode := .off, seqTimer := none, offTimer := v.timerFor s.shared.tOff }) :
    Answers (.powerDownEnd p) s (v.setPanel p (if x.litDemand = true ∧ x.offTimer = none then v.poweringUp x else x)) := by
  subst hv
  refine congrArg Host.Outcome.next ((if_pos hm).trans ((State.atTimer_some ht _).trans ?_))
  rw [State.modPanel, State.panel_elapse_dark (Panel.dark_of_poweringDown hm)]
  exact State.setPanel_enterOff _ p hx

end

/-- R124: a timer for 0 ms has expired at once. -/
theorem State.timerFor_eq_none_iff {ms : Nat} : s.timerFor ms = none ↔ ms = 0 := by
  unfold State.timerFor
  split <;> simp_all

/-- R124: the off-time ends. -/
theorem offTimeExpiry_answers (ht : (s.panel p).offTimer = some t) (hv : v = s.elapse (t - s.now)) :
    Answers (.offTimeExpiry p) s (v.setPanel p (if (v.panel p).mode = .off ∧ (v.panel p).litDemand = true then
      v.poweringUp { v.panel p with offTimer := none } else { v.panel p with offTimer := none })) := by
  subst hv
  refine congrArg Host.Outcome.next ((State.atTimer_some ht _).trans ((State.setPanel_checkPowerUp _ p _).trans ?_))
  exact congrArg _ (if_congr (and_congr_right fun _ => and_iff_left rfl) rfl rfl)

theorem offTimeExpiry_stopped (h : (s.panel p).offTimer = none) : Answers (.offTimeExpiry p) s s := by
  simp only [Answers, exec, execOffTimeExpiry, h]
  rfl

theorem PanelMode.lines_eq (m : PanelMode) : m.lines = (match m with
    | .off | .offline => ⟨false, false, .idle⟩
    | .poweringUp .rail | .poweringDown => ⟨true, false, .idle⟩
    | .poweringUp .reset => ⟨true, true, .idle⟩
    | .poweringUp .training => ⟨true, true, .training⟩
    | .on | .degraded => ⟨true, true, .frames⟩) := by
  rcases m with _ | (_ | _ | _) | _ | _ | _ | _ <;> rfl

end

/-! ### A departure from service of a dark panel -/

section
variable {e : Ev} {p : PanelId} (evict : Bool) (h : (e.s.panel p).inService = false)
include h

theorem Ev.leaveService_panel : (e.leaveService p evict).s.panel p = (e.s.panel p).stopFrames := by
  rw [Ev.leaveService_eq evict h, State.panel_of_panels (State.foldl_reportLoss_tableFrame (s := e.s.leftService p)).panels]
  exact e.s.panel_modPanel_same p _

theorem Ev.leaveService_slot {k : Fin 16} (hk : e.s.user k = p) : (e.leaveService p evict).s.slot k = .free := by
  rw [Ev.leaveService_eq evict h]
  refine (congrArg (fun v => v[k]) State.foldl_reportLoss_slots).trans ((e.s.leftService_slot k).trans (if_pos hk))

theorem Ev.leaveService_shared : (e.leaveService p evict).s.shared = { e.s.shared with joined := .notJoined } := by
  rw [Ev.leaveService_eq evict h]
  exact (State.foldl_reportLoss_tableFrame (s := e.s.leftService p)).shared

end

/-! ### A change of lit demand -/

/-- R128: a panel as it enters POWERING_DOWN. -/
def State.poweringDown (s : State) (x : Panel) : Panel := { x with
  mode := .poweringDown, seqTimer := some (s.now + s.shared.tDown * 1000) }

section
variable {e : Ev} {p : PanelId} {f : Panel → Panel} {x : Panel} (hx : x = f (e.s.panel p))
include hx

theorem Ev.changeDemand_same (h : x.litDemand = (e.s.panel p).litDemand) :
    e.changeDemand p f = { e with s := e.s.setPanel p x } := by
  subst hx
  simp only [Ev.changeDemand, Ev.modPanel, Ev.mod, State.panel_modPanel_same, h]
  cases (e.s.panel p).litDemand <;> rfl

/-- R124: the lit demand turned on. -/
theorem Ev.changeDemand_on (hn : x.litDemand = true) (hw : (e.s.panel p).litDemand = false) : e.changeDemand p f = { e with
    s := e.s.setPanel p (if x.mode = .off ∧ x.offTimer = none then e.s.poweringUp x else x) } := by
  subst hx
  simp only [Ev.changeDemand, Ev.modPanel, Ev.mod, State.panel_modPanel_same, hn, hw]
  refine congrArg (fun s => ({ e with s := s } : Ev)) ((State.setPanel_checkPowerUp e.s p _).trans ?_)
  exact congrArg _ (if_congr (and_congr_right fun _ => and_iff_right hn) rfl rfl)

variable (hn : x.litDemand = false) (hw : (e.s.panel p).litDemand = true)
include hn hw

theorem Ev.changeDemand_off : e.changeDemand p f = ({ e with s := e.s.setPanel p x } : Ev).demandOff p := by
  subst hx
  simp only [Ev.changeDemand, Ev.modPanel, Ev.mod, State.panel_modPanel_same, hn, hw]
  rfl

/-- R128: a panel that is off, powering down or OFFLINE stays so. -/
theorem Ev.changeDemand_off_idle (hm : x.mode = .off ∨ x.mode = .poweringDown ∨ x.mode = .offline) :
    e.changeDemand p f = { e with s := e.s.setPanel p x } := by
  rw [Ev.changeDemand_off hx hn hw]
  rcases hm with hm | hm | hm <;> simp only [Ev.demandOff, State.panel_setPanel_same, hm]

/-- R125: a panel that is powering up powers down. -/
theorem Ev.changeDemand_off_poweringUp {st : PowerStage} (hm : x.mode = .poweringUp st) :
    e.changeDemand p f = { e with s := e.s.setPanel p (e.s.poweringDown x) } := by
  rw [Ev.changeDemand_off hx hn hw]
  simp only [Ev.demandOff, Ev.powerDown, Ev.modPanel, Ev.mod, State.modPanel, State.panel_setPanel_same, hm,
    Panel.dark_of_poweringUp hm, State.setPanel_setPanel]
  rfl

/-- R128, R129: a panel in service powers down and leaves service. -/
theorem Ev.changeDemand_off_service (hm : x.mode = .on ∨ x.mode = .degraded) :
    e.changeDemand p f = ({ e with s := e.s.setPanel p (e.s.poweringDown x) } : Ev).leaveService p false := by
  have service : x.inService = true := by rcases hm with hm | hm <;> simp only [Panel.inService, hm]
  have powers : ({ e with s := e.s.setPanel p x } : Ev).demandOff p = ({ e with s := e.s.setPanel p x } : Ev).powerDown p := by
    rcases hm with hm | hm <;> simp only [Ev.demandOff, State.panel_setPanel_same, hm]
  rw [Ev.changeDemand_off hx hn hw, powers]
  simp only [Ev.powerDown, Ev.modPanel, Ev.mod, State.modPanel, State.panel_setPanel_same, service, State.setPanel_setPanel]
  rfl

end

/-- Settles O51: each stage and timer by its own answer, the lines by the panel state, and each change of lit demand. -/
theorem powerSequence : Obligations.PowerSequence := by
  refine ⟨fun s v p t ht hv => ⟨railStageEnd_answers ht hv, resetStageEnd_answers ht hv, fun w hm hw => ?training,
      fun x hm hx => ?down⟩, fun s v p t ht hv => ?offTime,
    fun s p => ⟨offTimeExpiry_stopped, fun h => congrArg Host.Outcome.next (if_neg h),
      fun h => congrArg Host.Outcome.next (if_neg h), fun h => congrArg Host.Outcome.next (if_neg h),
      fun h => congrArg Host.Outcome.next (if_neg h), PanelMode.lines_eq _⟩,
    fun e p f x on hx _ => ⟨Ev.changeDemand_same hx, Ev.changeDemand_on hx, fun hn hw =>
      ⟨Ev.changeDemand_off_idle hx hn hw, fun ⟨st, hm⟩ => Ev.changeDemand_off_poweringUp hx hn hw hm,
        fun e' hm he => ?service⟩⟩⟩
  case training =>
    have offline : w = (v.setPanel p (v.offlinePanel (s.panel p) .trainFail)).raise .panel := by
      rw [hw, hv]
      rfl
    rw [offline]
    exact ⟨Ev.done_frame { Ev.start _ with resolveAll := true }, trainingExpiry_answers ht hv hm⟩
  case down =>
    subst hv
    have answers := powerDownEnd_answers ht rfl hm hx
    have timer : x.offTimer = none ↔ s.shared.tOff = 0 := by
      rw [hx]
      exact State.timerFor_eq_none_iff
    rwa [if_congr (and_congr_right fun _ => timer) rfl rfl] at answers
  case offTime =>
    subst hv
    exact offTimeExpiry_answers ht rfl
  case service =>
    have left := Ev.changeDemand_off_service hx hn hw hm
    let d : Ev := { e with s := e.s.setPanel p (e.s.poweringDown x) }
    have same : d.s.panel p = e.s.poweringDown x := e.s.panel_setPanel_same p _
    have dark : (d.s.panel p).inService = false := congrArg Panel.inService same
    rw [he, left]
    refine ⟨rfl, (Ev.leaveService_panel false dark).trans (congrArg Panel.stopFrames same),
      fun k hk => Ev.leaveService_slot false dark hk, Ev.leaveService_shared false dark, ?_, ?_⟩
    · rw [Ev.leaveService_eq false dark]
    · rw [Ev.leaveService_eq false dark]

end Sys2Proof.Machine
end

section
/-! SUPPORT. PANEL_ENABLE and PANEL_RECOVER in their turn (R146, R160). -/

namespace Sys2Proof.Machine

/-! ### The setting that makes the lit demand -/

/-- A change of lit demand keeps the enable setting that the change made. -/
theorem Ev.changeDemand_enabled (e : Ev) (p : PanelId) (f : Panel → Panel) :
    ((e.changeDemand p f).s.panel p).enabled = (f (e.s.panel p)).enabled := by
  obtain ⟨x, hx⟩ : ∃ x, x = f (e.s.panel p) := ⟨_, rfl⟩
  rw [← hx]
  cases hn : x.litDemand <;> cases hw : (e.s.panel p).litDemand
  case false.false | true.true =>
    rw [Ev.changeDemand_same hx (hn.trans hw.symm), State.panel_setPanel_same]
  case true.false =>
    rw [Ev.changeDemand_on hx hn hw, State.panel_setPanel_same]
    split <;> rfl
  case false.true =>
    have departs (hm : x.mode = .on ∨ x.mode = .degraded) : ((e.changeDemand p f).s.panel p).enabled = x.enabled := by
      have same : ({ e with s := e.s.setPanel p (e.s.poweringDown x) } : Ev).s.panel p = e.s.poweringDown x :=
        e.s.panel_setPanel_same p _
      rw [Ev.changeDemand_off_service hx hn hw hm, Ev.leaveService_panel false (congrArg Panel.inService same),
        same]
      rfl
    cases hm : x.mode with
    | off => rw [Ev.changeDemand_off_idle hx hn hw (.inl hm), State.panel_setPanel_same]
    | poweringDown => rw [Ev.changeDemand_off_idle hx hn hw (.inr (.inl hm)), State.panel_setPanel_same]
    | offline => rw [Ev.changeDemand_off_idle hx hn hw (.inr (.inr hm)), State.panel_setPanel_same]
    | poweringUp st =>
      rw [Ev.changeDemand_off_poweringUp hx hn hw hm, State.panel_setPanel_same]
      rfl
    | on => exact departs (.inl hm)
    | degraded => exact departs (.inr hm)

/-! ### PANEL_ENABLE -/

section
variable {s u : State} {p : PanelId} {on : Bool} {b v : Byte}

@[simp] theorem State.handed_panel (s : State) (c : Instr) (p : PanelId) : (s.handed c).panel p = s.panel p :=
  State.panel_of_panels (State.handed_panels ..) p

theorem panelEnable_badValue (ht : s.turn (.panelEnable b v)) (h : (∀ p, b ≠ panelCode p) ∨ 2 ≤ v.toNat) :
    Answers (.panelEnable b v) s (s.answered .badValue []) := by
  refine answers_refused ht rfl ?_
  unfold ownPanelEnable
  split
  · next hp hv =>
    rcases h with h | h
    · cases hp.symm.trans (panelOfByte_none h)
    · cases hv.symm.trans (boolOfByte_of_two_le h)
  · rfl

/-- R123: the lit demand changes with the setting only while the plan lights the panel. -/
theorem Panel.litDemand_ne_iff {x y : Panel} (hl : y.planLit = x.planLit) :
    x.litDemand ≠ y.litDemand ↔ x.planLit = true ∧ x.enabled ≠ y.enabled := by
  unfold Panel.litDemand
  rw [hl]
  cases x.planLit <;> simp

/-- R146: the change of lit demand that an enable setting makes. -/
def Ev.changeEnabled (e : Ev) (p : PanelId) (on : Bool) : Ev := e.changeDemand p fun x => { x with enabled := on }

/-- R146: what the setting leaves at the panels, before the event ends. -/
theorem Ev.changeEnabled_panel (e : Ev) (p : PanelId) (on : Bool) : ((e.changeEnabled p on).s.panel p).enabled = on ∧
    ((e.changeEnabled p on).s.panel p).planLit = (e.s.panel p).planLit ∧
    (e.changeEnabled p on).s.panel (otherPanel p) = e.s.panel (otherPanel p) := by
  have frame := e.changeDemand_panelFrame p fun x => { x with enabled := on }
  have same : (e.modPanel p fun x => { x with enabled := on }).s.panel p = { e.s.panel p with enabled := on } :=
    e.s.panel_modPanel_same p _
  exact ⟨e.changeDemand_enabled p _, frame.planLit.trans (by rw [same]),
    frame.other.trans (e.s.panel_modPanel_other p _)⟩

theorem Panel.isOffline_iff {x : Panel} : x.isOffline = true ↔ x.mode = .offline := by
  unfold Panel.isOffline
  cases x.mode <;> simp

/-- R93, R146: a demand changed outside OFFLINE re-resolves every record. -/
theorem Ev.setEnable_eq (e : Ev) (p : PanelId) (on : Bool) : e.setEnable p on = { e.changeEnabled p on with
    resolveAll := (e.changeEnabled p on).resolveAll || decide ((e.s.panel p).planLit = true ∧ (e.s.panel p).enabled ≠ on ∧
      (e.s.panel p).mode ≠ PanelMode.offline) } := by
  obtain ⟨enabled, planLit, -⟩ := e.changeEnabled_panel p on
  have due : (decide ((e.s.panel p).litDemand ≠ ((e.changeEnabled p on).s.panel p).litDemand) &&
      !(e.s.panel p).isOffline) = decide ((e.s.panel p).planLit = true ∧ (e.s.panel p).enabled ≠ on ∧
        (e.s.panel p).mode ≠ PanelMode.offline) := by
    rw [Bool.eq_iff_iff, Bool.and_eq_true, decide_eq_true_eq, decide_eq_true_eq, Panel.litDemand_ne_iff planLit, enabled,
      Bool.not_eq_true', ← Bool.not_eq_true, Panel.isOffline_iff, and_assoc]
  rw [← due]
  rfl

theorem ownPanelEnable_taken : ownPanelEnable (panelCode p) (bitByte on) u = (((Ev.start u).setEnable p on).done,
    doneReply (decide ((u.panel p).litDemand ≠ (((Ev.start u).setEnable p on).done.panel p).litDemand)) []) := by
  simp only [ownPanelEnable, panelOfByte_code, boolOfByte_bitByte]

theorem panelEnable_taken (ht : s.turn (.panelEnable (panelCode p) (bitByte on))) {e : Ev}
    (he : e = (Ev.start (s.handed (.panelEnable (panelCode p) (bitByte on)))).changeEnabled p on)
    {due : Bool} (hd : due = (e.resolveAll || decide ((s.panel p).planLit = true ∧ (s.panel p).enabled ≠ on ∧
      (s.panel p).mode ≠ PanelMode.offline))) (hu : u = { e with resolveAll := due }.done) : e.s.EngineFrame u ∧
      (u.panel p).enabled = on ∧ (u.panel (otherPanel p)).enabled = (s.panel (otherPanel p)).enabled ∧
      Answers (.panelEnable (panelCode p) (bitByte on)) s (u.answered
        (if (s.panel p).planLit = true ∧ (s.panel p).enabled ≠ on then .accepted else .ok) []) := by
  let start := Ev.start (s.handed (.panelEnable (panelCode p) (bitByte on)))
  have before (q : PanelId) : start.s.panel q = s.panel q := State.handed_panel ..
  have event : (start.setEnable p on).done = u := by
    rw [Ev.setEnable_eq, before, hu, hd, he]
  have frame : e.s.EngineFrame u := hu ▸ Ev.done_frame { e with resolveAll := due }
  have after (q : PanelId) : u.panel q = e.s.panel q := State.panel_of_panels frame.panels q
  obtain ⟨enabled, planLit, other⟩ := he ▸ start.changeEnabled_panel p on
  rw [before] at planLit other
  refine ⟨frame, (congrArg _ (after p)).trans enabled, congrArg _ ((after _).trans other), ?_⟩
  have changed : (s.panel p).litDemand ≠ (u.panel p).litDemand ↔ (s.panel p).planLit = true ∧ (s.panel p).enabled ≠ on := by
    rw [after, Panel.litDemand_ne_iff planLit, enabled]
  have answers := answers_of_owner ht rfl ownPanelEnable_taken
  rw [event, State.handed_panel] at answers
  simpa only [doneReply, decide_eq_true_eq, changed] using answers

end

/-! ### PANEL_RECOVER -/

section
variable {s u : State} {p : PanelId} {b : Byte}

theorem panelRecover_badValue (ht : s.turn (.panelRecover b)) (h : ∀ p, b ≠ panelCode p) :
    Answers (.panelRecover b) s (s.answered .badValue []) := by
  refine answers_refused ht rfl ?_
  simp only [ownPanelRecover, panelOfByte_none h]

/-- A change of a panel is answered alike before and after the frame is taken. -/
theorem State.handed_setPanel_answered (s : State) (c : Instr) (p : PanelId) (x : Panel) (st : Status) (payload : List Byte) :
    ((s.handed c).setPanel p x).answered st payload = (s.setPanel p x).answered st payload := by
  simp only [State.answered, State.setPanel, State.handed_panels, State.handed_sdo, State.handed_reset, State.handed_hinge,
    State.handed_posture, State.handed_table, State.handed_rules, State.handed_queue, State.handed_shared,
    State.handed_slots, State.handed_attn, State.handed_now, State.handed_offers, State.handed_pending]

/-- R160: a panel that is not OFFLINE has its attempts cleared. -/
theorem panelRecover_lit (ht : s.turn (.panelRecover (panelCode p))) (hm : (s.panel p).mode ≠ .offline) :
    Answers (.panelRecover (panelCode p)) s
      ((s.modPanel p fun x => { x with attempts := 0 }).answered .ok [(s.panel p).mode.code, 0]) := by
  have lit : (s.panel p).isOffline = false := Bool.eq_false_iff.2 (mt Panel.isOffline_iff.1 hm)
  have own : ownPanelRecover (panelCode p) (s.handed (.panelRecover (panelCode p))) =
      ((s.handed (.panelRecover (panelCode p))).modPanel p (fun x => { x with attempts := 0 }),
        ⟨.ok, [(s.panel p).mode.code, 0]⟩) := by
    simp only [ownPanelRecover, panelOfByte_code, State.handed_panel, lit, Bool.false_eq_true, if_false,
      State.panel_modPanel_same]
    rfl
  have answers := answers_of_owner ht rfl own
  rwa [State.modPanel, State.handed_setPanel_answered, State.handed_panel] at answers

/-- R157, R160: a panel taken from OFFLINE to OFF. -/
theorem Ev.leaveOffline_eq {s : State} {y x : Panel} (hx : x = { y with quietTimer := none, mode := .off }) :
    (Ev.start (s.setPanel p y)).leaveOffline p = { Ev.start (s.setPanel p
      (if x.litDemand = true ∧ x.offTimer = none then s.poweringUp x else x)) with resolveAll := x.litDemand } := by
  have off : ((s.setPanel p y).modPanel p fun x => { x with quietTimer := none }).enterOff p =
      s.setPanel p (if x.litDemand = true ∧ x.offTimer = none then s.poweringUp x else x) := by
    rw [State.modPanel, State.panel_setPanel_same, State.setPanel_setPanel]
    exact s.setPanel_enterOff p hx
  simp only [Ev.leaveOffline, Ev.start, Ev.mod, off, State.panel_setPanel_same, Bool.false_or, hx]
  rfl

/-- R160: an OFFLINE panel goes to OFF. -/
theorem panelRecover_offline (ht : s.turn (.panelRecover (panelCode p))) (hm : (s.panel p).mode = .offline) {x : Panel}
    (hx : x = { s.panel p with attempts := 0, quietTimer := none, mode := .off }) {w : State}
    (hw : w = (s.handed (.panelRecover (panelCode p))).setPanel p
      (if x.litDemand = true ∧ x.offTimer = none then s.poweringUp x else x))
    (hu : u = { Ev.start w with resolveAll := x.litDemand }.done) : w.EngineFrame u ∧
      Answers (.panelRecover (panelCode p)) s (u.answered .accepted [(u.panel p).mode.code, 0]) := by
  have frame : w.EngineFrame u := hu ▸ Ev.done_frame { Ev.start w with resolveAll := x.litDemand }
  have dark : (s.panel p).isOffline = true := Panel.isOffline_iff.2 hm
  have left : (Ev.start ((s.handed (.panelRecover (panelCode p))).setPanel p { s.panel p with attempts := 0 })).leaveOffline p =
      { Ev.start w with resolveAll := x.litDemand } := by
    rw [Ev.leaveOffline_eq hx, hw]
    simp only [State.poweringUp, State.handed_now, State.handed_shared]
  have attempts : (u.panel p).attempts = 0 := by
    rw [State.panel_of_panels frame.panels, hw, State.panel_setPanel_same]
    split <;> rw [hx]
    rfl
  have own : ownPanelRecover (panelCode p) (s.handed (.panelRecover (panelCode p))) =
      (u, ⟨.accepted, [(u.panel p).mode.code, 0]⟩) := by
    simp only [ownPanelRecover, panelOfByte_code, State.modPanel, State.handed_panel, dark, if_true, left, ← hu, attempts]
    rfl
  exact ⟨frame, answers_of_owner ht rfl own⟩

end

/-- Settles O46: each request by its refusal and by what it takes. -/
theorem panelRequests : Obligations.PanelRequests := by
  refine ⟨fun s b v ht => ⟨panelEnable_badValue ht, fun p on e u hb hv he hu => ?enable⟩,
    fun s b ht => ⟨panelRecover_badValue ht, fun p hb hm => ?lit, fun p x hb hm hx w u hw hu => ?offline⟩⟩
  case enable =>
    subst hb hv
    exact panelEnable_taken ht he rfl hu
  case lit =>
    subst hb
    exact panelRecover_lit ht hm
  case offline =>
    subst hb
    exact panelRecover_offline ht hm hx hw hu

end Sys2Proof.Machine
end

section
/-! SUPPORT. READ_RULE in its turn (R75). -/

namespace Sys2Proof.Machine

section
variable {s : State} {index : Byte}

/-- R75: an index below 16 reports its entry as stored. -/
theorem readRule_entry (ht : s.turn (.readRule index)) {n : Fin 16} (hn : n.val = index.toNat) :
    Answers (.readRule index) s (s.answered .ok (index :: (s.rules[n]).bytes)) := by
  refine answers_of_report ht rfl ?_
  simp only [ownReadRule, ← hn, dif_pos n.isLt, State.handed_rules, Fin.getElem_fin]

/-- R73, R75: index 16 reports the built-in default. -/
theorem readRule_builtin (ht : s.turn (.readRule index)) (hi : index.toNat = 16) :
    Answers (.readRule index) s (s.answered .ok (index :: Rule.builtin.bytes)) := by
  refine answers_of_report ht rfl ?_
  rw [ownReadRule, dif_neg (by omega), if_pos hi]

theorem readRule_badValue (ht : s.turn (.readRule index)) (hi : 16 < index.toNat) :
    Answers (.readRule index) s (s.answered .badValue []) := by
  refine answers_refused ht rfl ?_
  rw [ownReadRule, dif_neg (by omega), if_neg (by omega)]

end

/-- Settles O24: an entry, the built-in default, or a refusal, by the index. -/
theorem readRuleReports : Obligations.ReadRuleReports := by
  intro s index ht
  refine ⟨fun n hn => readRule_entry ht hn, fun hi => ?_, fun hi => readRule_badValue ht hi⟩
  obtain rfl : index = 16#8 := BitVec.eq_of_toNat_eq hi
  exact readRule_builtin ht rfl

end Sys2Proof.Machine
end

section
/-! SUPPORT. An operation of the Handover Engine on the job of one record leaves the records and the jobs of all others as
they were. -/

namespace Sys2Proof.Machine

/-! ### The relation -/

/-- The record slots but that with index `i`, and the jobs of every other record, are the same. -/
structure State.AtRecord (i : Fin 40) (s t : State) : Prop where
  entry : ∀ k, k ≠ i → t.entry k = s.entry k
  job : ∀ j : Job, j.handle.index ≠ i → (j ∈ t.queue ↔ j ∈ s.queue)

section
variable {i : Fin 40} {s t u : State}

theorem State.AtRecord.refl (s : State) : s.AtRecord i s := ⟨fun _ _ => rfl, fun _ _ => .rfl⟩

theorem State.AtRecord.trans (h : State.AtRecord i s t) (k : State.AtRecord i t u) : State.AtRecord i s u where
  entry m hm := (k.entry m hm).trans (h.entry m hm)
  job j hj := (k.job j hj).trans (h.job j hj)

/-- An update that has no part in the records and the queue. -/
theorem State.AtRecord.of_rest (ht : t.table.slots = s.table.slots) (hq : t.queue = s.queue) : State.AtRecord i s t where
  entry k _ := congrArg (fun v => v[k]) ht
  job j _ := by rw [hq]

theorem State.AtRecord.of_onlyEntry (h : State.OnlyEntry i s t) : State.AtRecord i s t where
  entry _ hk := h.entry hk
  job j _ := by rw [h.queue]

theorem State.modRecord_atRecord (s : State) (i : Fin 40) (f : Record → Record) : s.AtRecord i (s.modRecord i f) :=
  .of_onlyEntry (s.modRecord_onlyEntry i f)

theorem State.modJob_atRecord (s : State) {f : Job → Job} (hf : ∀ j, (f j).handle = j.handle) :
    s.AtRecord i (s.modJob i f) where
  entry _ _ := rfl
  job j hj := by
    simp only [State.modJob, List.mem_map]
    constructor
    · rintro ⟨x, hx, rfl⟩
      by_cases hi : x.handle.index = i
      · rw [if_pos hi, hf] at hj
        exact absurd hi hj
      · rwa [if_neg hi]
    · exact fun hx => ⟨j, hx, if_neg hj⟩

theorem State.dropJob_atRecord (s : State) (i : Fin 40) : s.AtRecord i (s.dropJob i) where
  entry _ _ := rfl
  job j hj := by simp [State.dropJob, hj]

end

/-! ### Operations of the engine -/

section
variable (e : Ev) (i : Fin 40)

theorem Ev.modRecord_atRecord (f : Record → Record) : e.s.AtRecord i (e.modRecord i f).s := e.s.modRecord_atRecord i f

theorem Ev.modJob_atRecord {f : Job → Job} (hf : ∀ j, (f j).handle = j.handle) : e.s.AtRecord i (e.modJob i f).s :=
  e.s.modJob_atRecord hf

theorem Ev.examine_atRecord : e.s.AtRecord i (e.examine i).s := by
  unfold Ev.examine
  split
  · split
    · exact e.modJob_atRecord i fun _ => by exact rfl
    · exact .refl _
  · exact .refl _

theorem Ev.expireWait_atRecord : e.s.AtRecord i (e.expireWait i).s :=
  (e.modRecord_atRecord i _).trans (Ev.modJob_atRecord _ i fun _ => by exact rfl)

theorem Ev.beginWait_atRecord (z : Size) (d : Nat) : e.s.AtRecord i (e.beginWait i z d).s := by
  have begun := (e.modRecord_atRecord i fun r => { r with wanted := some z, marks := { r.marks with wanted := true } }).trans
    (Ev.modJob_atRecord _ i (f := fun j => { j with waiting := true, expiry := some (e.s.after d) }) fun _ => rfl)
  simp only [Ev.beginWait]
  split
  · exact begun.trans (Ev.expireWait_atRecord _ i)
  · exact begun

theorem Ev.bufferCondition_atRecord (j : Job) : e.s.AtRecord i (e.bufferCondition i j).s := by
  unfold Ev.bufferCondition
  split
  · exact (e.modRecord_atRecord i _).trans (Ev.modJob_atRecord _ i fun _ => by exact rfl)
  · split
    · exact e.modJob_atRecord i fun _ => by exact rfl
    · exact e.beginWait_atRecord i _ _

theorem Ev.prepare_atRecord : e.s.AtRecord i (e.prepare i).s := by
  unfold Ev.prepare
  split
  · exact ((e.modJob_atRecord i fun _ => by exact rfl).trans (Ev.bufferCondition_atRecord _ i _)).trans
      (Ev.examine_atRecord _ i)
  · exact .refl _

theorem Ev.enqueue_atRecord (res : Resolution) : e.s.AtRecord i (e.enqueue i res).s where
  entry k hk := (State.modRecord_onlyEntry _ i _).entry hk
  job j hj := by
    have other : j ≠ Job.fresh (e.s.handle i) res := fun h => hj (congrArg (fun x : Job => x.handle.index) h)
    rw [Ev.enqueue_queue]
    split <;> simp [other]

theorem Ev.createJob_atRecord (res : Resolution) : e.s.AtRecord i (e.createJob i res).s :=
  (e.enqueue_atRecord i res).trans (Ev.prepare_atRecord _ i)

theorem Ev.setPendingMark_atRecord : e.s.AtRecord i (e.setPendingMark i).s :=
  (e.modRecord_atRecord i fun r => { r with resPending := true }).trans (.of_rest rfl rfl)

theorem Ev.settleMark_atRecord (r : Record) (res : Resolution) : e.s.AtRecord i (e.settleMark i r res).s := by
  unfold Ev.settleMark
  split
  · exact e.modRecord_atRecord i _
  · split
    · exact e.createJob_atRecord i res
    · exact .refl _

theorem Ev.redirectJob_atRecord (j : Job) (res : Resolution) : e.s.AtRecord i (e.redirectJob i j res).s := by
  have prepared := (e.modJob_atRecord i (f := fun j => { j with target := res }) fun _ => rfl).trans
    (Ev.prepare_atRecord { (e.modJob i fun j => { j with target := res }) with changed := true } i)
  unfold Ev.redirectJob
  split
  · exact prepared
  · exact prepared
  · exact e.modJob_atRecord i fun _ => by exact rfl
  · exact e.modJob_atRecord i fun _ => by exact rfl

theorem Ev.pass_atRecord (r : Record) (res : Resolution) : e.s.AtRecord i (e.pass i r res).s := by
  unfold Ev.pass
  split
  · exact e.redirectJob_atRecord i _ res
  · split
    · exact e.settleMark_atRecord i r res
    · split
      · exact e.createJob_atRecord i res
      · exact e.setPendingMark_atRecord i

theorem Ev.reresolve_atRecord : e.s.AtRecord i (e.reresolve i).s := by
  unfold Ev.reresolve
  split
  · exact .refl _
  · split
    · simp only
      split
      · exact .refl _
      · exact e.pass_atRecord i _ _
    · exact .refl _

theorem Ev.stageStep_atRecord (l : List TargetPiece) (as : List SlotAction) : e.s.AtRecord i (e.stageStep i l as).s := by
  have staged : e.s.AtRecord i (as.foldl (fun s a => s.stageAction i l a) e.s) :=
    .of_rest (congrArg Table.slots (State.stageActions_table ..)) (State.stageActions_queue as)
  exact staged.trans (State.modJob_atRecord _ fun _ => by exact rfl)

theorem Ev.grantOne_atRecord : e.s.AtRecord i (e.grantOne i).s := by
  unfold Ev.grantOne
  split
  · split
    · split
      · have claimed (l : List TargetPiece) : e.s.AtRecord i (e.s.claim i l) :=
          .of_rest (congrArg Table.slots (e.s.claim_table i l)) (e.s.claim_queue i l)
        refine State.AtRecord.trans ?_ (Ev.stageStep_atRecord _ i _ _)
        exact (claimed _).trans (State.modJob_atRecord _ fun _ => by exact rfl)
      · exact .refl _
    · exact .refl _
  · exact .refl _

theorem Ev.redirect_atRecord (j : Job) (n : Resolution) : e.s.AtRecord i (e.redirect i j n).s := by
  have freed : e.s.AtRecord i (e.s.freeClaims j.stepTwo) :=
    .of_rest (congrArg Table.slots (State.freeClaims_table ..)) (State.freeClaims_queue ..)
  have taken : e.s.AtRecord i (e.redirecting i j n).s := freed.trans (State.modJob_atRecord _ fun _ => by exact rfl)
  exact taken.trans (Ev.prepare_atRecord _ i)

theorem Ev.complete_atRecord (j : Job) : e.s.AtRecord i (e.complete i j).s := by
  have placed := e.modRecord_atRecord i fun r => r.complete j.target (e.s.completed i j.target.pieces)
  simp only [Ev.complete]
  split
  · exact (placed.trans (Ev.modJob_atRecord _ i fun _ => by exact rfl)).trans (Ev.prepare_atRecord _ i)
  · exact (placed.trans (Ev.modRecord_atRecord _ i _)).trans (State.dropJob_atRecord _ i)

theorem Ev.endStep_atRecord (j : Job) : e.s.AtRecord j.handle.index (e.endStep j).s := by
  simp only [Ev.endStep]
  split
  · split
    · exact e.complete_atRecord _ j
    · exact e.redirect_atRecord _ j _
  · split
    · exact e.complete_atRecord _ j
    · exact (e.modJob_atRecord _ fun _ => by exact rfl).trans (Ev.stageStep_atRecord _ _ _ _)
  · exact e.complete_atRecord _ j

end
end Sys2Proof.Machine
end

section
/-! SUPPORT. The queue invariant (R94, R96) through the Handover Engine: a record becomes MOVING just when its job joins the
queue, and stops being MOVING just when its job leaves. -/

namespace Sys2Proof.Machine

/-! ### The invariant by record slots and job records -/

/-- R46: a record slot holds a MOVING record. -/
def TableSlot.Moving : TableSlot → Prop
  | .used r => r.state = .moving
  | _ => False

/-- The record with index `i` is MOVING. -/
def State.Moving (s : State) (i : Fin 40) : Prop := (s.entry i).Moving

/-- R94: the indexes of the records that have jobs, in queue order. -/
def State.jobRecords (s : State) : List (Fin 40) := s.queue.map fun j => j.handle.index

section
variable {s t u : State} {i : Fin 40}

theorem State.moving_of_used {r : Record} (h : s.entry i = .used r) : s.Moving i ↔ r.state = .moving := by
  rw [State.Moving, h]
  rfl

theorem State.not_moving_of_unused (h : ∀ r, s.entry i ≠ .used r) : ¬s.Moving i := by
  unfold State.Moving
  cases hx : s.entry i with
  | used r => exact absurd hx (h r)
  | free | retired => exact id

theorem State.moving_iff : s.Moving i ↔ ∃ r, s.record? i = some r ∧ r.state = .moving := by
  simp only [State.record?_eq_some]
  constructor
  · intro h
    cases hx : s.entry i with
    | used r => exact ⟨r, rfl, (State.moving_of_used hx).1 h⟩
    | free | retired => exact absurd h (State.not_moving_of_unused (by simp [hx]))
  · rintro ⟨r, hr, hs⟩
    exact (State.moving_of_used hr).2 hs

theorem State.queueOk_iff :
    s.QueueOk ↔ s.jobRecords.length ≤ 16 ∧ s.jobRecords.Nodup ∧ ∀ i, s.Moving i ↔ i ∈ s.jobRecords := by
  have jobs (i : Fin 40) : i ∈ s.jobRecords ↔ ∃ j ∈ s.queue, j.handle.index = i := List.mem_map
  have room : s.jobRecords.length = s.queue.length := List.length_map _
  constructor
  · rintro ⟨hr, hd, hm⟩
    exact ⟨room ▸ hr, hd, fun i => State.moving_iff.trans ((hm i).trans (jobs i).symm)⟩
  · rintro ⟨hr, hd, hm⟩
    exact ⟨room ▸ hr, hd, fun i => State.moving_iff.symm.trans ((hm i).trans (jobs i))⟩

theorem State.job?_eq_none_iff : s.job? i = none ↔ i ∉ s.jobRecords := by
  simp [State.job?, State.jobRecords]

/-! ### What keeps the invariant -/

/-- The invariant goes over from one state to the other. -/
structure State.KeepsQueue (s t : State) : Prop where
  ok : s.QueueOk → t.QueueOk

theorem State.KeepsQueue.refl (s : State) : s.KeepsQueue s := ⟨id⟩

theorem State.KeepsQueue.trans (h : s.KeepsQueue t) (k : t.KeepsQueue u) : s.KeepsQueue u := ⟨k.ok ∘ h.ok⟩

/-- The same jobs, in any order, and the same MOVING records. -/
theorem State.KeepsQueue.of_perm (hq : t.jobRecords.Perm s.jobRecords) (hm : ∀ i, t.Moving i ↔ s.Moving i) :
    s.KeepsQueue t := by
  refine ⟨fun ok => ?_⟩
  obtain ⟨room, distinct, moving⟩ := State.queueOk_iff.1 ok
  exact State.queueOk_iff.2 ⟨hq.length_eq ▸ room, hq.nodup_iff.2 distinct,
    fun i => (hm i).trans ((moving i).trans hq.mem_iff.symm)⟩

/-- R96: the job of a record that stops being MOVING has left the queue. -/
theorem State.KeepsQueue.of_dropped (hq : t.jobRecords = s.jobRecords.filter fun k => !(k == i))
    (hi : ¬t.Moving i) (hm : ∀ k, k ≠ i → (t.Moving k ↔ s.Moving k)) : s.KeepsQueue t := by
  refine ⟨fun ok => ?_⟩
  obtain ⟨room, distinct, moving⟩ := State.queueOk_iff.1 ok
  refine State.queueOk_iff.2 ⟨hq ▸ (List.length_filter_le ..).trans room, hq ▸ distinct.filter _, fun k => ?_⟩
  rw [hq, List.mem_filter]
  by_cases hk : k = i
  · subst hk
    simp [hi]
  · simp [hk, hm k hk, moving k]

/-- R94: a record without a job becomes MOVING when its job joins the queue, at either end, where a queue entry is free. -/
theorem State.KeepsQueue.of_joined (hfull : s.queue.length < 16) (hi : i ∉ s.jobRecords)
    (hq : t.jobRecords = i :: s.jobRecords ∨ t.jobRecords = s.jobRecords ++ [i]) (hmi : t.Moving i)
    (hm : ∀ k, k ≠ i → (t.Moving k ↔ s.Moving k)) : s.KeepsQueue t := by
  refine ⟨fun ok => ?_⟩
  obtain ⟨-, distinct, moving⟩ := State.queueOk_iff.1 ok
  have joined : t.jobRecords.Perm (i :: s.jobRecords) := by
    rcases hq with h | h <;> rw [h]
    exact List.perm_append_singleton i _
  have length : s.jobRecords.length = s.queue.length := List.length_map _
  refine State.queueOk_iff.2 ⟨?_, joined.nodup_iff.2 (List.nodup_cons.2 ⟨hi, distinct⟩), fun k => ?_⟩
  · rw [joined.length_eq, List.length_cons, length]
    exact hfull
  · rw [joined.mem_iff, List.mem_cons]
    by_cases hk : k = i
    · subst hk
      simp [hmi]
    · simp [hk, hm k hk, moving k]

/-- An update that has no part in the records and the queue. -/
theorem State.KeepsQueue.of_rest (hq : t.queue = s.queue) (ht : t.table.slots = s.table.slots) : s.KeepsQueue t := by
  refine .of_perm (.of_eq (congrArg (List.map fun j : Job => j.handle.index) hq)) fun i => ?_
  rw [State.Moving, State.Moving, State.entry, State.entry, ht]

/-- What comes after an update that has no part in the records and the queue. -/
theorem State.KeepsQueue.after_rest (h : t.KeepsQueue u) (hq : t.queue = s.queue) (ht : t.table.slots = s.table.slots) :
    s.KeepsQueue u := (State.KeepsQueue.of_rest hq ht).trans h

theorem State.KeepsQueue.ite {p : Prop} [Decidable p] (h : s.KeepsQueue t) : s.KeepsQueue (if p then t else s) := by
  split
  · exact h
  · exact .refl s

theorem State.KeepsQueue.ite_not {p : Prop} [Decidable p] (h : s.KeepsQueue t) : s.KeepsQueue (if p then s else t) := by
  split
  · exact .refl s
  · exact h

/-- No record and no job stands after a reset. -/
theorem State.queueOk_of_empty (hq : s.queue = []) (ht : ∀ i, s.entry i = .free) : s.QueueOk := by
  refine State.queueOk_iff.2 ⟨?_, ?_, fun i => ?_⟩ <;> simp [State.jobRecords, hq, State.Moving, ht, TableSlot.Moving]

theorem State.jobRecords_of_handles (h : t.queue.map Job.handle = s.queue.map Job.handle) : t.jobRecords = s.jobRecords := by
  have map (u : State) : u.jobRecords = (u.queue.map Job.handle).map Handle.index := (List.map_map ..).symm
  rw [map, map, h]

theorem State.moving_of_state (h : (t.record? i).map Record.state = (s.record? i).map Record.state) :
    t.Moving i ↔ s.Moving i := by
  have map (u : State) : u.Moving i ↔ (u.record? i).map Record.state = some .moving := by
    rw [State.moving_iff, Option.map_eq_some_iff]
  rw [map, map, h]

theorem State.AtRecord.moving (h : State.AtRecord i s t) {k : Fin 40} (hk : k ≠ i) : t.Moving k ↔ s.Moving k := by
  rw [State.Moving, State.Moving, h.entry k hk]

end

section
variable (s : State) (i : Fin 40)

theorem State.setEntry_keepsQueue {x : TableSlot} (h : x.Moving ↔ s.Moving i) : s.KeepsQueue (s.setEntry i x) := by
  refine .of_perm (.refl _) fun k => ?_
  rw [State.Moving, State.entry_setEntry]
  split
  · next hk => rw [h, hk]
  · rfl

/-- A change of a record that makes it neither MOVING nor other than MOVING. -/
theorem State.modRecord_keepsQueue {f : Record → Record} (hf : ∀ r, (f r).state = .moving ↔ r.state = .moving) :
    s.KeepsQueue (s.modRecord i f) := by
  unfold State.modRecord
  split
  · next r hr => exact s.setEntry_keepsQueue i ((hf r).trans (State.moving_of_used ((State.record?_eq_some s).1 hr)).symm)
  · exact .refl s

theorem State.modJob_keepsQueue {f : Job → Job} (hf : ∀ j, (f j).handle = j.handle) : s.KeepsQueue (s.modJob i f) :=
  .of_perm (.of_eq (State.jobRecords_of_handles (State.modJob_handles hf))) fun _ => .rfl

theorem State.jobRecords_dropJob : (s.dropJob i).jobRecords = s.jobRecords.filter fun k => !(k == i) := by
  rw [State.jobRecords, State.jobRecords, List.filter_map]
  rfl

theorem State.jobToHead_keepsQueue : s.KeepsQueue (s.jobToHead i) := by
  refine .of_perm (List.Perm.map _ ?_) fun _ => .rfl
  exact List.filter_append_perm (fun j : Job => j.handle.index == i) s.queue

end

/-- An operation made for each member of a list keeps the invariant if one does. -/
theorem Ev.foldl_keepsQueue {α : Type} (f : Ev → α → Ev) (hf : ∀ (e : Ev) (a : α), e.s.KeepsQueue (f e a).s)
    (l : List α) (e : Ev) : e.s.KeepsQueue (l.foldl f e).s := by
  induction l generalizing e with
  | nil => exact .refl _
  | cons a l ih => exact (hf e a).trans (ih (f e a))

/-- A record that is given another state is not MOVING. -/
theorem State.not_moving_modRecord {s : State} {i : Fin 40} {f : Record → Record} (hf : ∀ r, (f r).state ≠ .moving) :
    ¬(s.modRecord i f).Moving i := by
  rw [State.moving_iff, State.record?_modRecord]
  rintro ⟨r, hr, hm⟩
  obtain ⟨r0, -, rfl⟩ := Option.map_eq_some_iff.1 hr
  exact hf r0 hm

/-! ### Operations of the engine -/

section
variable (e : Ev) (i : Fin 40)

theorem Ev.modRecord_keepsQueue {f : Record → Record} (hf : ∀ r, (f r).state = .moving ↔ r.state = .moving) :
    e.s.KeepsQueue (e.modRecord i f).s := e.s.modRecord_keepsQueue i hf

theorem Ev.modJob_keepsQueue {f : Job → Job} (hf : ∀ j, (f j).handle = j.handle) : e.s.KeepsQueue (e.modJob i f).s :=
  e.s.modJob_keepsQueue i hf

/-- R102: the preparation of a job keeps the queue's order and the record's state. -/
theorem Ev.Prepares.keepsQueue {e d : Ev} {i : Fin 40} (h : Ev.Prepares i e d) (k : e.s.AtRecord i d.s) :
    e.s.KeepsQueue d.s := by
  refine .of_perm (.of_eq (State.jobRecords_of_handles h.handles)) fun m => ?_
  by_cases hm : m = i
  · subst hm
    exact State.moving_of_state h.state
  · exact k.moving hm

theorem Ev.examine_keepsQueue : e.s.KeepsQueue (e.examine i).s := e.examine_prepares.keepsQueue (e.examine_atRecord i)

theorem Ev.expireWait_keepsQueue : e.s.KeepsQueue (e.expireWait i).s :=
  e.expireWait_prepares.keepsQueue (e.expireWait_atRecord i)

theorem Ev.prepare_keepsQueue : e.s.KeepsQueue (e.prepare i).s := e.prepare_prepares.keepsQueue (e.prepare_atRecord i)

section
variable {e i} {r : Record} (hr : e.s.entry i = .used r)
include hr

/-- R94, R97: a job is created where the record has none and a queue entry is free. -/
theorem Ev.createJob_keepsQueue (hj : e.s.job? i = none) (hfull : e.s.queue.length < 16) (res : Resolution) :
    e.s.KeepsQueue (e.createJob i res).s := by
  refine State.KeepsQueue.trans ?_ (Ev.prepare_keepsQueue (e.enqueue i res) i)
  refine .of_joined hfull (State.job?_eq_none_iff.1 hj) ?_ ?_ fun k hk => (e.enqueue_atRecord i res).moving hk
  · rw [State.jobRecords, State.jobRecords, Ev.enqueue_queue]
    split
    · exact .inl rfl
    · exact .inr (List.map_append ..)
  · exact State.moving_iff.2 ⟨_, Ev.enqueue_record? hr, rfl⟩

theorem Ev.settleMark_keepsQueue (hj : e.s.job? i = none) (r' : Record) (res : Resolution) :
    e.s.KeepsQueue (e.settleMark i r' res).s := by
  unfold Ev.settleMark
  split
  · exact e.modRecord_keepsQueue i fun _ => by exact .rfl
  · split
    · next hfull => exact Ev.createJob_keepsQueue hr hj hfull res
    · exact .refl _

/-- R96: with a job the resolution is the job's; without, a job is made or the mark is. -/
theorem Ev.pass_keepsQueue (r' : Record) (res : Resolution) : e.s.KeepsQueue (e.pass i r' res).s := by
  have prepared := (e.modJob_keepsQueue i (f := fun j => { j with target := res }) fun _ => rfl).trans
    (Ev.prepare_keepsQueue { (e.modJob i fun j => { j with target := res }) with changed := true } i)
  unfold Ev.pass
  split
  · unfold Ev.redirectJob
    split
    · exact prepared
    · exact prepared
    · exact e.modJob_keepsQueue i fun _ => by exact rfl
    · exact e.modJob_keepsQueue i fun _ => by exact rfl
  · next hj =>
    split
    · exact Ev.settleMark_keepsQueue hr hj r' res
    · split
      · next hfull => exact Ev.createJob_keepsQueue hr hj hfull res
      · have marked := e.modRecord_keepsQueue i (f := fun r => { r with resPending := true }) fun _ => .rfl
        exact marked.trans (.of_rest rfl rfl)

end

theorem Ev.reresolve_keepsQueue : e.s.KeepsQueue (e.reresolve i).s := by
  unfold Ev.reresolve
  split
  · exact .refl _
  · next r hr =>
    split
    · simp only
      split
      · exact .refl _
      · exact Ev.pass_keepsQueue ((State.record?_eq_some _).1 hr) r _
    · exact .refl _

theorem Ev.reresolveAll_keepsQueue : e.s.KeepsQueue e.reresolveAll.s :=
  Ev.foldl_keepsQueue _ (fun e i => e.reresolve_keepsQueue i) _ e

theorem Ev.stageStep_keepsQueue (l : List TargetPiece) (as : List SlotAction) : e.s.KeepsQueue (e.stageStep i l as).s := by
  have staged : e.s.KeepsQueue (as.foldl (fun s a => s.stageAction i l a) e.s) :=
    .of_rest (State.stageActions_queue as) (congrArg Table.slots (State.stageActions_table ..))
  exact staged.trans (State.modJob_keepsQueue _ i fun _ => by exact rfl)

theorem Ev.grantOne_keepsQueue : e.s.KeepsQueue (e.grantOne i).s := by
  unfold Ev.grantOne
  split
  · split
    · split
      · have claimed (l : List TargetPiece) : e.s.KeepsQueue (e.s.claim i l) :=
          .of_rest (e.s.claim_queue i l) (congrArg Table.slots (e.s.claim_table i l))
        refine State.KeepsQueue.trans ?_ (Ev.stageStep_keepsQueue _ i _ _)
        exact (claimed _).trans (State.modJob_keepsQueue _ i fun _ => by exact rfl)
      · exact .refl _
    · exact .refl _
  · exact .refl _

theorem Ev.grantWalk_keepsQueue : e.s.KeepsQueue e.grantWalk.s :=
  Ev.foldl_keepsQueue _ (fun e i => e.grantOne_keepsQueue i) _ { e with walk := false }

theorem Ev.redirect_keepsQueue (j : Job) (n : Resolution) : e.s.KeepsQueue (e.redirect i j n).s := by
  have freed : e.s.KeepsQueue (e.s.freeClaims j.stepTwo) :=
    .of_rest (State.freeClaims_queue ..) (congrArg Table.slots (State.freeClaims_table ..))
  have taken : e.s.KeepsQueue (e.redirecting i j n).s := freed.trans (State.modJob_keepsQueue _ i fun _ => by exact rfl)
  exact taken.trans (Ev.prepare_keepsQueue _ i)

/-- R116: a job goes on with its next target, or leaves the queue with its record PLACED or PARKED. -/
theorem Ev.complete_keepsQueue (j : Job) : e.s.KeepsQueue (e.complete i j).s := by
  have placed := e.modRecord_keepsQueue i (f := fun r => r.complete j.target (e.s.completed i j.target.pieces)) fun _ => .rfl
  simp only [Ev.complete]
  split
  · exact (placed.trans (Ev.modJob_keepsQueue _ i fun _ => by exact rfl)).trans (Ev.prepare_keepsQueue _ i)
  · have left (r : Record) (l : List Piece) :
        ({ r with state := if l.isEmpty then .parked else .placed } : Record).state ≠ .moving := by
      cases l <;> exact nofun
    refine placed.trans (.of_dropped (i := i) ((State.jobRecords_dropJob _ i).trans ?_) ?_ fun k hk => ?_)
    · exact congrArg (List.filter _) (congrArg (List.map _) (State.modRecord_queue ..))
    · exact State.not_moving_modRecord fun r => left r _
    · exact (State.modRecord_atRecord _ i _).moving hk

theorem Ev.endStep_keepsQueue (j : Job) : e.s.KeepsQueue (e.endStep j).s := by
  simp only [Ev.endStep]
  split
  · split
    · exact e.complete_keepsQueue _ j
    · exact e.redirect_keepsQueue _ j _
  · split
    · exact e.complete_keepsQueue _ j
    · exact (e.modJob_keepsQueue _ fun _ => by exact rfl).trans (Ev.stageStep_keepsQueue _ _ _ _)
  · exact e.complete_keepsQueue _ j

theorem Ev.takeUp_keepsQueue : e.s.KeepsQueue e.takeUp.s := by
  unfold Ev.takeUp
  split
  · exact .refl _
  · simp only
    split
    · exact e.reresolve_keepsQueue _
    · split
      · exact e.reresolve_keepsQueue _
      · exact e.reresolve_keepsQueue _

theorem Ev.settle_keepsQueue (w : Bool) (n : Nat) : e.s.KeepsQueue (Ev.settle w n e).s := by
  induction n generalizing e with
  | zero => exact .refl _
  | succ n ih =>
    unfold Ev.settle
    split
    · exact (e.endStep_keepsQueue _).trans (ih _)
    · split
      · exact e.takeUp_keepsQueue.trans (ih _)
      · split
        · exact e.grantWalk_keepsQueue.trans (ih _)
        · exact .refl _

theorem Ev.endSteps_keepsQueue : e.s.KeepsQueue e.endSteps.s := e.settle_keepsQueue false settleFuel

theorem Ev.resolveDue_keepsQueue : e.s.KeepsQueue e.resolveDue.s := by
  unfold Ev.resolveDue
  split
  · exact e.reresolveAll_keepsQueue
  · exact .refl _

theorem Ev.done_keepsQueue : e.s.KeepsQueue e.done :=
  (e.resolveDue_keepsQueue.trans (Ev.settle_keepsQueue _ true settleFuel)).trans (.of_rest rfl rfl)

theorem Ev.examineAll_keepsQueue : e.s.KeepsQueue e.examineAll.s :=
  Ev.foldl_keepsQueue _ (fun e i => e.examine_keepsQueue i) _ e

end
end Sys2Proof.Machine
end

section
/-! SUPPORT. The queue invariant (R94, R96) through the records' own checks, the panels, the frame start, the classifier's
decisions and the sensor line: none of them makes a record MOVING or takes one out of it, but the ends of steps within a frame
start. -/

namespace Sys2Proof.Machine

/-! ### The records' own checks -/

section
variable (s : State) (i : Fin 40)

theorem State.checkCurrency_keepsQueue : s.KeepsQueue (s.checkCurrency i) := by
  unfold State.checkCurrency
  split
  · exact .refl s
  · split
    · exact .refl s
    · next b _ =>
      split
      · exact s.modRecord_keepsQueue i fun r => by rw [(r.makeCurrent_keeps b).2]
      · exact .refl s

/-- R66: the record that becomes RETIRED was RETIRING. -/
theorem State.checkRetired_keepsQueue : s.KeepsQueue (s.checkRetired i) := by
  cases he : s.entry i with
  | used r =>
    by_cases h : r.state = .retiring ∧ s.ownedSlots i = []
    · rw [State.checkRetired_retires he h.1 h.2]
      refine s.setEntry_keepsQueue i ⟨False.elim, fun hm => ?_⟩
      cases h.1.symm.trans ((State.moving_of_used he).1 hm)
    · rw [State.checkRetired_stays he (not_and_or.1 h)]
      exact .refl s
  | free | retired =>
    have unused : s.record? i = none := by rw [State.record?, he]; rfl
    rw [State.checkRetired, unused]
    exact .refl s

theorem State.loseSlot_keepsQueue (k : Fin 16) (b : Bool) : s.KeepsQueue (s.loseSlot i k b) := by
  unfold State.loseSlot
  refine State.KeepsQueue.trans (State.KeepsQueue.trans ?_ (State.checkRetired_keepsQueue _ i))
    (State.checkCurrency_keepsQueue _ i)
  refine s.modRecord_keepsQueue i fun r => ?_
  simp only
  split
  · next h => simp [h.1]
  · rfl

theorem State.mapRecords_keepsQueue {f : Record → Record} (hf : ∀ r, (f r).state = .moving ↔ r.state = .moving) :
    s.KeepsQueue (s.mapRecords f) := by
  refine .of_perm (.of_eq (congrArg (List.map _) (State.mapRecords_queue ..))) fun k => ?_
  rw [State.Moving, State.Moving, State.entry_mapRecords]
  cases s.entry k with
  | used r => exact hf r
  | free | retired => exact .rfl

end

/-! ### Service, power, the plan and the frame start -/

section
variable (e : Ev) (p : PanelId)

theorem Ev.evalJoined_keepsQueue : e.s.KeepsQueue e.evalJoined.s := by
  rw [Ev.evalJoined_s]
  exact .of_rest rfl rfl

theorem Ev.reportLoss_keepsQueue (b : Bool) (s : State) (k : Fin 16) : e.s.KeepsQueue (Ev.reportLoss b s e k).s := by
  unfold Ev.reportLoss
  split
  · exact .refl _
  · exact (State.loseSlot_keepsQueue _ _ k _).trans (State.modJob_keepsQueue _ _ fun _ => rfl)

theorem Ev.leaveService_keepsQueue (b : Bool) : e.s.KeepsQueue (e.leaveService p b).s := by
  have stopped : e.s.KeepsQueue (e.modPanel p Panel.stopFrames).evalJoined.s :=
    .after_rest (Ev.evalJoined_keepsQueue (e.modPanel p Panel.stopFrames)) rfl rfl
  have freed : (e.modPanel p Panel.stopFrames).evalJoined.s.KeepsQueue
      ((e.modPanel p Panel.stopFrames).evalJoined.s.freeSlotsOf p) := .of_rest rfl rfl
  exact (stopped.trans freed).trans (Ev.foldl_keepsQueue (Ev.reportLoss b (e.modPanel p Panel.stopFrames).evalJoined.s)
    (fun d k => Ev.reportLoss_keepsQueue d b _ k) _ ((e.modPanel p Panel.stopFrames).evalJoined.mod fun s => s.freeSlotsOf p))

theorem Ev.powerDown_keepsQueue : e.s.KeepsQueue (e.powerDown p).s := by
  simp only [Ev.powerDown]
  split
  · exact .after_rest (Ev.leaveService_keepsQueue (e.modPanel p _) p _) rfl rfl
  · exact .of_rest rfl rfl

theorem Ev.demandOff_keepsQueue : e.s.KeepsQueue (e.demandOff p).s := by
  unfold Ev.demandOff
  split
  · exact e.powerDown_keepsQueue p
  · exact e.powerDown_keepsQueue p
  · exact e.powerDown_keepsQueue p
  · exact .refl _

theorem State.modPanel_keepsQueue (s : State) (f : Panel → Panel) : s.KeepsQueue (s.modPanel p f) := .of_rest rfl rfl

theorem State.checkPowerUp_keepsQueue (s : State) : s.KeepsQueue (s.checkPowerUp p) := .of_rest (by simp) (by simp)

theorem State.enterOff_keepsQueue (s : State) : s.KeepsQueue (s.enterOff p) := .of_rest (by simp) (by simp)

theorem Ev.changeDemand_keepsQueue (f : Panel → Panel) : e.s.KeepsQueue (e.changeDemand p f).s := by
  simp only [Ev.changeDemand]
  split
  · exact .after_rest (State.checkPowerUp_keepsQueue p (e.s.modPanel p f)) rfl rfl
  · exact .after_rest (Ev.demandOff_keepsQueue (e.modPanel p f) p) rfl rfl
  · exact .of_rest rfl rfl

theorem Ev.applyPlan_keepsQueue : e.s.KeepsQueue e.applyPlan.s :=
  ((e.changeDemand_keepsQueue .p0 _).trans (Ev.changeDemand_keepsQueue _ .p1 _)).trans (Ev.evalJoined_keepsQueue _)

theorem Ev.goOffline_keepsQueue (c : FaultCause) : e.s.KeepsQueue (e.goOffline p c).s := by
  simp only [Ev.goOffline]
  split
  · exact .after_rest (Ev.leaveService_keepsQueue ((e.modPanel p _).raise .panel) p _) rfl rfl
  · exact .of_rest rfl rfl

theorem Ev.leaveOffline_keepsQueue : e.s.KeepsQueue (e.leaveOffline p).s :=
  .after_rest (State.enterOff_keepsQueue p (e.s.modPanel p _)) rfl rfl

theorem Ev.checkWarning_keepsQueue : e.s.KeepsQueue (e.checkWarning p).s := by
  simp only [Ev.checkWarning]
  split
  · split
    · exact .refl _
    · exact .of_rest rfl rfl
  · exact .of_rest rfl rfl

theorem Ev.checkLevels_keepsQueue : e.s.KeepsQueue (e.checkLevels p).s := by
  simp only [Ev.checkLevels]
  split
  · exact e.goOffline_keepsQueue p _
  · split
    · exact .of_rest rfl rfl
    · split
      · exact .of_rest rfl rfl
      · exact .refl _

theorem Ev.checkHealth_keepsQueue : e.s.KeepsQueue (e.checkHealth p).s :=
  (e.checkWarning_keepsQueue p).trans (Ev.checkLevels_keepsQueue _ p)

theorem Ev.checkTimeout_keepsQueue (s : State) : e.s.KeepsQueue (Ev.checkTimeout p s e).s := by
  unfold Ev.checkTimeout
  split
  · exact e.checkHealth_keepsQueue p
  · exact .refl _

theorem Ev.reportApplied_keepsQueue (s : State) (k : Fin 16) : e.s.KeepsQueue (Ev.reportApplied p s e k).s := by
  unfold Ev.reportApplied
  split
  · exact .refl _
  · simp only
    split
    · refine State.KeepsQueue.trans ?_ (State.modJob_keepsQueue _ _ fun _ => by exact rfl)
      refine State.KeepsQueue.trans ?_ (State.checkCurrency_keepsQueue _ _)
      exact State.modRecord_keepsQueue _ _ fun _ => .rfl
    · refine State.KeepsQueue.trans ?_ (State.modJob_keepsQueue _ _ fun _ => by exact rfl)
      refine State.KeepsQueue.trans ?_ (State.checkCurrency_keepsQueue _ _)
      refine State.KeepsQueue.trans ?_ (State.checkRetired_keepsQueue _ _)
      exact State.modRecord_keepsQueue _ _ fun _ => .rfl

theorem Ev.reportFrame_keepsQueue (s : State) : e.s.KeepsQueue (Ev.reportFrame p s e).s :=
  Ev.foldl_keepsQueue _ (fun d k => Ev.reportApplied_keepsQueue d p s k) _ e

theorem Ev.soloFrame_keepsQueue : e.s.KeepsQueue (e.soloFrame p).s := by
  simp only [Ev.soloFrame]
  refine State.KeepsQueue.trans ?_ (Ev.checkTimeout_keepsQueue _ p _)
  refine State.KeepsQueue.trans ?_ (Ev.endSteps_keepsQueue _)
  refine State.KeepsQueue.trans ?_ (Ev.reportFrame_keepsQueue _ p _)
  exact .of_rest rfl rfl

theorem Ev.jointFrame_keepsQueue : e.s.KeepsQueue e.jointFrame.s := by
  let opened : Ev := { e with s := (e.s.jointBase.openFrame .p0).openFrame .p1 }
  have start : e.s.KeepsQueue opened.s :=
    .of_rest ((State.openFrame_queue ..).trans (State.openFrame_queue ..))
      (congrArg Table.slots ((State.openFrame_table ..).trans (State.openFrame_table ..)))
  rw [Ev.jointFrame_eq]
  refine State.KeepsQueue.trans ?_ (Ev.checkTimeout_keepsQueue _ .p1 _)
  refine State.KeepsQueue.trans ?_ (Ev.checkTimeout_keepsQueue _ .p0 _)
  refine State.KeepsQueue.trans ?_ (Ev.endSteps_keepsQueue _)
  refine State.KeepsQueue.trans ?_ (Ev.reportFrame_keepsQueue _ .p1 _)
  exact start.trans (Ev.reportFrame_keepsQueue opened .p0 _)

theorem Ev.frameStart_keepsQueue : e.s.KeepsQueue (e.frameStart p).s := by
  unfold Ev.frameStart
  split
  · exact e.jointFrame_keepsQueue
  · exact .after_rest (Ev.jointFrame_keepsQueue e.locked) rfl rfl
  · exact e.soloFrame_keepsQueue _

theorem Ev.enterOn_keepsQueue : e.s.KeepsQueue (e.enterOn p).s := by
  unfold Ev.enterOn
  refine State.KeepsQueue.trans ?_ (Ev.evalJoined_keepsQueue _)
  refine State.KeepsQueue.trans ?_ (Ev.examineAll_keepsQueue _)
  refine State.KeepsQueue.trans ?_ (Ev.soloFrame_keepsQueue _ p)
  exact .of_rest rfl rfl

/-! ### The classifier's decisions and the sensor line -/

theorem Ev.commit_keepsQueue (c : Posture) : e.s.KeepsQueue (e.commit c).s := by
  by_cases h : e.s.posture.committed = c
  · rw [e.commit_same h]
    exact .refl _
  · rw [e.commit_new (Ne.symm h)]
    refine State.KeepsQueue.trans ?_ (Ev.applyPlan_keepsQueue _)
    exact .after_rest (State.mapRecords_keepsQueue _ fun _ => .rfl) rfl rfl

theorem Ev.foldCheck_keepsQueue : e.s.KeepsQueue e.foldCheck.s := by
  rcases e.foldCheck_cases with ⟨-, h⟩ | h | ⟨-, -, h⟩
  · rw [h]
    exact .refl _
  · rw [h]
    exact .after_rest (Ev.commit_keepsQueue (e.modPosture _) _) rfl rfl
  · rw [h, Ev.disagree_eq]
    exact .of_rest rfl rfl

theorem Ev.startDwell_keepsQueue (c : Posture) : e.s.KeepsQueue (e.startDwell c).s := by
  unfold Ev.startDwell
  split
  · split
    · exact .of_rest rfl rfl
    · exact .after_rest (Ev.commit_keepsQueue (e.modPosture _) c) rfl rfl
  · exact .of_rest rfl rfl

theorem Ev.applyDwell_keepsQueue (c : Posture) : e.s.KeepsQueue (e.applyDwell c).s := by
  unfold Ev.applyDwell
  split
  · exact .of_rest rfl rfl
  · split
    · exact e.startDwell_keepsQueue c
    · split
      · exact .refl _
      · exact e.startDwell_keepsQueue c
    · split
      · split
        · exact .refl _
        · exact e.commit_keepsQueue c
      · exact e.startDwell_keepsQueue c

theorem Ev.evaluate_keepsQueue : e.s.KeepsQueue e.evaluate.s := by
  unfold Ev.evaluate
  split
  · exact e.foldCheck_keepsQueue
  · split
    · split
      · exact .of_rest rfl rfl
      · exact e.commit_keepsQueue _
    · exact e.applyDwell_keepsQueue _

theorem Ev.dwellEnd_keepsQueue : e.s.KeepsQueue e.dwellEnd.s := by
  unfold Ev.dwellEnd
  split
  · exact .of_rest rfl rfl
  · exact .after_rest (Ev.commit_keepsQueue (e.modPosture _) _) rfl rfl

theorem Ev.takeLevel_keepsQueue : e.s.KeepsQueue e.takeLevel.s := by
  unfold Ev.takeLevel
  split
  · exact .refl _
  · split
    · exact .after_rest (Ev.foldCheck_keepsQueue (e.modPosture _)) rfl rfl
    · exact .of_rest rfl rfl

theorem Ev.badEvent_keepsQueue (c : BadCause) : e.s.KeepsQueue (e.badEvent c).s := by
  simp only [Ev.badEvent]
  split
  · refine State.KeepsQueue.trans ?_ (Ev.foldCheck_keepsQueue _)
    exact .of_rest rfl rfl
  · exact .of_rest rfl rfl

end

section
variable (s : State)

theorem State.receive_keepsQueue (r : Reception) : s.KeepsQueue (s.receive r) := by
  cases hc : receptionBadCause r with
  | some c =>
    rw [s.receive_bad hc]
    generalize hu : ({ s with hinge := s.hinge.arrived r s.now } : State) = u
    have arrived : s.KeepsQueue u := hu ▸ .of_rest rfl rfl
    exact arrived.trans ((Ev.badEvent_keepsQueue (Ev.start u) c).trans (Ev.done_keepsQueue _))
  | none =>
    cases r with
    | framingError => cases hc
    | frame w =>
      rw [s.receive_good hc, Ev.goodFrame_start]
      generalize hu : ({ s with hinge := s.hinge.arrived (.frame w) s.now } : State).tookFrame (frameCode w) (frameField w)
        (frameCount w) = u
      have took : s.KeepsQueue u := hu ▸ .of_rest rfl rfl
      split
      · exact took.trans ((Ev.evaluate_keepsQueue (Ev.start u)).trans (Ev.done_keepsQueue _))
      · exact took.trans (Ev.done_keepsQueue (Ev.start u))

theorem State.frameCell_keepsQueue (bits : List Bool) (v : Bool) : s.KeepsQueue (s.frameCell bits v) := by
  unfold State.frameCell
  split
  · exact .of_rest rfl rfl
  · split
    · exact s.receive_keepsQueue _
    · exact s.receive_keepsQueue _

end
end Sys2Proof.Machine
end

section
/-! SUPPORT. The queue invariant (R94, R96) after every command. -/

namespace Sys2Proof.Machine

/-! ### Requests of the records -/

/-- R53: no offer to a MOVING record is taken directly. -/
theorem Record.offerCase_direct_not_moving {r : Record} {size : Size} (h : r.offerCase size = .direct) :
    r.state ≠ .moving := by
  intro hm
  unfold Record.offerCase at h
  rw [hm] at h
  split at h
  · split at h <;> cases h
  · simp only at h
    split at h
    · split at h <;> cases h
    · cases h

section
variable (e : Ev) (i : Fin 40)

theorem Ev.restage_keepsQueue (f : SlotConfig → SlotConfig) : e.s.KeepsQueue (e.restage i f).s := .of_rest rfl rfl

/-- R53: an offer taken directly makes a record PARKED that was NEW or PARKED. -/
theorem Ev.offer_keepsQueue {r : Record} (hr : e.s.entry i = .used r) (b : Buffer) {c : OfferCase}
    (hc : c = .direct → r.state ≠ .moving) : e.s.KeepsQueue (e.offer i r b c).s := by
  cases c with
  | mismatch => exact .refl _
  | settles =>
    simp only [Ev.offer, Ev.settleWait]
    refine State.KeepsQueue.trans ?_ (Ev.examine_keepsQueue _ i)
    refine State.KeepsQueue.trans ?_ (State.modJob_keepsQueue _ i fun _ => by exact rfl)
    refine State.KeepsQueue.trans ?_ (State.checkCurrency_keepsQueue _ i)
    exact e.modRecord_keepsQueue i fun _ => by exact .rfl
  | restages =>
    refine State.KeepsQueue.trans ?_ (State.checkCurrency_keepsQueue _ i)
    refine State.KeepsQueue.trans ?_ (Ev.restage_keepsQueue _ i _)
    exact e.modRecord_keepsQueue i fun _ => by exact .rfl
  | direct =>
    have taken : e.s.KeepsQueue (e.modRecord i fun r => { r.makeCurrent b with state := .parked }).s := by
      rw [Ev.modRecord, Ev.mod, State.modRecord_used hr]
      exact e.s.setEntry_keepsQueue i ⟨nofun, fun hm => absurd ((State.moving_of_used hr).1 hm) (hc rfl)⟩
    simp only [Ev.offer]
    split
    · exact taken.trans (Ev.reresolve_keepsQueue _ i)
    · exact taken

theorem Ev.amended_keepsQueue (old new : Record) : e.s.KeepsQueue (e.amended i old new).s := by
  have restaged (p : Prop) [Decidable p] (f : SlotConfig → SlotConfig) :
      e.s.KeepsQueue (if p then e.restage i f else e).s := by
    split
    · exact e.restage_keepsQueue i f
    · exact .refl _
  simp only [Ev.amended]
  split
  · exact (restaged _ _).trans (Ev.reresolve_keepsQueue _ i)
  · exact restaged _ _

theorem Ev.changeFocus_keepsQueue (new : Option Handle) : e.s.KeepsQueue (e.changeFocus new).s := by
  have step (o : Option Handle) (d : Ev) {f : Handle → Ev} (hf : ∀ h, d.s.KeepsQueue (f h).s) :
      d.s.KeepsQueue (o.elim d f).s := by
    cases o with
    | none => exact .refl _
    | some h => exact hf h
  simp only [Ev.changeFocus]
  refine State.KeepsQueue.trans (State.KeepsQueue.trans (State.KeepsQueue.trans (State.KeepsQueue.trans ?start
    (step e.s.table.focus _ ?loses)) (step new _ ?gains)) (step e.s.table.focus _ ?first)) (step new _ ?last)
  case start => exact .of_rest rfl rfl
  case loses => exact fun h => Ev.restage_keepsQueue _ h.index _
  case gains => exact fun h => Ev.restage_keepsQueue _ h.index _
  case first => exact fun h => Ev.reresolve_keepsQueue _ h.index
  case last => exact fun h => (Ev.reresolve_keepsQueue _ h.index).trans (State.jobToHead_keepsQueue _ h.index)

/-- R65, R120: the job of a withdrawn record has left the queue. -/
theorem Ev.withdrawn_jobRecords : (e.withdrawn i).jobRecords = e.s.jobRecords.filter fun k => !(k == i) := by
  have withdrawn : (e.s.withdrawRecord i).jobRecords = e.s.jobRecords :=
    congrArg (List.map _) State.withdrawRecord_queue
  cases h : e.s.job? i with
  | none =>
    rw [Ev.withdrawn_idle h, withdrawn]
    have absent := State.job?_eq_none_iff.1 h
    exact (List.filter_eq_self.2 fun k hk => by simpa using fun hi : k = i => absent (hi ▸ hk)).symm
  | some j =>
    rw [Ev.withdrawn_job h, State.jobRecords_dropJob, ← withdrawn]
    refine congrArg (List.filter _) (congrArg (List.map _) ?_)
    exact (State.checkCurrency_onlyEntry _ i).queue.trans (State.freeOwnClaims_queue ..)

/-- R65: a retired record is no longer MOVING, and its job has left the queue. -/
theorem Ev.retire_keepsQueue : e.s.KeepsQueue (e.retire i).s := by
  rw [Ev.retire_s]
  refine State.KeepsQueue.trans ?_ (State.checkRetired_keepsQueue _ i)
  have staged : ((e.withdrawn i).stageRemovals i).queue = (e.withdrawn i).queue := State.stageRemovals_queue ..
  refine .of_dropped (i := i) ?_ ?_ fun k hk => ?_
  · rw [← Ev.withdrawn_jobRecords]
    exact congrArg (List.map _) ((State.modRecord_queue ..).trans staged)
  · exact State.not_moving_modRecord fun _ => nofun
  · refine (State.modRecord_atRecord _ i _).moving hk |>.trans ?_
    rw [State.Moving, State.Moving, State.entry_stageRemovals, Ev.withdrawn_entry_ne hk]

end

section
variable (s : State)

/-- A request that rewrites a record, keeping its state, and re-resolves it. -/
theorem State.rewrite_keepsQueue {i : Fin 40} {r r' : Record} (h : s.entry i = .used r) (hs : r'.state = r.state)
    (payload : State → List Byte) :
    s.KeepsQueue (((Ev.start (s.setEntry i (.used r'))).reresolve i).reply payload).1 := by
  refine State.KeepsQueue.trans ?_ ((Ev.reresolve_keepsQueue _ i).trans (Ev.done_keepsQueue _))
  exact s.setEntry_keepsQueue i ((iff_of_eq (congrArg (· = RecordState.moving) hs)).trans (State.moving_of_used h).symm)

theorem ownCreateSurface_keepsQueue (cls owner : Half) (home z flags : Byte) (fill : Word) (buffer : Option Descriptor) :
    s.KeepsQueue (ownCreateSurface cls owner home z flags fill buffer s).1 := by
  unfold ownCreateSurface
  split
  · exact .refl s
  · split
    · exact .refl s
    · split
      · exact .refl s
      · next p _ _ i hi =>
        have free : s.entry i = .free := by
          unfold State.freeEntry at hi
          cases he : s.entry i with
          | free => rfl
          | used | retired => simpa [he, TableSlot.isFree] using List.find?_some hi
        have counted : s.KeepsQueue (if buffer.isSome then s.countOffer else s) := .ite (.of_rest rfl rfl)
        refine State.KeepsQueue.trans ?_ ((Ev.reresolve_keepsQueue _ _).trans (Ev.done_keepsQueue _))
        refine counted.trans (State.setEntry_keepsQueue _ _ ⟨fun h => ?_, fun h => ?_⟩)
        · cases buffer <;> cases h
        · have same : (if buffer.isSome then s.countOffer else s).entry i = s.entry i := by split <;> rfl
          rw [State.Moving, same, free] at h
          exact h.elim

theorem ownOfferBuffer_keepsQueue (h : HandleField) (d : Descriptor) : s.KeepsQueue (ownOfferBuffer h d s).1 := by
  unfold ownOfferBuffer
  split
  · exact .refl s
  · next i r hr =>
    split
    · exact .refl s
    · split
      · exact .refl s
      · simp only
        split
        · exact .refl s
        · have counted : s.KeepsQueue s.countOffer := .of_rest rfl rfl
          have taken := Ev.offer_keepsQueue (Ev.start s.countOffer) i (State.entry_of_liveRecord hr).1 (s.newBuffer d)
            (Record.offerCase_direct_not_moving (size := (s.newBuffer d).size))
          exact (counted.trans taken).trans (Ev.done_keepsQueue _)

theorem ownAmendSurface_keepsQueue (h : HandleField) (presence z home : Byte) (cls owner : Half) (flags : Byte)
    (fill : Word) : s.KeepsQueue (ownAmendSurface h presence z home cls owner flags fill s).1 := by
  unfold ownAmendSurface
  split
  · exact .refl s
  · next i r hr =>
    split
    · refine State.KeepsQueue.trans ?_ ((Ev.amended_keepsQueue _ i r _).trans (Ev.done_keepsQueue _))
      exact s.setEntry_keepsQueue i (State.moving_of_used (State.entry_of_liveRecord hr).1).symm
    · exact .refl s

theorem ownClearVariants_keepsQueue (h : HandleField) : s.KeepsQueue (ownClearVariants h s).1 := by
  unfold ownClearVariants
  split
  · exact .refl s
  · next hr =>
    split
    · exact .refl s
    · exact s.rewrite_keepsQueue (State.entry_of_liveRecord hr).1 (by exact rfl) _

theorem ownMoveSurface_keepsQueue (h : HandleField) (target : Byte) (rect : Option RectField) :
    s.KeepsQueue (ownMoveSurface h target rect s).1 := by
  unfold ownMoveSurface
  split
  · exact .refl s
  · next hr =>
    split
    · exact .refl s
    · exact s.rewrite_keepsQueue (State.entry_of_liveRecord hr).1 (by exact rfl) _

theorem State.focusOn_keepsQueue (new : Option Handle) : s.KeepsQueue (s.focusOn new).1 := by
  unfold State.focusOn
  split
  · exact .refl s
  · exact ((Ev.start s).changeFocus_keepsQueue new).trans (Ev.done_keepsQueue _)

theorem ownSetFocus_keepsQueue (h : HandleField) : s.KeepsQueue (ownSetFocus h s).1 := by
  unfold ownSetFocus
  split
  · exact s.focusOn_keepsQueue none
  · split
    · exact .refl s
    · exact s.focusOn_keepsQueue _

theorem ownRetireSurface_keepsQueue (h : HandleField) : s.KeepsQueue (ownRetireSurface h s).1 := by
  unfold ownRetireSurface
  split
  · exact .refl s
  · exact ((Ev.start s).retire_keepsQueue _).trans (Ev.done_keepsQueue _)

theorem ownRetireOwner_keepsQueue (owner : Half) : s.KeepsQueue (ownRetireOwner owner s).1 :=
  (Ev.foldl_keepsQueue Ev.retire (fun e i => e.retire_keepsQueue i) (s.ownedRecords owner) (Ev.start s)).trans
    (Ev.done_keepsQueue _)

theorem ownWriteRule_keepsQueue (index : Byte) (f : RuleField) : s.KeepsQueue (ownWriteRule index f s).1 := by
  unfold ownWriteRule
  split
  · split
    · exact .refl s
    · next r _ =>
      generalize hu : ({ s with rules := s.rules.set index.toNat r } : State) = u
      have stored : s.KeepsQueue u := hu ▸ .of_rest rfl rfl
      exact stored.trans ((Ev.reresolveAll_keepsQueue (Ev.start u)).trans (Ev.done_keepsQueue _))
  · exact .refl s

theorem State.clearReported_keepsQueue (i : Fin 40) : s.KeepsQueue (s.clearReported i) := by
  unfold State.clearReported
  split
  · exact .refl s
  · next r he => exact s.setEntry_keepsQueue i (State.moving_of_used he).symm
  · next he =>
    have freed : s.KeepsQueue (s.setEntry i .free) := s.setEntry_keepsQueue i
      ⟨False.elim, fun h => State.not_moving_of_unused (by simp [he]) h⟩
    exact freed.trans (.of_rest rfl rfl)

theorem ownReadNotices_keepsQueue : s.KeepsQueue (ownReadNotices s).1 := by
  have cleared (l : List (Fin 40)) (u : State) : u.KeepsQueue (l.foldl State.clearReported u) := by
    induction l generalizing u with
    | nil => exact .refl u
    | cons i l ih => exact (u.clearReported_keepsQueue i).trans (ih _)
  have moved (l : List (Fin 40)) (u : State) : u.KeepsQueue (u.moveCursor l) := by
    unfold State.moveCursor
    split
    · exact .of_rest rfl rfl
    · exact .refl u
  exact ((cleared s.reported s).trans (moved _ _)).trans (.of_rest rfl rfl)

theorem ownSetVariant_keepsQueue (h : HandleField) (postures target fallback : Byte) (rect : Option RectField) :
    s.KeepsQueue (ownSetVariant h postures target fallback rect s).1 := by
  unfold ownSetVariant
  split
  · exact .refl s
  · next hr =>
    split
    · split
      · exact .refl s
      · simp only
        split
        · exact .refl s
        · exact s.rewrite_keepsQueue (State.entry_of_liveRecord hr).1 (by exact rfl) _
    · exact .refl s

end

/-! ### Requests of the hinge, the posture and the panels -/

section
variable (s : State)

theorem Ev.planChange_keepsQueue (e : Ev) : e.s.KeepsQueue e.planChange.done := by
  have planned : e.s.KeepsQueue e.planChange.s := e.applyPlan_keepsQueue
  exact planned.trans (Ev.done_keepsQueue _)

theorem ownHingeEnable_keepsQueue (value : Byte) : s.KeepsQueue (ownHingeEnable value s).1 := by
  unfold ownHingeEnable
  split
  · exact .refl s
  · simp only
    split
    · refine State.KeepsQueue.trans ?_ (Ev.done_keepsQueue _)
      refine State.KeepsQueue.trans ?_ (Ev.foldCheck_keepsQueue _)
      exact .of_rest rfl rfl
    · rw [Ev.disableInput_start]
      refine State.KeepsQueue.trans ?_ (Ev.done_keepsQueue _)
      exact .of_rest rfl rfl
    · exact .refl s

theorem ownSetSwitch_keepsQueue (use : Byte) (limit : Half) : s.KeepsQueue (ownSetSwitch use limit s).1 := by
  unfold ownSetSwitch
  split
  · exact .refl s
  · refine State.KeepsQueue.trans ?_ (Ev.done_keepsQueue _)
    split
    · exact .after_rest (Ev.foldCheck_keepsQueue ((Ev.start s).modPosture _)) rfl rfl
    · exact .of_rest rfl rfl

theorem ownForcePosture_keepsQueue (code : Byte) : s.KeepsQueue (ownForcePosture code s).1 := by
  unfold ownForcePosture
  split
  · exact .refl s
  · split
    · exact ((Ev.start s).commit_keepsQueue _).trans (Ev.done_keepsQueue _)
    · exact .refl s

theorem ownSetFront_keepsQueue (value : Byte) : s.KeepsQueue (ownSetFront value s).1 := by
  unfold ownSetFront
  split
  · exact .refl s
  · split
    · exact .refl s
    · exact .after_rest (Ev.planChange_keepsQueue ((Ev.start s).modPosture _)) rfl rfl

theorem ownSetSpan_keepsQueue (value : Byte) : s.KeepsQueue (ownSetSpan value s).1 := by
  unfold ownSetSpan
  split
  · exact .refl s
  · split
    · exact .refl s
    · exact .after_rest (Ev.planChange_keepsQueue ((Ev.start s).modPosture _)) rfl rfl

theorem ownSetPanelGeometry_keepsQueue (w h g : Half) : s.KeepsQueue (ownSetPanelGeometry w h g s).1 := by
  unfold ownSetPanelGeometry
  split
  · split
    · exact .after_rest (Ev.done_keepsQueue _) rfl rfl
    · exact .refl s
  · exact .refl s

theorem ownSetLending_keepsQueue (lender count : Byte) : s.KeepsQueue (ownSetLending lender count s).1 := by
  unfold ownSetLending
  split
  · exact .refl s
  · split
    · split
      · exact .refl s
      · split
        · exact .after_rest (Ev.done_keepsQueue _) rfl rfl
        · exact .refl s
    · exact .refl s

theorem ownPanelEnable_keepsQueue (panel value : Byte) : s.KeepsQueue (ownPanelEnable panel value s).1 := by
  unfold ownPanelEnable
  split
  · have enabled (p : PanelId) (on : Bool) : s.KeepsQueue ((Ev.start s).setEnable p on).s :=
      (Ev.start s).changeDemand_keepsQueue p _
    exact (enabled _ _).trans (Ev.done_keepsQueue _)
  · exact .refl s

theorem ownPanelRecover_keepsQueue (panel : Byte) : s.KeepsQueue (ownPanelRecover panel s).1 := by
  unfold ownPanelRecover
  split
  · exact .refl s
  · next p _ =>
    simp only
    split
    · exact .after_rest ((Ev.leaveOffline_keepsQueue (Ev.start (s.modPanel p _)) p).trans (Ev.done_keepsQueue _)) rfl rfl
    · exact .of_rest rfl rfl

end

/-! ### Every command -/

/-- A request keeps the invariant if its owner does. -/
theorem State.runRequest_keepsQueue {owner : State → State × Reply} (h : ∀ u : State, u.KeepsQueue (owner u).1)
    (s : State) (c : Instr) : s.KeepsQueue (s.runRequest c owner) := by
  by_cases ht : s.turn c
  · rw [State.runRequest_turn ht]
    have handed : s.KeepsQueue (s.handed c) :=
      .of_rest (State.handed_queue ..) (congrArg Table.slots (State.handed_table ..))
    exact (handed.trans (h _)).trans (.of_rest rfl rfl)
  · rw [State.runRequest_busy ht, State.discard_eq]
    exact .ite_not (.of_rest rfl rfl)

theorem State.atTimer_keepsQueue {f : State → State} (h : ∀ u : State, u.KeepsQueue (f u)) (s : State) (t : Timer) :
    s.KeepsQueue (s.atTimer t f) := by
  cases t with
  | none => exact .refl s
  | some t => exact .after_rest (h (s.reach t)) rfl rfl

theorem State.trainOk_keepsQueue (s : State) (p : PanelId) : s.KeepsQueue (s.trainOk p) :=
  .ite ((Ev.enterOn_keepsQueue (Ev.start s) p).trans (Ev.done_keepsQueue _))

theorem State.settleAck_keepsQueue (s : State) (p : PanelId) (f : Panel → Panel) : s.KeepsQueue (s.settleAck p f) :=
  .ite (.after_rest ((Ev.checkHealth_keepsQueue ((Ev.start s).modPanel p _) p).trans (Ev.done_keepsQueue _)) rfl rfl)

theorem State.ackByte_keepsQueue (s : State) (p : PanelId) (code : Byte) (stop : Bool) :
    s.KeepsQueue (s.ackByte p code stop) := by
  unfold State.ackByte
  split
  · split
    · exact s.trainOk_keepsQueue p
    · split
      · exact s.settleAck_keepsQueue p _
      · exact s.settleAck_keepsQueue p _
  · exact .after_rest (State.settleAck_keepsQueue (s.modPanel p _) p _) rfl rfl

/-- No record and no job stands after a reset. -/
theorem State.KeepsQueue.of_empty {s t : State} (hq : t.queue = []) (ht : ∀ i, t.entry i = .free) : s.KeepsQueue t :=
  ⟨fun _ => State.queueOk_of_empty hq ht⟩

theorem exec_keepsQueue (c : Instr) (s : State) : ∃ t, exec c s = .next t ∧ s.KeepsQueue t := by
  have owned {owner : State → State × Reply} (h : ∀ u : State, u.KeepsQueue (owner u).1) :
      s.KeepsQueue (s.runRequest c owner) := State.runRequest_keepsQueue h s c
  have ended (u : State) (e : Ev) (h : u.KeepsQueue e.s) : u.KeepsQueue e.done := h.trans e.done_keepsQueue
  cases c
  case writeTransaction bytes n =>
    have taken : s.KeepsQueue (s.takeFrame (judge bytes n)) := by
      unfold State.takeFrame
      split
      · exact .of_rest rfl rfl
      · exact .of_empty rfl fun i => (s.beginSoftReset_entry i).1
      · exact .of_rest rfl rfl
    have discarded : s.KeepsQueue s.discard := .ite_not (.of_rest rfl rfl)
    refine ⟨_, rfl, ?_⟩
    split
    · exact taken
    · exact taken
    · exact discarded
    · exact discarded
  case readTransaction busy n =>
    refine ⟨_, rfl, ?_⟩
    simp only [State.read, State.deliver]
    split
    · exact .refl s
    · split
      · split <;> exact .of_rest rfl rfl
      · exact .of_rest rfl rfl
  case ignoredTransaction => exact ⟨_, rfl, .of_rest rfl rfl⟩
  case powerOnReset =>
    exact ⟨_, rfl, .of_empty rfl fun i => State.powerOn_entry s.now s.posture.rawLevel s.pending i⟩
  case powerOnResetEnd => exact ⟨_, rfl, .ite (.of_empty rfl fun i => State.powerOn_entry _ _ _ i)⟩
  case softResetEnd => exact ⟨_, rfl, .ite (.of_rest rfl rfl)⟩
  case reset =>
    refine ⟨_, rfl, ?_⟩
    unfold State.resetRequest
    split
    · exact .of_empty rfl fun i => (s.beginSoftReset_entry i).1
    · exact .of_empty rfl fun i => (s.beginSoftReset_entry i).1
    · exact .ite_not (.of_rest rfl rfl)
    · exact .ite_not (.of_rest rfl rfl)
  case lineIdle => exact ⟨_, rfl, .ite (.of_rest rfl rfl)⟩
  case frameArrival r => exact ⟨_, rfl, .ite (s.receive_keepsQueue r)⟩
  case cellTimeout =>
    refine ⟨_, rfl, .ite ?_⟩
    split
    · next t _ _ => exact .after_rest ((s.reach t).receive_keepsQueue _) rfl rfl
    · exact .refl s
  case silentExpiry =>
    refine ⟨_, rfl, ?_⟩
    split
    · exact .refl s
    · next t _ =>
      refine ended s _ (State.KeepsQueue.trans ?_ (Ev.badEvent_keepsQueue _ _))
      exact .of_rest rfl rfl
  case hsnsCell n =>
    refine ⟨_, rfl, .ite ?_⟩
    split
    · exact .refl s
    · split
      · exact s.receive_keepsQueue _
      · exact .of_rest rfl rfl
    · exact s.frameCell_keepsQueue _ _
  case dwellExpiry =>
    refine ⟨_, rfl, ?_⟩
    split
    · next t _ => exact ended s _ (.after_rest (Ev.dwellEnd_keepsQueue (Ev.start (s.reach t))) rfl rfl)
    · exact .refl s
  case foldEdge level =>
    refine ⟨_, rfl, ?_⟩
    split
    · exact .refl s
    · split <;> exact .of_rest rfl rfl
  case debounceExpiry =>
    refine ⟨_, rfl, ?_⟩
    split
    · exact .refl s
    · next t _ =>
      exact ended s _ (.after_rest (Ev.takeLevel_keepsQueue
        ((Ev.start (s.reach t)).modPosture fun c => { c with debounceTimer := none })) rfl rfl)
  case deadlineExpiry i =>
    refine ⟨_, rfl, ?_⟩
    split
    · exact .refl s
    · next t _ =>
      have waited : (s.reach t).KeepsQueue (((Ev.start (s.reach t)).expireWait i).examine i).s :=
        (Ev.expireWait_keepsQueue (Ev.start (s.reach t)) i).trans (Ev.examine_keepsQueue _ i)
      exact ended s _ (.after_rest waited rfl rfl)
  case readHinge | readPosture | readQueue | readStatus | setNoticeThreshold | setFilter | setPowerTiming =>
    exact ⟨_, rfl, owned fun _ => .of_rest rfl rfl⟩
  case hingeEnable v => exact ⟨_, rfl, owned fun u => ownHingeEnable_keepsQueue u v⟩
  case setCalibration =>
    exact ⟨_, rfl, owned fun u => by unfold ownSetCalibration; split <;> exact .of_rest rfl rfl⟩
  case setBands => exact ⟨_, rfl, owned fun u => by unfold ownSetBands; split <;> exact .of_rest rfl rfl⟩
  case setSwitch => exact ⟨_, rfl, owned fun u => ownSetSwitch_keepsQueue u _ _⟩
  case forcePosture => exact ⟨_, rfl, owned fun u => ownForcePosture_keepsQueue u _⟩
  case setFront => exact ⟨_, rfl, owned fun u => ownSetFront_keepsQueue u _⟩
  case setSpan => exact ⟨_, rfl, owned fun u => ownSetSpan_keepsQueue u _⟩
  case createSurface => exact ⟨_, rfl, owned fun u => ownCreateSurface_keepsQueue u _ _ _ _ _ _ _⟩
  case offerBuffer => exact ⟨_, rfl, owned fun u => ownOfferBuffer_keepsQueue u _ _⟩
  case amendSurface => exact ⟨_, rfl, owned fun u => ownAmendSurface_keepsQueue u _ _ _ _ _ _ _ _⟩
  case setVariant => exact ⟨_, rfl, owned fun u => ownSetVariant_keepsQueue u _ _ _ _ _⟩
  case clearVariants => exact ⟨_, rfl, owned fun u => ownClearVariants_keepsQueue u _⟩
  case setFocus => exact ⟨_, rfl, owned fun u => ownSetFocus_keepsQueue u _⟩
  case lookupSurface => exact ⟨_, rfl, owned fun u => by unfold ownLookupSurface; split <;> exact .of_rest rfl rfl⟩
  case findSurfaces =>
    exact ⟨_, rfl, owned fun u => by unfold ownFindSurfaces; split; exact .refl u; split <;> exact .refl u⟩
  case retireSurface => exact ⟨_, rfl, owned fun u => ownRetireSurface_keepsQueue u _⟩
  case retireOwner => exact ⟨_, rfl, owned fun u => ownRetireOwner_keepsQueue u _⟩
  case writeRule => exact ⟨_, rfl, owned fun u => ownWriteRule_keepsQueue u _ _⟩
  case readRule =>
    exact ⟨_, rfl, owned fun u => by unfold ownReadRule; split; exact .refl u; split <;> exact .refl u⟩
  case moveSurface => exact ⟨_, rfl, owned fun u => ownMoveSurface_keepsQueue u _ _ _⟩
  case setPanelGeometry => exact ⟨_, rfl, owned fun u => ownSetPanelGeometry_keepsQueue u _ _ _⟩
  case setLending => exact ⟨_, rfl, owned fun u => ownSetLending_keepsQueue u _ _⟩
  case setRefresh =>
    exact ⟨_, rfl, owned fun u => by
      unfold ownSetRefresh
      split
      · exact .refl u
      · simp only [State.pendRefresh]
        split <;> exact .of_rest rfl rfl⟩
  case panelEnable => exact ⟨_, rfl, owned fun u => ownPanelEnable_keepsQueue u _ _⟩
  case readPanel => exact ⟨_, rfl, owned fun u => by unfold ownReadPanel; split <;> exact .of_rest rfl rfl⟩
  case panelRecover => exact ⟨_, rfl, owned fun u => ownPanelRecover_keepsQueue u _⟩
  case setRecoveryMode => exact ⟨_, rfl, owned fun u => by unfold ownSetRecoveryMode; split <;> exact .of_rest rfl rfl⟩
  case ackAttention => exact ⟨_, rfl, owned fun u => by unfold ownAckAttention; split <;> exact .of_rest rfl rfl⟩
  case attnEnable => exact ⟨_, rfl, owned fun u => by unfold ownAttnEnable; split <;> exact .of_rest rfl rfl⟩
  case attnDisable => exact ⟨_, rfl, owned fun u => by unfold ownAttnDisable; split <;> exact .of_rest rfl rfl⟩
  case readNotices => exact ⟨_, rfl, owned ownReadNotices_keepsQueue⟩
  case offTimeExpiry p =>
    exact ⟨_, rfl, s.atTimer_keepsQueue
      (fun u => (u.modPanel_keepsQueue p _).trans (State.checkPowerUp_keepsQueue p _)) _⟩
  case railStageEnd p => exact ⟨_, rfl, .ite (s.atTimer_keepsQueue (fun u => u.modPanel_keepsQueue p _) _)⟩
  case resetStageEnd p => exact ⟨_, rfl, .ite (s.atTimer_keepsQueue (fun u => u.modPanel_keepsQueue p _) _)⟩
  case trainingExpiry p =>
    exact ⟨_, rfl, .ite (s.atTimer_keepsQueue (fun u => ended u _ (Ev.goOffline_keepsQueue (Ev.start u) p _)) _)⟩
  case powerDownEnd p =>
    exact ⟨_, rfl, .ite (s.atTimer_keepsQueue
      (fun u => (u.modPanel_keepsQueue p _).trans (State.enterOff_keepsQueue p _)) _)⟩
  case trainOk p => exact ⟨_, rfl, .ite (s.trainOk_keepsQueue p)⟩
  case frameOk p => exact ⟨_, rfl, .ite (s.settleAck_keepsQueue p _)⟩
  case frameBad p => exact ⟨_, rfl, .ite (s.settleAck_keepsQueue p _)⟩
  case unknownAckCode p code stop => exact ⟨_, rfl, .ite (s.ackByte_keepsQueue p code stop)⟩
  case ackPathIdle p => exact ⟨_, rfl, .of_rest rfl rfl⟩
  case frameStart p =>
    refine ⟨_, rfl, .ite (ended s _ ?_)⟩
    exact .after_rest (Ev.frameStart_keepsQueue (Ev.start (s.elapse _)) p) rfl rfl
  case stagingCutoff p => exact ⟨_, rfl, .ite (.of_rest rfl rfl)⟩
  case quietExpiry p =>
    refine ⟨_, rfl, .ite (s.atTimer_keepsQueue (fun u => ended u _ ?_) _)⟩
    exact .after_rest (Ev.leaveOffline_keepsQueue ((Ev.start u).modPanel p _) p) rfl rfl
  case stabilityExpiry p => exact ⟨_, rfl, s.atTimer_keepsQueue (fun u => u.modPanel_keepsQueue p _) _⟩

/-- Settles O10: each command keeps it, by `exec_keepsQueue`, and the idle step has no part in the records and the queue. -/
theorem queueKept : Obligations.QueueKept :=
  keptByStep_of_exec (fun _ _ ok => ⟨ok.room, ok.distinct, ok.moving⟩) (fun _ ok => ⟨ok.room, ok.distinct, ok.moving⟩)
    fun c s ok => by
      obtain ⟨t, ht, kept⟩ := exec_keepsQueue c s
      exact ⟨t, ht, kept.ok ok⟩

end Sys2Proof.Machine
end

section
/-! SUPPORT. The acknowledgement paths (R126, R127, R150, R186): the entry to ON at TRAIN_OK with the frame start of the panel
alone, the frame acknowledgements, and the examination of the jobs in PREPARING (R107). -/

namespace Sys2Proof.Machine

/-! ### The entry to ON -/

/-- R127, R159: the state with a panel ON out of training, before its frame start. -/
def State.trained (s : State) (p : PanelId) : State :=
  s.setPanel p { s.panel p with mode := .on, seqTimer := none, stableTimer := some (s.now + 2000000) }

/-- R127: a panel that has entered ON from training, after its frame start. -/
def State.trainedPanel (s : State) (p : PanelId) (stack : List (Fin 16)) : Panel := { s.panel p with
  mode := .on, seqTimer := none, stableTimer := some (s.now + 2000000), counter := 0, cutoffDone := false
  period := (s.panel p).pendPeriod.getD (s.panel p).period, lead := (s.panel p).pendLead.getD (s.panel p).lead
  pendPeriod := none, pendLead := none
  effective := (s.panel p).pendPeriod.getD (s.panel p).period, ackOwed := true, stack := stack }

/-- R127, R132: a panel's entry to ON with its frame start, from the state before it to one with joined mode `j`. -/
structure State.EntersOn (s : State) (p : PanelId) (j : JoinedMode) (t : State) : Prop where
  own : t.panel p = s.trainedPanel p (t.stackOf p)
  other : t.panel (otherPanel p) = s.panel (otherPanel p)
  shared : t.shared = { s.shared with joined := j }
  live : ∀ k, (t.slot k).live? = if s.user k = p then (s.slot k).liveNext else (s.slot k).live?

section
variable {s t u : State} {p : PanelId} {j j' : JoinedMode}

/-- The engine and the joined mode have no part in it. -/
theorem State.EntersOn.after (h : s.EntersOn p j t) (hp : u.panels = t.panels)
    (hg : u.shared = { t.shared with joined := j' }) (hl : ∀ k, (u.slot k).live? = (t.slot k).live?) :
    s.EntersOn p j' u where
  own := by
    have user (k : Fin 16) : u.user k = t.user k := by rw [State.user, State.user, hg]
    rw [State.panel_of_panels hp, State.stackOf_congr user fun k _ => hl k]
    exact h.own
  other := by
    rw [State.panel_of_panels hp]
    exact h.other
  shared := by rw [hg, h.shared]
  live k := (hl k).trans (h.live k)

theorem State.EntersOn.engine (h : s.EntersOn p j t) (k : t.EngineFrame u) : s.EntersOn p j u :=
  h.after (j' := j) k.panels (by rw [k.shared, h.shared]) k.live

/-- R140: a panel that uses no slot has an empty stack. -/
theorem State.EntersOn.stack_empty (h : s.EntersOn p j t) (hfree : ∀ k, s.user k = p → s.slot k = .free) :
    t.stackOf p = [] := by
  refine List.eq_nil_iff_forall_not_mem.2 fun k hk => ?_
  obtain ⟨hu, hlive⟩ := State.mem_stackOf.1 hk
  have used : s.user k = p := by rwa [State.user, h.shared] at hu
  rw [LayerSlot.isLive_eq, h.live k, if_pos used, hfree k used] at hlive
  cases hlive

/-- R132: a frame start of the panel alone, with no acknowledgement owed. -/
theorem Ev.soloFrame_entersOn (ho : (s.panel p).ackOwed = false) :
    s.EntersOn p s.shared.joined ((Ev.start (s.trained p)).soloFrame p).s := by
  have on : (Ev.start (s.trained p)).s.panel p =
      { s.panel p with mode := .on, seqTimer := none, stableTimer := some (s.now + 2000000) } := s.panel_setPanel_same p _
  obtain ⟨d, opened, timeouts⟩ := Ev.soloFrame_spec (c := Ev.start (s.trained p)) (p := p) (by rw [on]; rfl)
  have unowed (q : PanelId) (hq : decide (q = p) = true) : ((Ev.start (s.trained p)).s.panel q).ackOwed = false := by
    rw [of_decide_eq_true hq, on, ho]
  obtain ⟨shared, -, slots, panels⟩ := timeouts.below fun q hq howed => by cases (unowed q hq).symm.trans howed
  have live (k : Fin 16) : (((Ev.start (s.trained p)).soloFrame p).s.slot k).live? = (d.s.slot k).live? := by
    rw [State.slot, State.slot, slots]
  have apart : decide (otherPanel p = p) = false := by cases p <;> rfl
  exact {
    own := by
      rw [panels p (decide_eq_true rfl), unowed p (decide_eq_true rfl), if_neg Bool.false_ne_true,
        opened.panel p (decide_eq_true rfl), State.stackOf_congr (State.user_of_shared shared) fun k _ => live k, on, ho]
      rfl
    other := by
      rw [timeouts.rest _ apart, opened.rest _ apart]
      exact s.panel_modPanel_other p fun x => { x with
        mode := .on, seqTimer := none, stableTimer := some (s.now + 2000000) }
    shared := shared.trans opened.shared
    live := fun k => by
      rw [live, opened.live]
      simp only [decide_eq_true_eq]
      rfl }

/-- R127: the event of TRAIN_OK. -/
theorem Ev.enterOn_eq : (Ev.start s).enterOn p = ((Ev.start (s.trained p)).soloFrame p).examineAll.evalJoined := rfl

/-- R127, R135: the entry to ON, whole, with the joined mode conditions evaluated. -/
theorem Ev.enterOn_entersOn (ho : (s.panel p).ackOwed = false) : s.EntersOn p
    (if s.posture.committed = .flat ∧ s.posture.span = true ∧ (s.panel (otherPanel p)).inService = true then
      (if s.shared.joined = .notJoined then .lockPending else s.shared.joined) else .notJoined)
    ((Ev.start s).enterOn p).done := by
  let e := ((Ev.start (s.trained p)).soloFrame p).examineAll
  have entered : s.EntersOn p s.shared.joined e.s := (Ev.soloFrame_entersOn ho).engine (Ev.examineAll_frame _)
  have posture : e.s.posture = s.posture :=
    (Ev.examineAll_frame _).blocks.posture.trans ((Ev.start (s.trained p)).soloFrame_blocks p).posture
  have own : (e.s.panel p).inService = true := by
    rw [entered.own]
    rfl
  have service : (∀ q, (e.s.panel q).inService = true) ↔ (s.panel (otherPanel p)).inService = true := by
    rw [← entered.other]
    refine ⟨fun h => h _, fun h q => ?_⟩
    by_cases hq : q = p
    · rw [hq, own]
    · have : q = otherPanel p := by cases p <;> cases q <;> simp_all [otherPanel]
      rw [this, h]
  have conditions := e.s.joinConditions_iff
  rw [service, posture] at conditions
  have evaluated := e.evalJoined_s
  rw [joinedNext, entered.shared, if_congr conditions rfl rfl] at evaluated
  refine State.EntersOn.engine ?_ (Ev.done_frame _)
  rw [Ev.enterOn_eq, evaluated]
  exact entered.after rfl rfl fun _ => rfl

end

/-! ### What is read from a path -/

section
variable {s : State} {p : PanelId}

/-- R181, R186: nothing is read during a reset or from a held path. -/
theorem acknowledgements_unread (h : s.link.state = .resetting ∨ (s.panel p).pathHeld = true) :
    Answers (.trainOk p) s s ∧ Answers (.frameOk p) s s ∧ Answers (.frameBad p) s s ∧
      ∀ code stop, Answers (.unknownAckCode p code stop) s s := by
  have unread : ¬s.reading p = true := by rcases h with h | h <;> simp [State.reading, h]
  exact ⟨congrArg Host.Outcome.next (if_neg unread), congrArg Host.Outcome.next (if_neg unread),
    congrArg Host.Outcome.next (if_neg unread), fun _ _ => congrArg Host.Outcome.next (if_neg unread)⟩

variable (hl : s.link.state ≠ .resetting) (hp : (s.panel p).pathHeld = false)
include hl hp

theorem State.reading_open : s.reading p = true := by simp [State.reading, hl, hp]

theorem trainOk_answers : Answers (.trainOk p) s (s.trainOk p) :=
  congrArg Host.Outcome.next (if_pos (State.reading_open hl hp))

theorem frameOk_answers : Answers (.frameOk p) s (s.ackGood p) :=
  congrArg Host.Outcome.next (if_pos (State.reading_open hl hp))

theorem frameBad_answers : Answers (.frameBad p) s (s.ackBad p) :=
  congrArg Host.Outcome.next (if_pos (State.reading_open hl hp))

theorem unknownAckCode_answers (code : Byte) (stop : Bool) :
    Answers (.unknownAckCode p code stop) s (s.ackByte p code stop) :=
  congrArg Host.Outcome.next (if_pos (State.reading_open hl hp))

end

/-! ### Frame acknowledgements -/

section
variable {s : State} {p : PanelId}

/-- R150: an acknowledgement that is owed is settled, with the threshold checks at once. -/
theorem State.settleAck_owed (h : (s.panel p).ackOwed = true) (f : Panel → Panel) : s.settleAck p f =
    ((Ev.start (s.modPanel p fun x => { f x with ackOwed := false })).checkHealth p).done := if_pos h

theorem State.settleAck_unowed (h : (s.panel p).ackOwed = false) (f : Panel → Panel) : s.settleAck p f = s :=
  if_neg (Bool.eq_false_iff.1 h)

/-- R186: a byte with its stop bit low holds the path, and counts as FRAME_BAD. -/
theorem State.ackByte_low (code : Byte) :
    s.ackByte p code false = (s.modPanel p fun x => { x with pathHeld := true }).ackBad p := rfl

/-- R186: a byte of another value with its stop bit high counts as FRAME_BAD. -/
theorem State.ackByte_unknown {code : Byte} (ht : code ≠ 0x5A#8) (hf : code ≠ 0x3C#8) :
    s.ackByte p code true = s.ackBad p := (if_neg ht).trans (if_neg hf)

theorem State.held_ackOwed : ((s.modPanel p fun x => { x with pathHeld := true }).panel p).ackOwed = (s.panel p).ackOwed := by
  rw [State.panel_modPanel_same]

theorem State.modPanel_modPanel (f g : Panel → Panel) : (s.modPanel p f).modPanel p g = s.modPanel p fun x => g (f x) := by
  rw [State.modPanel, State.panel_modPanel_same, State.modPanel, State.setPanel_setPanel]
  rfl

end

/-! ### The obligation -/

/-- Settles O52: TRAIN_OK by `Ev.enterOn_entersOn`, the frame acknowledgements by `State.settleAck`, and the examination by the
cases of `Ev.examine`. -/
theorem acknowledgements : Obligations.Acknowledgements := by
  refine ⟨fun s p hl hp => ⟨fun v u e1 e2 e hm ho hv h1 h2 he hu => ?train, fun hm => ?untrained,
      fun good bad ho hgood hbad => ?settled, fun ho => ?unowed, fun code ht hf _ => ?unknown, fun code ho => ?held,
      fun code e ho he => ?low⟩,
    fun e i => ⟨fun h => ?waits, fun j hj hph hw hs => ?ready⟩, fun s p => acknowledgements_unread, fun s p => rfl⟩
  case train =>
    have event : e = (Ev.start s).enterOn p := by rw [he, h2, h1, hv, Ev.enterOn_eq]; rfl
    subst hu event
    have entered := Ev.enterOn_entersOn (s := s) (p := p) ho
    have answers := trainOk_answers hl hp
    rw [State.trainOk, if_pos hm] at answers
    exact ⟨Ev.done_frame _, answers, ((Ev.start s).enterOn_blocks p).trans (Ev.done_blocks _), entered.other, entered.own,
      entered.live, entered.stack_empty, entered.shared⟩
  case untrained =>
    have answers := trainOk_answers hl hp
    rwa [State.trainOk, if_neg hm] at answers
  case settled =>
    have ok := frameOk_answers hl hp
    have notOk := frameBad_answers hl hp
    rw [State.ackGood, State.settleAck_owed ho] at ok
    rw [State.ackBad, State.settleAck_owed ho] at notOk
    subst hgood hbad
    exact ⟨Ev.done_frame _, ok, Ev.done_frame _, notOk⟩
  case unowed =>
    have ok := frameOk_answers hl hp
    have notOk := frameBad_answers hl hp
    rw [State.ackGood, State.settleAck_unowed ho] at ok
    rw [State.ackBad, State.settleAck_unowed ho] at notOk
    exact ⟨ok, notOk⟩
  case unknown =>
    exact ⟨_, frameBad_answers hl hp, State.ackByte_unknown (s := s) ht hf ▸ unknownAckCode_answers hl hp code true⟩
  case held =>
    have answers := unknownAckCode_answers hl hp code false
    rwa [State.ackByte_low, State.ackBad, State.settleAck_unowed (State.held_ackOwed.trans ho)] at answers
  case low =>
    have answers := unknownAckCode_answers hl hp code false
    rw [State.ackByte_low, State.ackBad, State.settleAck_owed (State.held_ackOwed.trans ho), State.modPanel_modPanel]
      at answers
    subst he
    exact ⟨Ev.done_frame _, answers⟩
  case waits =>
    cases hj : e.s.job? i with
    | none => exact Ev.examine_none hj
    | some j =>
      refine Ev.examine_waits hj fun ⟨hph, hw, hc⟩ => ?_
      rcases h j hj with hn | hn | ⟨t, ht, hn⟩
      · exact hn hph
      · cases hw.symm.trans hn
      · cases ((State.panelCondition_iff e.s j.target).1 hc t ht).symm.trans hn
  case ready => exact Ev.examine_ready hj hph hw ((State.panelCondition_iff e.s j.target).2 hs)

end Sys2Proof.Machine
end

section
/-! SUPPORT. The quiet, stability and deadline timers (R105, R157, R159), and the entry of a job to PREPARING with its buffer
wait (R102, R103, R107). -/

namespace Sys2Proof.Machine

/-! ### A job and its record within an event -/

/-- The record with index `i` is `r`, and its job is `j`. -/
structure Ev.Holds (e : Ev) (i : Fin 40) (j : Job) (r : Record) : Prop where
  job : e.s.job? i = some j
  entry : e.s.entry i = .used r

section
variable {e : Ev} {i : Fin 40} {j : Job} {r : Record} (h : e.Holds i j r)
include h

theorem Ev.Holds.modJob {f : Job → Job} (hf : ∀ x, (f x).handle = x.handle) : (e.modJob i f).Holds i (f j) r where
  job := by
    refine (State.job?_modJob hf).trans ?_
    rw [if_pos rfl, h.job]
    rfl
  entry := h.entry

theorem Ev.Holds.modRecord (f : Record → Record) : (e.modRecord i f).Holds i j (f r) where
  job := (State.job?_of_queue (State.modRecord_queue ..)).trans h.job
  entry := by
    rw [Ev.modRecord, Ev.mod, State.modRecord_used h.entry, State.entry_setEntry_same]

/-- R105: a wait that ends without a new buffer. -/
theorem Ev.Holds.expireWait : (e.expireWait i).Holds i { j with waiting := false, expiry := none }
    { r with wanted := none, staleContent := true, marks := { r.marks with stale := true } } :=
  (h.modRecord _).modJob fun _ => by exact rfl

/-- R103: a wait that begins with a deadline ahead. -/
theorem Ev.Holds.beginWait (z : Size) {ms : Nat} (hms : 0 < ms) : (e.beginWait i z ms).Holds i
    { j with waiting := true, expiry := some (e.s.now + ms * 1000) }
    { r with wanted := some z, marks := { r.marks with wanted := true } } := by
  rw [Ev.beginWait, if_neg hms.ne']
  exact (h.modRecord _).modJob (f := fun j => { j with waiting := true, expiry := some (e.s.after ms) }) fun _ => rfl

/-- R103: a wait with a deadline of 0 ends where it begins. -/
theorem Ev.Holds.beginWait_zero (z : Size) : (e.beginWait i z 0).Holds i { j with waiting := false, expiry := none }
    { r with wanted := none, staleContent := true, marks := { r.marks with wanted := true, stale := true } } := by
  rw [Ev.beginWait, if_pos rfl]
  have begun := (h.modRecord fun r => { r with wanted := some z, marks := { r.marks with wanted := true } }).modJob
    (f := fun j => { j with waiting := true, expiry := some (e.s.after 0) }) fun _ => rfl
  exact begun.expireWait

/-- R107: a job in PREPARING is examined. -/
theorem Ev.Holds.examine (hp : j.phase = .preparing) : (e.examine i).Holds i
    { j with phase := if j.waiting = false ∧ e.s.panelCondition j.target = true then .slotWait else .preparing } r := by
  by_cases ready : j.waiting = false ∧ e.s.panelCondition j.target = true
  · rw [if_pos ready, Ev.examine_ready h.job hp ready.1 ready.2]
    have granted := h.modJob (f := fun j => { j with phase := .slotWait }) fun _ => rfl
    exact ⟨granted.job, granted.entry⟩
  · rw [if_neg ready, Ev.examine_waits h.job fun x => ready x.2, ← hp]
    exact h

/-- R107: a grant walk is due after the examination where it takes the job to SLOT_WAIT. -/
theorem Ev.Holds.examine_walk (hp : j.phase = .preparing) : (e.examine i).walk = true ↔
    e.walk = true ∨ ∃ j', (e.examine i).s.job? i = some j' ∧ j'.phase = .slotWait := by
  rw [(h.examine hp).job]
  by_cases ready : j.waiting = false ∧ e.s.panelCondition j.target = true
  · rw [Ev.examine_ready h.job hp ready.1 ready.2]
    simp [ready]
  · rw [Ev.examine_waits h.job fun x => ready x.2]
    simp [ready]

end

/-! ### Entry to PREPARING -/

section
variable {e : Ev} {i : Fin 40} {j : Job} {r : Record} {z : Size} (h : e.Holds i j r)

/-- R102: a job that enters PREPARING holds no actions. -/
def Job.entering (j : Job) : Job := { j with phase := .preparing, stepOne := [], stepTwo := [], outstanding := [] }

/-- R102: the event with a job that has entered PREPARING, before its buffer condition. -/
def Ev.entering (e : Ev) (i : Fin 40) : Ev := e.modJob i Job.entering

theorem Ev.Holds.entering (h : e.Holds i j r) : (e.entering i).Holds i j.entering r := h.modJob fun _ => rfl

theorem Ev.prepare_eq (hj : e.s.job? i = some j) : e.prepare i = ((e.entering i).bufferCondition i j).examine i := by
  unfold Ev.prepare
  rw [hj]
  rfl

theorem Ev.bufferCondition_walk (e : Ev) (i : Fin 40) (j : Job) : (e.bufferCondition i j).walk = e.walk := by
  unfold Ev.bufferCondition
  split
  · rfl
  · split
    · rfl
    · simp only [Ev.beginWait]
      split <;> rfl

/-- R107: what the examination makes of a job whose buffer condition has been settled. -/
theorem Ev.prepare_holds {j1 : Job} {r1 : Record} (hj : e.s.job? i = some j)
    (hb : ((e.entering i).bufferCondition i j).Holds i j1 r1) (hp : j1.phase = .preparing) (ht : j1.target = j.target) :
    (e.prepare i).Holds i { j1 with
      phase := if j1.waiting = false ∧ e.s.panelCondition j.target = true then .slotWait else .preparing } r1 := by
  have panels : ((e.entering i).bufferCondition i j).s.panels = e.s.panels := (Ev.bufferCondition_frame _ i j).panels
  have condition : ((e.entering i).bufferCondition i j).s.panelCondition j.target = e.s.panelCondition j.target := by
    simp only [State.panelCondition, State.panel_of_panels panels]
  rw [Ev.prepare_eq hj, ← condition, ← ht]
  exact hb.examine hp

include h

/-- R102: no buffer is wanted. -/
theorem Ev.Holds.bufferCondition_none {j' : Job} (hw : j'.target.wanted = none) : (e.bufferCondition i j').Holds i
    { j with waiting := false, expiry := none } { r with wanted := none } := by
  unfold Ev.bufferCondition
  rw [hw]
  exact (h.modRecord _).modJob fun _ => by exact rfl

/-- R103: a wait for the same size that is running goes on. -/
theorem Ev.Holds.bufferCondition_keeps {j' : Job} (hw : j'.target.wanted = some z) (hr : r.wanted = some z)
    (hx : j'.expiry ≠ none) : (e.bufferCondition i j').Holds i { j with waiting := true } r := by
  have running : (e.s.record? i).bind Record.wanted = some z ∧ j'.expiry.isSome = true :=
    ⟨by rw [(State.record?_eq_some _).2 h.entry]; exact hr, Option.isSome_iff_ne_none.2 hx⟩
  unfold Ev.bufferCondition
  rw [hw]
  simp only [if_pos running]
  exact h.modJob fun _ => by exact rfl

/-- R103: a wait begins. -/
theorem Ev.Holds.bufferCondition_begins {j' : Job} (hw : j'.target.wanted = some z)
    (hn : r.wanted ≠ some z ∨ j'.expiry = none) :
    e.bufferCondition i j' = e.beginWait i z j'.target.deadlineMs := by
  have idle : ¬((e.s.record? i).bind Record.wanted = some z ∧ j'.expiry.isSome = true) := by
    rw [(State.record?_eq_some _).2 h.entry]
    rintro ⟨hr, hx⟩
    exact hn.elim (fun k => k hr) (Option.isSome_iff_ne_none.1 hx)
  unfold Ev.bufferCondition
  rw [hw]
  exact if_neg idle

/-- R102: the buffer condition of a job that enters PREPARING is settled in one way or another. -/
theorem Ev.Holds.bufferCondition_entering : ∃ j1 r1, ((e.entering i).bufferCondition i j).Holds i j1 r1 ∧
    j1.phase = .preparing := by
  cases hw : j.target.wanted with
  | none => exact ⟨_, _, h.entering.bufferCondition_none hw, rfl⟩
  | some z =>
    by_cases running : r.wanted = some z ∧ j.expiry ≠ none
    · exact ⟨_, _, h.entering.bufferCondition_keeps hw running.1 running.2, rfl⟩
    · have begins := h.entering.bufferCondition_begins hw (j' := j) (by
        rw [ne_eq, ← not_not (a := j.expiry = none), ← not_and_or]
        exact running)
      rcases Nat.eq_zero_or_pos j.target.deadlineMs with hd | hd
      · rw [begins, hd]
        exact ⟨_, _, h.entering.beginWait_zero z, rfl⟩
      · rw [begins]
        exact ⟨_, _, h.entering.beginWait z hd, rfl⟩

/-- R107: a job that enters SLOT_WAIT as it is prepared calls for a grant walk. -/
theorem Ev.Holds.prepare_walk : (e.prepare i).walk = true ↔
    e.walk = true ∨ ∃ j', (e.prepare i).s.job? i = some j' ∧ j'.phase = .slotWait := by
  obtain ⟨j1, r1, buffered, hp⟩ := h.bufferCondition_entering
  have walk : ((e.entering i).bufferCondition i j).walk = e.walk := Ev.bufferCondition_walk ..
  rw [Ev.prepare_eq h.job, ← walk]
  exact buffered.examine_walk hp

end

/-! ### What the end of an event keeps of an expired wait -/

/-- R105: the record with index `i` holds STALE and wants no buffer, it is not marked for the backlog (R98), and no job of it
waits or has a next target. -/
structure State.WaitOver (i : Fin 40) (s : State) : Prop where
  record : ∃ r, s.entry i = .used r ∧ r.wanted = none ∧ r.staleContent = true ∧ r.marks.stale = true ∧
    r.resPending = false
  job : ∀ j ∈ s.queue, j.handle.index = i → j.waiting = false ∧ j.expiry = none ∧ j.next = none

theorem State.marked_of_firstMarked {s : State} {m : Fin 40} (h : s.firstMarked = some m) :
    (s.record? m).any Record.resPending = true :=
  List.find?_some (p := fun m => (s.record? m).any Record.resPending) h

section
variable {i m : Fin 40} {s t : State} (h : s.WaitOver i)
include h

/-- What happens to the job of another record has no part in it. -/
theorem State.WaitOver.other (k : s.AtRecord m t) (hm : m ≠ i) : t.WaitOver i where
  record := by
    rw [k.entry i hm.symm]
    exact h.record
  job j hj hi := h.job j ((k.job j (hi ▸ hm.symm)).1 hj) hi

theorem State.WaitOver.of_rest (ht : t.table.slots = s.table.slots) (hq : t.queue = s.queue) : t.WaitOver i where
  record := by
    rw [State.entry, ht]
    exact h.record
  job := by
    rw [hq]
    exact h.job

theorem State.WaitOver.modJob {f : Job → Job} (hf : ∀ j : Job, (f j).handle = j.handle ∧ (f j).waiting = j.waiting ∧
    (f j).expiry = j.expiry ∧ (f j).next = j.next) : (s.modJob i f).WaitOver i where
  record := h.record
  job j hj hi := by
    obtain ⟨x, hx, rfl⟩ := List.mem_map.1 hj
    obtain ⟨handle, waiting, expiry, next⟩ := hf x
    by_cases hxi : x.handle.index = i
    · rw [if_pos hxi, waiting, expiry, next]
      exact h.job x hx hxi
    · rw [if_neg hxi] at hi
      exact absurd hi hxi

theorem State.WaitOver.modRecord {f : Record → Record} (hf : ∀ r : Record, (f r).wanted = r.wanted ∧
    (f r).staleContent = r.staleContent ∧ (f r).marks.stale = r.marks.stale ∧ (f r).resPending = r.resPending) :
    (s.modRecord i f).WaitOver i where
  record := by
    obtain ⟨r, hr, kept⟩ := h.record
    obtain ⟨wanted, content, stale, mark⟩ := hf r
    refine ⟨f r, ?_, ?_⟩
    · rw [State.modRecord_used hr, State.entry_setEntry_same]
    · rwa [wanted, content, stale, mark]
  job := by
    rw [State.modRecord_queue]
    exact h.job

theorem State.WaitOver.dropJob : (s.dropJob i).WaitOver i :=
  ⟨h.record, fun j hj hi => h.job j (List.mem_of_mem_filter hj) hi⟩

theorem State.WaitOver.refreshNotice : s.refreshNotice.WaitOver i := h.of_rest rfl rfl

/-- The record is none that the backlog offers a queue entry. -/
theorem State.WaitOver.ne_marked (hm : (s.record? m).any Record.resPending = true) : m ≠ i := by
  rintro rfl
  obtain ⟨r, hr, -, -, -, mark⟩ := h.record
  obtain ⟨r', hr', mark'⟩ := State.resPending_iff.1 hm
  cases hr.symm.trans hr'
  cases mark.symm.trans mark'

end

section
variable {i : Fin 40} {e : Ev} (h : e.s.WaitOver i)
include h

theorem State.WaitOver.examine : (e.examine i).s.WaitOver i := by
  unfold Ev.examine
  split
  · split
    · exact h.modJob fun _ => by exact ⟨rfl, rfl, rfl, rfl⟩
    · exact h
  · exact h

theorem State.WaitOver.stageStep (l : List TargetPiece) (as : List SlotAction) : (e.stageStep i l as).s.WaitOver i := by
  have staged : (as.foldl (fun s a => s.stageAction i l a) e.s).WaitOver i :=
    h.of_rest (congrArg Table.slots (State.stageActions_table ..)) (State.stageActions_queue as)
  exact staged.modJob fun _ => by exact ⟨rfl, rfl, rfl, rfl⟩

theorem State.WaitOver.grantOne (m : Fin 40) : (e.grantOne m).s.WaitOver i := by
  by_cases hm : m = i
  · subst hm
    unfold Ev.grantOne
    split
    · split
      · split
        · have claimed (l : List TargetPiece) : (e.s.claim m l).WaitOver m :=
            h.of_rest (congrArg Table.slots (e.s.claim_table m l)) (e.s.claim_queue m l)
          refine State.WaitOver.stageStep (e := Ev.modJob _ m _) ?_ _ _
          exact (claimed _).modJob fun _ => by exact ⟨rfl, rfl, rfl, rfl⟩
        · exact h
      · exact h
    · exact h
  · exact h.other (e.grantOne_atRecord m) hm

theorem State.WaitOver.grantWalk : e.grantWalk.s.WaitOver i := by
  have walked (l : List (Fin 40)) : ∀ d : Ev, d.s.WaitOver i → (l.foldl Ev.grantOne d).s.WaitOver i := by
    induction l with
    | nil => exact fun d hd => hd
    | cons m ms ih => exact fun d hd => ih _ (hd.grantOne m)
  exact walked _ { e with walk := false } h

/-- R116: a job without a next target completes. -/
theorem State.WaitOver.complete {j : Job} (hn : j.next = none) : (e.complete i j).s.WaitOver i := by
  simp only [Ev.complete, hn]
  exact ((h.modRecord fun _ => by exact ⟨rfl, rfl, rfl, rfl⟩).modRecord fun _ => by exact ⟨rfl, rfl, rfl, rfl⟩).dropJob

theorem State.WaitOver.endStep {j : Job} (hj : j ∈ e.s.queue) : (e.endStep j).s.WaitOver i := by
  by_cases hi : j.handle.index = i
  · subst hi
    obtain ⟨-, -, hn⟩ := h.job j hj rfl
    by_cases second : j.phase = .stepOne ∧ j.stepTwo ≠ []
    · rw [Ev.endStep_stages second.1 second.2 hn]
      exact State.WaitOver.stageStep (h.modJob fun _ => by exact ⟨rfl, rfl, rfl, rfl⟩) _ _
    · have ends : e.endStep j = e.complete j.handle.index j := by
        cases hp : j.phase with
        | stepOne =>
          have last : j.stepTwo = [] := not_not.1 fun hs => second ⟨hp, hs⟩
          simp [Ev.endStep, hp, hn, last]
        | preparing | slotWait | stepTwo => simp [Ev.endStep, hp]
      rw [ends]
      exact h.complete hn
  · exact h.other (e.endStep_atRecord j) hi

theorem State.WaitOver.takeUp : e.takeUp.s.WaitOver i := by
  unfold Ev.takeUp
  split
  · exact h
  · next m first =>
    have other := h.other (e.reresolve_atRecord m) (h.ne_marked (State.marked_of_firstMarked first))
    simp only
    split
    · exact other
    · split <;> exact other

end

theorem State.WaitOver.settle {i : Fin 40} (walks : Bool) (n : Nat) :
    ∀ e : Ev, e.s.WaitOver i → (Ev.settle walks n e).s.WaitOver i := by
  induction n with
  | zero => exact fun e h => h
  | succ n ih =>
    intro e h
    unfold Ev.settle
    split
    · next j hj => exact ih _ (h.endStep (List.mem_of_find?_eq_some hj))
    · split
      · exact ih _ h.takeUp
      · split
        · exact ih _ h.grantWalk
        · exact h

/-- An event that re-resolves no group ends with the wait over. -/
theorem State.WaitOver.done {i : Fin 40} {e : Ev} (h : e.s.WaitOver i) (hr : e.resolveAll = false) : e.done.WaitOver i := by
  have none_due : e.resolveDue = e := if_neg (Bool.eq_false_iff.1 hr)
  rw [Ev.done, Ev.finish, none_due]
  exact (State.WaitOver.settle true settleFuel e h).refreshNotice

/-! ### The expiries -/

section
variable {s : State} {i : Fin 40} {p : PanelId} {j : Job} {r : Record} {t : Nat}

theorem deadlineExpiry_stopped (h : ∀ j, s.job? i = some j → j.expiry = none) : Answers (.deadlineExpiry i) s s := by
  have stopped : (s.job? i).bind Job.expiry = none := Option.bind_eq_none_iff.2 h
  change execDeadlineExpiry i s = _
  rw [execDeadlineExpiry, stopped]

theorem deadlineExpiry_answers (hj : s.job? i = some j) (ht : j.expiry = some t) : Answers (.deadlineExpiry i) s
    (((Ev.start (s.elapse (t - s.now))).expireWait i).examine i).done := by
  have running : (s.job? i).bind Job.expiry = some t := by rw [hj]; exact ht
  change execDeadlineExpiry i s = _
  rw [execDeadlineExpiry, running]
  rfl

theorem Ev.expireWait_queue (e : Ev) (i : Fin 40) : (e.expireWait i).s.queue =
    e.s.queue.map fun j => if j.handle.index = i then j.settle else j :=
  congrArg (List.map _) (State.modRecord_queue ..)

/-- R94: the queue invariant gives a record one job. -/
theorem State.QueueOk.job_unique (ok : s.QueueOk) (hj : s.job? i = some j) {x : Job} (hx : x ∈ s.queue)
    (hi : x.handle.index = i) : x = j := by
  obtain ⟨-, distinct, -⟩ := State.queueOk_iff.1 ok
  exact List.inj_on_of_nodup_map distinct hx (List.mem_of_find?_eq_some hj) (hi.trans (State.job?_some_index hj).symm)

/-- R105: the wait of a job without a next target is over after its deadline. -/
theorem State.QueueOk.expireWait (ok : s.QueueOk) (hj : s.job? i = some j) (hr : s.entry i = .used r)
    (hn : j.next = none) (hm : r.resPending = false) : ((Ev.start s).expireWait i).s.WaitOver i where
  record := ⟨_, (Ev.Holds.expireWait (e := Ev.start s) ⟨hj, hr⟩).entry, rfl, rfl, rfl, hm⟩
  job x hx hi := by
    rw [Ev.expireWait_queue] at hx
    obtain ⟨y, hy, rfl⟩ := List.mem_map.1 hx
    by_cases hyi : y.handle.index = i
    · rw [if_pos hyi, ok.job_unique hj hy hyi]
      exact ⟨rfl, rfl, hn⟩
    · rw [if_neg hyi] at hi
      exact absurd hi hyi

theorem quietExpiry_stopped (h : (s.panel p).mode ≠ .offline ∨ (s.panel p).quietTimer = none) :
    Answers (.quietExpiry p) s s := by
  refine congrArg Host.Outcome.next ?_
  rcases h with h | h
  · exact if_neg (mt Panel.isOffline_iff.1 h)
  · rw [h]
    exact ite_self s

theorem stabilityExpiry_stopped (h : (s.panel p).stableTimer = none) : Answers (.stabilityExpiry p) s s := by
  refine congrArg Host.Outcome.next ?_
  rw [h]
  rfl

theorem stabilityExpiry_answers (h : (s.panel p).stableTimer = some t) : Answers (.stabilityExpiry p) s
    ((s.elapse (t - s.now)).modPanel p fun x => { x with stableTimer := none, attempts := 0 }) :=
  congrArg Host.Outcome.next (State.atTimer_some h _)

/-- R157: an OFFLINE panel whose quiet time is over leaves OFFLINE, one attempt counted. -/
theorem quietExpiry_answers (hm : (s.panel p).mode = .offline) (ht : (s.panel p).quietTimer = some t) :
    Answers (.quietExpiry p) s ((Ev.start ((s.elapse (t - s.now)).setPanel p
      { s.panel p with attempts := (s.panel p).attempts + 1 })).leaveOffline p).done := by
  have dark : (s.panel p).inService = false := by rw [Panel.inService, hm]
  refine congrArg Host.Outcome.next ((if_pos (Panel.isOffline_iff.2 hm)).trans ((State.atTimer_some ht _).trans ?_))
  rw [← State.panel_elapse_dark dark (t - s.now)]
  rfl

end

/-! ### The obligation -/

/-- Settles O55: each expiry by what it answers, the end of a wait through the rest of its event by `State.WaitOver.done`, and
the entry to PREPARING by the cases of the buffer condition. -/
theorem recoveryAndDeadlineTimers : Obligations.RecoveryAndDeadlineTimers := by
  refine ⟨fun s v w p t x hm ht hv hx hw =>
    ⟨Ev.done_frame { Ev.start w with resolveAll := x.litDemand }, ?quiet⟩,
    fun s v p t ht hv => hv ▸ stabilityExpiry_answers ht,
    fun s p => ⟨quietExpiry_stopped, stabilityExpiry_stopped⟩,
    fun s v i j r t hj ht hr hv => ⟨_, _, rfl, rfl, hv ▸ deadlineExpiry_answers hj ht, ?frame, ?record, ?job,
      fun ok hn hmark => ?ended⟩,
    fun s i => deadlineExpiry_stopped, fun e i j j0 r next hj hr h0 hnext => ?prepare⟩
  case quiet =>
    subst hv
    have left := Ev.leaveOffline_eq (p := p) (s := s.elapse (t - s.now)) (x := x)
      (y := { s.panel p with attempts := (s.panel p).attempts + 1 }) (by rw [hx])
    have powered : w = (s.elapse (t - s.now)).setPanel p
      (if x.litDemand = true ∧ x.offTimer = none then (s.elapse (t - s.now)).poweringUp x else x) := hw
    have answers := quietExpiry_answers hm ht
    rwa [left, ← powered] at answers
  case frame =>
    exact ((Ev.expireWait_frame (Ev.start v) i).trans (Ev.examine_frame _ i)).trans (Ev.done_frame _)
  case record =>
    subst hv
    exact (State.record?_eq_some _).2 (Ev.Holds.expireWait (e := Ev.start (s.elapse _)) ⟨hj, hr⟩).entry
  case job =>
    subst hv
    exact (Ev.Holds.expireWait (e := Ev.start (s.elapse _)) ⟨hj, hr⟩).job
  case ended =>
    subst hv
    have elapsed : (s.elapse (t - s.now)).QueueOk := ⟨ok.room, ok.distinct, ok.moving⟩
    have ended := ((elapsed.expireWait hj hr hn hmark).examine).done (Ev.examine_resolveAll ..)
    obtain ⟨r', hr', wanted, content, stale, -⟩ := ended.record
    refine ⟨⟨r', hr', wanted, content, stale⟩, fun j' hj' => ?_⟩
    obtain ⟨waiting, expiry, -⟩ := ended.job j' (List.mem_of_find?_eq_some hj') (State.job?_some_index hj')
    exact ⟨waiting, expiry⟩
  case prepare =>
    have held : e.Holds i j r := ⟨hj, hr⟩
    have phase : (if false = false ∧ e.s.panelCondition j.target = true then Phase.slotWait else .preparing) = next := by
      rw [hnext]
      exact if_congr (and_iff_right rfl) rfl rfl
    refine ⟨fun hw => ?unwanted, fun z hw hwr hx => ?runs,
      fun z hw hn => ⟨fun hd => ?begins, fun hd => ?expired⟩, held.prepare_walk⟩
    case unwanted =>
      have prepared := Ev.prepare_holds hj (held.entering.bufferCondition_none hw) rfl rfl
      rw [phase] at prepared
      subst h0
      exact ⟨prepared.job, prepared.entry⟩
    case runs =>
      have prepared := Ev.prepare_holds hj (held.entering.bufferCondition_keeps hw hwr hx) rfl rfl
      subst h0
      exact ⟨prepared.job, prepared.entry⟩
    case begins =>
      have buffered := held.entering.beginWait z hd
      rw [← held.entering.bufferCondition_begins hw hn] at buffered
      have prepared := Ev.prepare_holds hj buffered rfl rfl
      subst h0
      exact ⟨prepared.job, prepared.entry⟩
    case expired =>
      have buffered := held.entering.beginWait_zero z
      rw [← hd, ← held.entering.bufferCondition_begins hw hn] at buffered
      have prepared := Ev.prepare_holds hj buffered rfl rfl
      rw [phase] at prepared
      subst h0
      exact ⟨prepared.job, prepared.entry⟩

end Sys2Proof.Machine
end

section
/-! SUPPORT. What every step keeps of the Panel Controllers and the slot bank: a slot in use is on a panel in service (R129, R138,
R142), joined mode stands only within its conditions (R135, R137), and each controller stays in its ranges (R131, R134, R150,
R157). One relation carries the three properties over, so that each operation is followed once. -/

namespace Sys2Proof.Machine

/-! ### The relation -/

/-- R131, R134, R150, R157: both Panel Controllers are in their ranges. -/
def State.PanelsOk (s : State) : Prop := ∀ p, (s.panel p).Ok

/-- Each of the three properties goes over from one state to the other. -/
structure State.KeepsPanels (s t : State) : Prop where
  slots : s.SlotsOk → t.SlotsOk
  joined : s.JoinedOk → t.JoinedOk
  ranges : s.PanelsOk → t.PanelsOk

section
variable {s t u : State}

theorem State.KeepsPanels.refl (s : State) : s.KeepsPanels s := ⟨id, id, id⟩

theorem State.KeepsPanels.trans (h : s.KeepsPanels t) (k : t.KeepsPanels u) : s.KeepsPanels u :=
  ⟨k.slots ∘ h.slots, k.joined ∘ h.joined, k.ranges ∘ h.ranges⟩

theorem State.KeepsPanels.ite {p : Prop} [Decidable p] (h : p → s.KeepsPanels t) :
    s.KeepsPanels (if p then t else s) := by
  split
  · next hp => exact h hp
  · exact .refl s

theorem State.KeepsPanels.ite_not {p : Prop} [Decidable p] (h : s.KeepsPanels t) :
    s.KeepsPanels (if p then s else t) := by
  split
  · exact .refl s
  · exact h

/-- No panel leaves service, and none out of service is given a slot. -/
theorem State.KeepsPanels.of_serving (hj : t.posture.join = s.posture.join) (hg : t.shared = s.shared)
    (hs : ∀ p, (s.panel p).inService = true → (t.panel p).inService = true)
    (hk : ∀ k, (s.panel (s.user k)).inService = false → s.slot k = .free → t.slot k = .free)
    (hr : s.PanelsOk → t.PanelsOk) : s.KeepsPanels t where
  slots ok := by
    refine ⟨fun k used => ?_, hg ▸ ok.lent⟩
    rw [State.user_of_shared hg]
    refine hs _ ?_
    by_contra dark
    have dark := Bool.eq_false_iff.2 dark
    have free : s.slot k = .free := by
      by_contra taken
      exact absurd (ok.service k (LayerSlot.isFree_eq_false_iff.2 taken)) (by simp [dark])
    exact LayerSlot.isFree_eq_false_iff.1 used (hk k dark free)
  joined ok hm := by
    rw [hg] at hm
    have holds := ok hm
    rw [State.joinConditions, Bool.and_eq_true, State.bothInService_iff] at holds ⊢
    exact ⟨hj ▸ holds.1, fun p => hs p (holds.2 p)⟩
  ranges := hr

/-- The panels and what they share are the same, and no FREE slot is taken. -/
theorem State.KeepsPanels.of_free (hp : t.panels = s.panels) (hg : t.shared = s.shared)
    (hj : t.posture.join = s.posture.join) (hk : ∀ k, s.slot k = .free → t.slot k = .free) : s.KeepsPanels t :=
  .of_serving hj hg (fun p h => State.panel_of_panels hp p ▸ h) (fun k _ => hk k)
    fun ok p => State.panel_of_panels hp p ▸ ok p

/-- An update that has no part in the panels, what they share, the slot bank and the joined posture. -/
theorem State.KeepsPanels.of_rest (hp : t.panels = s.panels) (hg : t.shared = s.shared) (hk : t.slots = s.slots)
    (hj : t.posture.join = s.posture.join) : s.KeepsPanels t :=
  .of_free hp hg hj fun k hf => (congrArg (fun v => v[k]) hk).trans hf

/-- An operation of the Handover Engine (R110). -/
theorem State.KeepsPanels.of_steady (h : s.Steady t) (hj : t.posture = s.posture) : s.KeepsPanels t :=
  .of_serving (congrArg _ hj) h.shared (fun p hp => State.panel_of_panels h.panels p ▸ hp) h.dark
    fun ok p => State.panel_of_panels h.panels p ▸ ok p

/-- A change of one record slot alone. -/
theorem State.KeepsPanels.of_onlyEntry {i : Fin 40} (h : State.OnlyEntry i s t) : s.KeepsPanels t := by
  obtain ⟨x, rfl⟩ := h
  exact .of_rest rfl rfl rfl rfl

/-- What keeps the properties after an update that has no part in them. -/
theorem State.KeepsPanels.after_rest (h : t.KeepsPanels u) (hp : t.panels = s.panels) (hg : t.shared = s.shared)
    (hk : t.slots = s.slots) (hj : t.posture.join = s.posture.join) : s.KeepsPanels u :=
  (State.KeepsPanels.of_rest hp hg hk hj).trans h

/-- A reset: every slot is FREE and joined mode has ended. -/
theorem State.KeepsPanels.of_reset (hk : ∀ k, t.slot k = .free) (hl : t.shared.lent = s.shared.lent ∨ t.shared.lent = 0)
    (hm : t.shared.joined = .notJoined) (hr : s.PanelsOk → t.PanelsOk) : s.KeepsPanels t where
  slots ok := by
    refine ⟨fun k used => absurd (hk k) (LayerSlot.isFree_eq_false_iff.1 used), ?_⟩
    rcases hl with hl | hl
    · exact hl ▸ ok.lent
    · exact .inl hl
  joined _ h := absurd hm h
  ranges := hr

end

/-- An operation made for each member of a list keeps the properties if one does. -/
theorem Ev.foldl_keepsPanels {α : Type} (f : Ev → α → Ev)
    (hf : ∀ (e : Ev) (a : α), e.s.KeepsPanels (f e a).s) (l : List α)
    (e : Ev) : e.s.KeepsPanels (l.foldl f e).s := by
  induction l generalizing e with
  | nil => exact .refl _
  | cons a l ih => exact (hf e a).trans (ih (f e a))

/-! ### One panel, and joined mode -/

section
variable (s : State) (p : PanelId)

/-- A panel changes and does not leave service. -/
theorem State.setPanel_keepsPanels {x : Panel} (hs : (s.panel p).inService = true → x.inService = true)
    (hr : (s.panel p).Ok → x.Ok) : s.KeepsPanels (s.setPanel p x) := by
  refine .of_serving rfl rfl (fun q hq => ?_) (fun _ _ h => h) fun ok q => ?_
  · rw [State.panel_setPanel]
    split
    · next h => exact hs (h ▸ hq)
    · exact hq
  · rw [State.panel_setPanel]
    split
    · exact hr (ok p)
    · exact ok q

theorem State.modPanel_keepsPanels {f : Panel → Panel} (hs : (s.panel p).inService = true → (f (s.panel p)).inService = true)
    (hr : (s.panel p).Ok → (f (s.panel p)).Ok) : s.KeepsPanels (s.modPanel p f) := s.setPanel_keepsPanels p hs hr

/-- Joined mode moves while it is pending or entered. -/
theorem State.setJoined_keepsPanels (j : JoinedMode) (hj : s.shared.joined ≠ .notJoined) : s.KeepsPanels (s.setJoined j) where
  slots ok := ⟨ok.service, ok.lent⟩
  joined ok _ := ok hj
  ranges := id

/-- R135, R137: the evaluation brings joined mode within its conditions, wherever it stood. -/
theorem Ev.evalJoined_joinedOk (e : Ev) : e.evalJoined.s.JoinedOk := by
  rw [Ev.evalJoined_s]
  intro hm
  cases hc : e.s.joinConditions with
  | true => exact hc
  | false =>
    rw [hc] at hm
    exact absurd rfl hm

theorem Ev.evalJoined_keepsPanels (e : Ev) : e.s.KeepsPanels e.evalJoined.s where
  slots ok := by
    rw [Ev.evalJoined_s]
    exact ⟨ok.service, ok.lent⟩
  joined _ := e.evalJoined_joinedOk
  ranges ok := by
    rw [Ev.evalJoined_s]
    exact ok

end

/-! ### The ranges of one Panel Controller -/

section
variable {x : Panel}

/-- R131: the counter stops at compare A. -/
theorem Panel.Ok.elapse (ok : x.Ok) (us : Nat) : (x.elapse us).Ok := by
  unfold Panel.elapse
  split
  · exact { ok with counter := Nat.min_le_right _ _ }
  · exact ok

/-- A panel out of service holds to no frame (R123, R131). -/
theorem Panel.Ok.leave (ok : x.Ok) {m : PanelMode} (hm : { x with mode := m }.inService = false) (t o : Timer) :
    { x with mode := m, seqTimer := t, offTimer := o }.Ok :=
  { ok with effective := fun h => by cases hm.symm.trans h }

theorem Panel.Ok.stopFrames (ok : x.Ok) (h : x.inService = false) : x.stopFrames.Ok :=
  { ok with
    effective := fun hs => by cases h.symm.trans hs
    counter := Nat.le_refl 0
    stack := Nat.zero_le 16 }

theorem Panel.Ok.poweringUp (ok : x.Ok) (s : State) : (s.poweringUp x).Ok :=
  { ok with effective := nofun, health := Nat.zero_le 255 }

/-- R157: the quiet timer starts only with attempts left. -/
theorem Panel.Ok.offline (ok : x.Ok) (s : State) (c : FaultCause) : (s.offlinePanel x c).Ok :=
  { ok with
    effective := nofun
    quiet := fun h => by
      by_contra spent
      have stopped : s.quietFor x = none := if_neg fun hq => spent hq.2
      have running : (s.quietFor x).isSome = true := h
      rw [stopped] at running
      cases running }

/-- R134: an adopted period is in its range. -/
theorem Panel.Ok.getD_period (ok : x.Ok) : 8000 ≤ x.pendPeriod.getD x.period ∧ x.pendPeriod.getD x.period ≤ 32000 := by
  cases h : x.pendPeriod with
  | none => exact ok.period
  | some n => exact ok.pendPeriod n h

theorem Panel.Ok.getD_lead (ok : x.Ok) : 500 ≤ x.pendLead.getD x.lead ∧ x.pendLead.getD x.lead ≤ 4000 := by
  cases h : x.pendLead with
  | none => exact ok.lead
  | some n => exact ok.pendLead n h

/-- R131, R136: a period in its range, doubled or not, is an effective period. -/
theorem doubled_period_range {n : Nat} (hn : 8000 ≤ n ∧ n ≤ 32000) {c : Prop} [Decidable c] :
    8000 ≤ (if c then 2 * n else n) ∧ (if c then 2 * n else n) ≤ 64000 := by
  split <;> omega

/-- R131, R132: a panel at its frame start, whatever its panel state. -/
theorem Panel.Ok.reopened (ok : x.Ok) {n : Nat} (hn : 8000 ≤ n ∧ n ≤ 64000) (owed : Bool) {l : List (Fin 16)}
    (hl : l.length ≤ 16) (m : PanelMode) (t u : Timer) :
    ({ x with mode := m, seqTimer := t, stableTimer := u }.reopened n owed l).Ok :=
  { ok with
    period := ok.getD_period
    lead := ok.getD_lead
    pendPeriod := nofun
    pendLead := nofun
    effective := fun _ => hn
    counter := Nat.zero_le n
    stack := hl
    health := by
      have := ok.health
      simp only [Panel.reopened]
      split
      · exact Nat.min_le_left _ _
      · exact this }

/-- R131: the effective period of a frame of one panel alone. -/
theorem Panel.Ok.soloPeriod (ok : x.Ok) (m : PanelMode) (t u : Timer) :
    8000 ≤ { x with mode := m, seqTimer := t, stableTimer := u }.adopt.soloPeriod ∧
      { x with mode := m, seqTimer := t, stableTimer := u }.adopt.soloPeriod ≤ 64000 :=
  doubled_period_range ok.getD_period

end

theorem State.stackOf_length_le (s : State) (p : PanelId) : (s.stackOf p).length ≤ 16 := by
  simpa using (s.stackOf_nodup p).length_le_card

theorem State.elapse_keepsPanels (s : State) (us : Nat) : s.KeepsPanels (s.elapse us) := by
  refine .of_serving rfl rfl (fun p h => ?_) (fun _ _ h => h) fun ok p => ?_
  · rwa [State.panel_elapse, Panel.elapse_inService]
  · rw [State.panel_elapse]
    exact (ok p).elapse us

end Sys2Proof.Machine
end

section
/-! SUPPORT. The three properties of the panels through departures from service (R129), power sequencing (R123 to R130), the
thresholds (R152 to R154) and the frame start (R132 to R140). -/

namespace Sys2Proof.Machine

/-! ### Departures from service -/

section
variable {s : State} {e : Ev} {p : PanelId} {x : Panel}

/-- R129: a departure of a panel that has left service frees the slots it uses and no other. -/
theorem Ev.slot_leaveService (evict : Bool) (h : (e.s.panel p).inService = false) (k : Fin 16) :
    (e.leaveService p evict).s.slot k = if e.s.user k = p then .free else e.s.slot k := by
  rw [Ev.leaveService_eq evict h]
  exact (congrArg (fun v => v[k]) State.foldl_reportLoss_slots).trans (e.s.leftService_slot k)

/-- R129, R137: a panel taken out of service gives up its slots and its frames, and joined mode ends. -/
theorem Ev.leaveService_keepsPanels (evict : Bool) (he : e.s = { s.setPanel p x with attn := e.s.attn })
    (hx : x.inService = false) (hr : (s.panel p).Ok → x.Ok) : s.KeepsPanels (e.leaveService p evict).s := by
  have panel (q : PanelId) : e.s.panel q = if q = p then x else s.panel q := by
    rw [he]
    exact s.panel_setPanel p q x
  have own : e.s.panel p = x := (panel p).trans (if_pos rfl)
  have shared : e.s.shared = s.shared := by rw [he]; rfl
  have slot (k : Fin 16) : e.s.slot k = s.slot k := by rw [he]; rfl
  have dark : (e.s.panel p).inService = false := own ▸ hx
  have left : (e.leaveService p evict).s.shared = { s.shared with joined := .notJoined } :=
    (Ev.leaveService_shared evict dark).trans (by rw [shared])
  have user (k : Fin 16) : (e.leaveService p evict).s.user k = s.user k := by rw [State.user, left]; rfl
  have stopped : (e.leaveService p evict).s.panel p = x.stopFrames := own ▸ Ev.leaveService_panel evict dark
  have other {q : PanelId} (hq : q ≠ p) : (e.leaveService p evict).s.panel q = s.panel q := by
    have frame := (e.leaveService_panelFrame p evict dark).other
    rw [← PanelId.eq_of_ne_otherPanel hq] at frame
    exact frame.trans ((panel q).trans (if_neg hq))
  refine ⟨fun ok => ⟨fun k used => ?_, left ▸ ok.lent⟩, fun _ hm => absurd (congrArg Shared.joined left) hm, fun ok q => ?_⟩
  · rw [Ev.slot_leaveService evict dark, State.user_of_shared shared, slot] at used
    by_cases hk : s.user k = p
    · rw [if_pos hk] at used
      cases used
    · rw [if_neg hk] at used
      rw [user, other hk]
      exact ok.service k used
  · by_cases hq : q = p
    · subst hq
      exact stopped ▸ (hr (ok q)).stopFrames hx
    · exact other hq ▸ ok q

end

section
variable (e : Ev) (p : PanelId)

theorem Ev.powerDown_keepsPanels : e.s.KeepsPanels (e.powerDown p).s := by
  simp only [Ev.powerDown]
  split
  · exact Ev.leaveService_keepsPanels (x := e.s.poweringDown (e.s.panel p)) false rfl rfl fun ok => ok.leave rfl _ _
  · next dark =>
    exact e.s.setPanel_keepsPanels p (x := e.s.poweringDown (e.s.panel p)) (fun h => absurd h dark) fun ok => ok.leave rfl _ _

theorem Ev.demandOff_keepsPanels : e.s.KeepsPanels (e.demandOff p).s := by
  unfold Ev.demandOff
  split
  · exact e.powerDown_keepsPanels p
  · exact e.powerDown_keepsPanels p
  · exact e.powerDown_keepsPanels p
  · exact .refl _

theorem State.checkPowerUp_keepsPanels (s : State) : s.KeepsPanels (s.checkPowerUp p) := by
  refine .ite fun h => s.modPanel_keepsPanels p (fun hs => ?_) fun ok => ok.poweringUp s
  rw [Panel.inService, h.1] at hs
  cases hs

/-- R123: a change of what makes the lit demand has no part in the panel state. -/
theorem Ev.changeDemand_keepsPanels {f : Panel → Panel} (hs : ∀ x, (f x).inService = x.inService)
    (hr : ∀ x : Panel, x.Ok → (f x).Ok) :
    e.s.KeepsPanels (e.changeDemand p f).s := by
  have changed : e.s.KeepsPanels (e.modPanel p f).s :=
    e.s.modPanel_keepsPanels p (fun h => (hs _).trans h) (hr _)
  simp only [Ev.changeDemand]
  split
  · exact changed.trans (State.checkPowerUp_keepsPanels p _)
  · exact changed.trans (Ev.demandOff_keepsPanels _ p)
  · exact changed

theorem Ev.setEnable_keepsPanels (on : Bool) : e.s.KeepsPanels (e.setEnable p on).s :=
  e.changeDemand_keepsPanels p (fun _ => rfl) fun _ ok => { ok with }

/-- R30, R135: a plan brings joined mode within its conditions, whatever posture it plans for. -/
theorem Ev.applyPlan_keepsPanels {s : State} (hp : e.s.panels = s.panels) (hg : e.s.shared = s.shared)
    (hk : e.s.slots = s.slots) : s.KeepsPanels e.applyPlan.s := by
  have planned (d : Ev) (q : PanelId) (b : Bool) : d.s.KeepsPanels (d.changeDemand q fun x => { x with planLit := b }).s :=
    d.changeDemand_keepsPanels q (fun _ => rfl) fun _ ok => { ok with }
  have kept : e.s.KeepsPanels e.applyPlan.s := ((planned _ _ _).trans (planned _ _ _)).trans (Ev.evalJoined_keepsPanels _)
  have panel (q : PanelId) : e.s.panel q = s.panel q := State.panel_of_panels hp q
  exact {
    slots := fun ok => kept.slots ⟨fun k used => by
      rw [State.slot, hk] at used
      rw [State.user_of_shared hg, panel]
      exact ok.service k used, hg ▸ ok.lent⟩
    joined := fun _ => Ev.evalJoined_joinedOk e.planDemands
    ranges := fun ok => kept.ranges fun q => panel q ▸ ok q }

/-! ### OFFLINE and the thresholds -/

theorem Ev.goOffline_keepsPanels (c : FaultCause) : e.s.KeepsPanels (e.goOffline p c).s := by
  cases h : (e.s.panel p).inService with
  | true =>
    rw [Ev.goOffline_of_service c h]
    exact Ev.leaveService_keepsPanels true rfl rfl fun ok => ok.offline e.s c
  | false =>
    rw [Ev.goOffline_of_dark c h]
    have offline : e.s.KeepsPanels (e.s.setPanel p (e.s.offlinePanel (e.s.panel p) c)) :=
      e.s.setPanel_keepsPanels p (fun hs => by cases h.symm.trans hs) fun ok => ok.offline e.s c
    exact offline.trans (.of_rest rfl rfl rfl rfl)

theorem Ev.checkWarning_keepsPanels : e.s.KeepsPanels (e.checkWarning p).s := by
  rw [Ev.checkWarning_eq]
  have warned : e.s.KeepsPanels (e.s.setPanel p { e.s.panel p with warning := decide (48 ≤ (e.s.panel p).health) }) :=
    e.s.setPanel_keepsPanels p id fun ok => { ok with }
  exact warned.trans (.of_rest rfl rfl rfl rfl)

/-- R153: DEGRADED and ON are both in service. -/
theorem Ev.checkLevels_keepsPanels : e.s.KeepsPanels (e.checkLevels p).s := by
  have served {m : PanelMode} (hm : { e.s.panel p with mode := m }.inService = true) (h : (e.s.panel p).inService = true) :
      e.s.KeepsPanels ((e.modPanel p fun x => { x with mode := m }).raise .panel).s := by
    have moved : e.s.KeepsPanels (e.s.modPanel p fun x => { x with mode := m }) :=
      e.s.modPanel_keepsPanels p (fun _ => hm) fun ok => { ok with effective := fun _ => ok.effective h }
    exact moved.trans (.of_rest rfl rfl rfl rfl)
  simp only [Ev.checkLevels]
  split
  · exact e.goOffline_keepsPanels p _
  · split
    · next h => exact served rfl (Panel.inService_iff.2 (.inl h.1))
    · split
      · next h => exact served rfl (Panel.inService_iff.2 (.inr h.1))
      · exact .refl _

theorem Ev.checkHealth_keepsPanels : e.s.KeepsPanels (e.checkHealth p).s :=
  (e.checkWarning_keepsPanels p).trans (Ev.checkLevels_keepsPanels _ p)

theorem Ev.checkTimeout_keepsPanels (s : State) : e.s.KeepsPanels (Ev.checkTimeout p s e).s := by
  unfold Ev.checkTimeout
  split
  · exact e.checkHealth_keepsPanels p
  · exact .refl _

/-- R157, R160: a panel that leaves OFFLINE stays out of service. -/
theorem Ev.leaveOffline_keepsPanels {s : State} {y : Panel} (h : (s.panel p).inService = false)
    (hr : (s.panel p).Ok → { y with quietTimer := none, mode := .off }.Ok) :
    s.KeepsPanels ((Ev.start (s.setPanel p y)).leaveOffline p).s := by
  rw [Ev.leaveOffline_eq rfl]
  refine s.setPanel_keepsPanels p (fun hs => by cases h.symm.trans hs) fun ok => ?_
  split
  · exact (hr ok).poweringUp s
  · exact hr ok

end

/-! ### The frame start -/

section
variable (e : Ev) (p : PanelId)

theorem Ev.done_keepsPanels : e.s.KeepsPanels e.done := .of_steady e.done_steady e.done_frame.blocks.posture

theorem Ev.endSteps_keepsPanels : e.s.KeepsPanels e.endSteps.s := .of_steady e.endSteps_steady e.endSteps_frame.blocks.posture

theorem Ev.examineAll_keepsPanels : e.s.KeepsPanels e.examineAll.s :=
  .of_steady e.examineAll_steady e.examineAll_frame.blocks.posture

theorem State.modJob_keepsPanels (s : State) (i : Fin 40) (f : Job → Job) : s.KeepsPanels (s.modJob i f) :=
  .of_rest rfl rfl rfl rfl

/-- R139: the reports of a frame start are made to the records and the jobs. -/
theorem Ev.reportApplied_keepsPanels (s : State) (k : Fin 16) : e.s.KeepsPanels (Ev.reportApplied p s e k).s := by
  cases ho : (s.slot k).owner? with
  | none =>
    rw [Ev.reportApplied_unowned ho]
    exact .refl _
  | some o =>
    cases hc : (e.s.slot k).cfg? with
    | some c =>
      rw [Ev.reportApplied_live ho hc]
      exact (State.KeepsPanels.of_onlyEntry ((State.modRecord_onlyEntry ..).trans (State.checkCurrency_onlyEntry ..))).trans
        (State.modJob_keepsPanels ..)
    | none =>
      rw [Ev.reportApplied_freed ho hc]
      exact (State.KeepsPanels.of_onlyEntry (((State.modRecord_onlyEntry ..).trans (State.checkRetired_onlyEntry ..)).trans
        (State.checkCurrency_onlyEntry ..))).trans (State.modJob_keepsPanels ..)

theorem Ev.reportFrame_keepsPanels (s : State) : e.s.KeepsPanels (Ev.reportFrame p s e).s :=
  Ev.foldl_keepsPanels _ (fun d k => Ev.reportApplied_keepsPanels d p s k) _ e

/-- R139: an applied configuration takes no FREE slot. -/
theorem State.slot_openFrame_free {s : State} {p : PanelId} {k : Fin 16} (h : s.slot k = .free) :
    (s.openFrame p).slot k = .free := by
  rw [State.slot_openFrame, h]
  exact ite_self _

/-- R132: a frame start of one panel alone, in service or as it enters ON (R127). -/
theorem Ev.soloFrame_keepsPanels {s : State} {m : PanelMode} {t u : Timer}
    (he : e.s = s.setPanel p { s.panel p with mode := m, seqTimer := t, stableTimer := u })
    (hm : (s.panel p).inService = true → { s.panel p with mode := m }.inService = true) :
    s.KeepsPanels (e.soloFrame p).s := by
  have opened := Ev.solo_opened e p
  have own : e.s.panel p = { s.panel p with mode := m, seqTimer := t, stableTimer := u } := he ▸ s.panel_setPanel_same p _
  have other {q : PanelId} (hq : q ≠ p) : e.s.panel q = s.panel q := by
    rw [he, State.panel_setPanel, if_neg hq]
  have start : s.KeepsPanels ((e.s.soloBase p).openFrame p) := by
    refine .of_serving (by rw [he]; exact congrArg Classifier.join (State.openFrame_posture ..))
      (opened.shared.trans (by rw [he]; rfl)) (fun q hq => ?_) (fun k _ hf => State.slot_openFrame_free (by rw [he]; exact hf))
      fun ok q => ?_
    · by_cases h : q = p
      · subst h
        rw [opened.panel q (decide_eq_true rfl), own]
        exact hm hq
      · rwa [opened.rest q (decide_eq_false h), other h]
    · by_cases h : q = p
      · subst h
        rw [opened.panel q (decide_eq_true rfl), own]
        exact (ok q).reopened ((ok q).soloPeriod m t u) _ (State.stackOf_length_le _ _) m t u
      · rw [opened.rest q (decide_eq_false h), other h]
        exact ok q
  rw [Ev.soloFrame_eq]
  exact ((start.trans (Ev.reportFrame_keepsPanels { e with s := (e.s.soloBase p).openFrame p } p _)).trans
    (Ev.endSteps_keepsPanels _)).trans (Ev.checkTimeout_keepsPanels _ p _)

/-- R132, R136: a frame start of both panels as one event. -/
theorem Ev.jointFrame_keepsPanels : e.s.KeepsPanels e.jointFrame.s := by
  have opened := Ev.joint_opened e
  have start : e.s.KeepsPanels ((e.s.jointBase.openFrame .p0).openFrame .p1) := by
    refine .of_serving (congrArg Classifier.join ((State.openFrame_posture ..).trans (State.openFrame_posture ..)))
      opened.shared (fun q hq => ?_) (fun k _ hf => State.slot_openFrame_free (State.slot_openFrame_free hf)) fun ok q => ?_
    · rw [opened.panel q rfl]
      exact hq
    · rw [opened.panel q rfl]
      refine (ok q).reopened ?_ _ (State.stackOf_length_le _ _) (e.s.panel q).mode
         (e.s.panel q).seqTimer (e.s.panel q).stableTimer
      exact doubled_period_range (ok .p0).getD_period
  rw [Ev.jointFrame_eq]
  exact ((((start.trans (Ev.reportFrame_keepsPanels { e with s := (e.s.jointBase.openFrame .p0).openFrame .p1 } .p0 _)).trans
    (Ev.reportFrame_keepsPanels _ .p1 _)).trans (Ev.endSteps_keepsPanels _)).trans
    (Ev.checkTimeout_keepsPanels _ .p0 _)).trans (Ev.checkTimeout_keepsPanels _ .p1 _)

/-- R136: the lock is made where joined mode is pending. -/
theorem Ev.locked_keepsPanels (h : e.s.shared.joined = .lockPending) : e.s.KeepsPanels e.locked.s := by
  have withdrawn : e.s.KeepsPanels (e.s.modPanel .p1 fun x => { x with ackOwed := false }) :=
    e.s.modPanel_keepsPanels .p1 id fun ok => { ok with }
  exact withdrawn.trans (State.setJoined_keepsPanels _ .joined (by rw [State.modPanel_shared, h]; nofun))

theorem Ev.frameStart_keepsPanels : e.s.KeepsPanels (e.frameStart p).s := by
  unfold Ev.frameStart
  split
  · exact e.jointFrame_keepsPanels
  · next h => exact (e.locked_keepsPanels h).trans (Ev.jointFrame_keepsPanels e.locked)
  · exact e.soloFrame_keepsPanels _ (e.s.setPanel_panel _).symm id

/-- R127, R135: entry to ON. -/
theorem Ev.enterOn_keepsPanels : e.s.KeepsPanels (e.enterOn p).s := by
  unfold Ev.enterOn
  exact ((Ev.soloFrame_keepsPanels _ p rfl fun _ => rfl).trans (Ev.examineAll_keepsPanels _)).trans
    (Ev.evalJoined_keepsPanels _)

end
end Sys2Proof.Machine
end

section
/-! SUPPORT. The three properties of the panels through the classifier's decisions and the sensor line (R23 to R36), and
through the requests of the records. -/

namespace Sys2Proof.Machine

/-! ### The classifier's decisions and the sensor line -/

section
variable (e : Ev)

/-- R30: a commit plans for its posture, so that joined mode follows. -/
theorem Ev.commit_keepsPanels (c : Posture) : e.s.KeepsPanels (e.commit c).s := by
  by_cases h : e.s.posture.committed = c
  · rw [e.commit_same h]
    exact .refl _
  · rw [e.commit_new (Ne.symm h)]
    exact Ev.applyPlan_keepsPanels (e.committing c) (State.mapRecords_panels ..) (State.mapRecords_shared ..)
      (State.mapRecords_slots ..)

theorem Ev.foldCheck_keepsPanels : e.s.KeepsPanels e.foldCheck.s := by
  rcases e.foldCheck_cases with ⟨-, h⟩ | h | ⟨-, -, h⟩
  · rw [h]
    exact .refl _
  · rw [h]
    exact .after_rest (Ev.commit_keepsPanels (e.modPosture _) _) rfl rfl rfl rfl
  · rw [h, Ev.disagree_eq]
    exact .of_rest rfl rfl rfl rfl

theorem Ev.startDwell_keepsPanels (c : Posture) : e.s.KeepsPanels (e.startDwell c).s := by
  unfold Ev.startDwell
  split
  · split
    · exact .of_rest rfl rfl rfl rfl
    · exact .after_rest (Ev.commit_keepsPanels (e.modPosture _) c) rfl rfl rfl rfl
  · exact .of_rest rfl rfl rfl rfl

theorem Ev.applyDwell_keepsPanels (c : Posture) : e.s.KeepsPanels (e.applyDwell c).s := by
  unfold Ev.applyDwell
  split
  · exact .of_rest rfl rfl rfl rfl
  · split
    · exact e.startDwell_keepsPanels c
    · split
      · exact .refl _
      · exact e.startDwell_keepsPanels c
    · split
      · split
        · exact .refl _
        · exact e.commit_keepsPanels c
      · exact e.startDwell_keepsPanels c

theorem Ev.evaluate_keepsPanels : e.s.KeepsPanels e.evaluate.s := by
  unfold Ev.evaluate
  split
  · exact e.foldCheck_keepsPanels
  · split
    · split
      · exact .of_rest rfl rfl rfl rfl
      · exact e.commit_keepsPanels _
    · exact e.applyDwell_keepsPanels _

theorem Ev.dwellEnd_keepsPanels : e.s.KeepsPanels e.dwellEnd.s := by
  unfold Ev.dwellEnd
  split
  · exact .of_rest rfl rfl rfl rfl
  · exact .after_rest (Ev.commit_keepsPanels (e.modPosture _) _) rfl rfl rfl rfl

theorem Ev.takeLevel_keepsPanels : e.s.KeepsPanels e.takeLevel.s := by
  unfold Ev.takeLevel
  split
  · exact .refl _
  · split
    · exact .after_rest (Ev.foldCheck_keepsPanels (e.modPosture _)) rfl rfl rfl rfl
    · exact .of_rest rfl rfl rfl rfl

theorem Ev.badEvent_keepsPanels (c : BadCause) : e.s.KeepsPanels (e.badEvent c).s := by
  simp only [Ev.badEvent]
  split
  · refine State.KeepsPanels.trans ?_ (Ev.foldCheck_keepsPanels _)
    exact .of_rest rfl rfl rfl rfl
  · exact .of_rest rfl rfl rfl rfl

end

section
variable (s : State)

theorem State.receive_keepsPanels (r : Reception) : s.KeepsPanels (s.receive r) := by
  cases hc : receptionBadCause r with
  | some c =>
    rw [s.receive_bad hc]
    generalize hu : ({ s with hinge := s.hinge.arrived r s.now } : State) = u
    have arrived : s.KeepsPanels u := hu ▸ .of_rest rfl rfl rfl rfl
    exact arrived.trans ((Ev.badEvent_keepsPanels (Ev.start u) c).trans (Ev.done_keepsPanels _))
  | none =>
    cases r with
    | framingError => cases hc
    | frame w =>
      rw [s.receive_good hc, Ev.goodFrame_start]
      generalize hu : ({ s with hinge := s.hinge.arrived (.frame w) s.now } : State).tookFrame (frameCode w) (frameField w)
        (frameCount w) = u
      have took : s.KeepsPanels u := hu ▸ .of_rest rfl rfl rfl rfl
      split
      · exact took.trans ((Ev.evaluate_keepsPanels (Ev.start u)).trans (Ev.done_keepsPanels _))
      · exact took.trans (Ev.done_keepsPanels (Ev.start u))

theorem State.frameCell_keepsPanels (bits : List Bool) (v : Bool) : s.KeepsPanels (s.frameCell bits v) := by
  unfold State.frameCell
  split
  · exact .of_rest rfl rfl rfl rfl
  · split
    · exact s.receive_keepsPanels _
    · exact s.receive_keepsPanels _

end

/-! ### The records' operations -/

section
variable (e : Ev) (i : Fin 40)

theorem Ev.reresolve_keepsPanels : e.s.KeepsPanels (e.reresolve i).s :=
  .of_steady (e.reresolve_steady i) (e.reresolve_frame i).blocks.posture

theorem Ev.examine_keepsPanels : e.s.KeepsPanels (e.examine i).s :=
  .of_steady (e.examine_steady i) (e.examine_frame i).blocks.posture

theorem Ev.modRecord_keepsPanels (f : Record → Record) : e.s.KeepsPanels (e.modRecord i f).s :=
  .of_onlyEntry (e.s.modRecord_onlyEntry i f)

/-- R54: a restage takes no FREE slot. -/
theorem Ev.restage_keepsPanels (f : SlotConfig → SlotConfig) : e.s.KeepsPanels (e.restage i f).s := by
  have frame := e.restage_frame i f
  refine .of_free frame.panels frame.shared (congrArg _ frame.blocks.posture) fun k hf => ?_
  refine (e.s.slot_restageAll i f k).trans ?_
  rw [hf]
  exact ite_self _

theorem Ev.settleWait_keepsPanels : e.s.KeepsPanels (e.settleWait i).s :=
  (State.modJob_keepsPanels e.s i Job.settle).trans (Ev.examine_keepsPanels (e.modJob i Job.settle) i)

theorem Ev.offer_keepsPanels (r : Record) (b : Buffer) (c : OfferCase) : e.s.KeepsPanels (e.offer i r b c).s := by
  cases c with
  | mismatch => exact .refl _
  | settles =>
    refine State.KeepsPanels.trans ?_ (Ev.settleWait_keepsPanels _ i)
    exact (e.modRecord_keepsPanels i _).trans (.of_onlyEntry (State.checkCurrency_onlyEntry _ i))
  | restages =>
    exact ((e.modRecord_keepsPanels i _).trans (Ev.restage_keepsPanels _ i _)).trans
      (.of_onlyEntry (State.checkCurrency_onlyEntry _ i))
  | direct =>
    have taken := e.modRecord_keepsPanels i fun r => { r.makeCurrent b with state := .parked }
    simp only [Ev.offer]
    split
    · exact taken.trans (Ev.reresolve_keepsPanels _ i)
    · exact taken

theorem Ev.amended_keepsPanels (old new : Record) : e.s.KeepsPanels (e.amended i old new).s := by
  have restaged (p : Prop) [Decidable p] (f : SlotConfig → SlotConfig) :
      e.s.KeepsPanels (if p then e.restage i f else e).s := by
    split
    · exact e.restage_keepsPanels i f
    · exact .refl _
  simp only [Ev.amended]
  split
  · exact (restaged _ _).trans (Ev.reresolve_keepsPanels _ i)
  · exact restaged _ _

theorem Ev.changeFocus_keepsPanels (new : Option Handle) : e.s.KeepsPanels (e.changeFocus new).s := by
  have step (o : Option Handle) (d : Ev) {f : Handle → Ev} (hf : ∀ h, d.s.KeepsPanels (f h).s) :
      d.s.KeepsPanels (o.elim d f).s := by
    cases o with
    | none => exact .refl _
    | some h => exact hf h
  simp only [Ev.changeFocus]
  refine State.KeepsPanels.trans (State.KeepsPanels.trans (State.KeepsPanels.trans (State.KeepsPanels.trans ?start
    (step e.s.table.focus _ ?loses)) (step new _ ?gains)) (step e.s.table.focus _ ?first)) (step new _ ?last)
  case start => exact .of_rest rfl rfl rfl rfl
  case loses => exact fun h => Ev.restage_keepsPanels _ h.index _
  case gains => exact fun h => Ev.restage_keepsPanels _ h.index _
  case first => exact fun h => Ev.reresolve_keepsPanels _ h.index
  case last => exact fun h => (Ev.reresolve_keepsPanels _ h.index).trans (.of_rest rfl rfl rfl rfl)

theorem State.withdrawRecord_keepsPanels (s : State) : s.KeepsPanels (s.withdrawRecord i) := by
  unfold State.withdrawRecord
  split
  · exact .after_rest (.of_onlyEntry (State.modRecord_onlyEntry _ i _)) rfl rfl rfl rfl
  · exact .of_onlyEntry (s.modRecord_onlyEntry i _)

/-- R120: a cancellation takes no slot. -/
theorem Ev.cancelJob_keepsPanels : e.s.KeepsPanels (e.cancelJob i).s := by
  unfold Ev.cancelJob
  split
  · exact .refl _
  · have freed : e.s.KeepsPanels (e.s.freeOwnClaims i) := by
      refine .of_free (State.freeOwnClaims_panels ..) (State.freeOwnClaims_shared ..)
        (congrArg _ (State.freeOwnClaims_posture ..)) fun k hf => ?_
      rw [State.slot_freeOwnClaims, hf]
      rfl
    exact (freed.trans (.of_onlyEntry (State.checkCurrency_onlyEntry _ i))).trans (.of_rest rfl rfl rfl rfl)

/-- R65: a retirement stages removals on LIVE slots alone. -/
theorem Ev.retire_keepsPanels : e.s.KeepsPanels (e.retire i).s := by
  have withdrawn : e.s.KeepsPanels (e.withdrawn i) :=
    (State.withdrawRecord_keepsPanels i e.s).trans (Ev.cancelJob_keepsPanels (e.mod fun s => s.withdrawRecord i) i)
  have staged : (e.withdrawn i).KeepsPanels ((e.withdrawn i).stageRemovals i) := by
    refine .of_free (State.stageRemovals_panels ..) (State.stageRemovals_shared ..)
      (congrArg _ (State.stageRemovals_posture ..)) fun k hf => ?_
    rw [State.slot_stageRemovals, hf]
    rfl
  exact (withdrawn.trans staged).trans (.of_onlyEntry (e.retire_onlyEntry i))

end

/-! ### Requests of the records -/

section
variable (s : State)

/-- A request that rewrites a record and re-resolves it. -/
theorem State.rewrite_keepsPanels (i : Fin 40) (r : Record) (payload : State → List Byte) :
    s.KeepsPanels (((Ev.start (s.setEntry i (.used r))).reresolve i).reply payload).1 :=
  .after_rest ((Ev.reresolve_keepsPanels _ i).trans (Ev.done_keepsPanels _)) rfl rfl rfl rfl

theorem ownCreateSurface_keepsPanels (cls owner : Half) (home z flags : Byte) (fill : Word) (buffer : Option Descriptor) :
    s.KeepsPanels (ownCreateSurface cls owner home z flags fill buffer s).1 := by
  unfold ownCreateSurface
  split
  · exact .refl s
  · split
    · exact .refl s
    · split
      · exact .refl s
      · have counted : s.KeepsPanels (if buffer.isSome then s.countOffer else s) := .ite fun _ => .of_rest rfl rfl rfl rfl
        exact counted.trans (State.rewrite_keepsPanels _ _ _ _)

theorem ownOfferBuffer_keepsPanels (h : HandleField) (d : Descriptor) : s.KeepsPanels (ownOfferBuffer h d s).1 := by
  unfold ownOfferBuffer
  split
  · exact .refl s
  · split
    · exact .refl s
    · split
      · exact .refl s
      · simp only
        split
        · exact .refl s
        · exact .after_rest ((Ev.offer_keepsPanels (Ev.start s.countOffer) _ _ _ _).trans
            (Ev.done_keepsPanels _)) rfl rfl rfl rfl

theorem ownAmendSurface_keepsPanels (h : HandleField) (presence z home : Byte) (cls owner : Half) (flags : Byte)
    (fill : Word) : s.KeepsPanels (ownAmendSurface h presence z home cls owner flags fill s).1 := by
  unfold ownAmendSurface
  split
  · exact .refl s
  · next i r _ =>
    split
    · exact .after_rest ((Ev.amended_keepsPanels (Ev.start (s.setEntry i _)) i r _).trans
        (Ev.done_keepsPanels _)) rfl rfl rfl rfl
    · exact .refl s

theorem ownSetVariant_keepsPanels (h : HandleField) (postures target fallback : Byte) (rect : Option RectField) :
    s.KeepsPanels (ownSetVariant h postures target fallback rect s).1 := by
  unfold ownSetVariant
  split
  · exact .refl s
  · split
    · split
      · exact .refl s
      · simp only
        split
        · exact .refl s
        · exact s.rewrite_keepsPanels _ _ _
    · exact .refl s

theorem ownClearVariants_keepsPanels (h : HandleField) : s.KeepsPanels (ownClearVariants h s).1 := by
  unfold ownClearVariants
  split
  · exact .refl s
  · split
    · exact .refl s
    · exact s.rewrite_keepsPanels _ _ _

theorem ownMoveSurface_keepsPanels (h : HandleField) (target : Byte) (rect : Option RectField) :
    s.KeepsPanels (ownMoveSurface h target rect s).1 := by
  unfold ownMoveSurface
  split
  · exact .refl s
  · split
    · exact .refl s
    · exact s.rewrite_keepsPanels _ _ _

theorem State.focusOn_keepsPanels (new : Option Handle) : s.KeepsPanels (s.focusOn new).1 := by
  unfold State.focusOn
  split
  · exact .refl s
  · exact ((Ev.start s).changeFocus_keepsPanels new).trans (Ev.done_keepsPanels _)

theorem ownSetFocus_keepsPanels (h : HandleField) : s.KeepsPanels (ownSetFocus h s).1 := by
  unfold ownSetFocus
  split
  · exact s.focusOn_keepsPanels none
  · split
    · exact .refl s
    · exact s.focusOn_keepsPanels _

theorem ownRetireSurface_keepsPanels (h : HandleField) : s.KeepsPanels (ownRetireSurface h s).1 := by
  unfold ownRetireSurface
  split
  · exact .refl s
  · exact ((Ev.start s).retire_keepsPanels _).trans (Ev.done_keepsPanels _)

theorem ownRetireOwner_keepsPanels (owner : Half) : s.KeepsPanels (ownRetireOwner owner s).1 :=
  (Ev.foldl_keepsPanels Ev.retire (fun e i => e.retire_keepsPanels i) (s.ownedRecords owner) (Ev.start s)).trans
    (Ev.done_keepsPanels _)

theorem ownWriteRule_keepsPanels (index : Byte) (f : RuleField) : s.KeepsPanels (ownWriteRule index f s).1 := by
  unfold ownWriteRule
  split
  · split
    · exact .refl s
    · next r _ =>
      have resolved (u : State) : u.KeepsPanels (Ev.start u).reresolveAll.s :=
        .of_steady (Ev.start u).reresolveAll_steady (Ev.start u).reresolveAll_frame.blocks.posture
      exact .after_rest ((resolved { s with rules := s.rules.set index.toNat r }).trans (Ev.done_keepsPanels _)) rfl rfl rfl rfl
  · exact .refl s

/-- R68, R171: READ_NOTICES has no part in the panels and the slot bank. -/
theorem ownReadNotices_keepsPanels : s.KeepsPanels (ownReadNotices s).1 := by
  rw [ownReadNotices_eq, s.noticed_eq]
  exact .of_rest rfl rfl rfl rfl

end
end Sys2Proof.Machine
end

section
/-! SUPPORT. The three properties of the panels through the requests of the hinge, the posture and the panels, and after every
command. -/

namespace Sys2Proof.Machine

/-! ### Requests of the hinge and the posture -/

theorem Classifier.inputDisabled_join (c : Classifier) (b : Bool) : (c.inputDisabled b).join = c.join := by cases b <;> rfl

section
variable (s : State)

/-- R32: a plan change, whatever the classifier's settings became. -/
theorem State.planChange_keepsPanels (c : Classifier) : s.KeepsPanels (Ev.start { s with posture := c }).planChange.done := by
  have planned : s.KeepsPanels (Ev.start { s with posture := c }).planChange.s := Ev.applyPlan_keepsPanels _ rfl rfl rfl
  exact planned.trans (Ev.done_keepsPanels _)

theorem ownHingeEnable_keepsPanels (value : Byte) : s.KeepsPanels (ownHingeEnable value s).1 := by
  unfold ownHingeEnable
  split
  · exact .refl s
  · simp only
    split
    · refine State.KeepsPanels.trans ?_ (Ev.done_keepsPanels _)
      refine State.KeepsPanels.trans ?_ (Ev.foldCheck_keepsPanels _)
      exact .of_rest rfl rfl rfl rfl
    · rw [Ev.disableInput_start]
      refine State.KeepsPanels.trans ?_ (Ev.done_keepsPanels _)
      exact .of_rest rfl rfl rfl (Classifier.inputDisabled_join ..)
    · exact .refl s

theorem ownSetSwitch_keepsPanels (use : Byte) (limit : Half) : s.KeepsPanels (ownSetSwitch use limit s).1 := by
  unfold ownSetSwitch
  split
  · exact .refl s
  · refine State.KeepsPanels.trans ?_ (Ev.done_keepsPanels _)
    split
    · exact .after_rest (Ev.foldCheck_keepsPanels ((Ev.start s).modPosture _)) rfl rfl rfl rfl
    · exact .of_rest rfl rfl rfl rfl

theorem ownForcePosture_keepsPanels (code : Byte) : s.KeepsPanels (ownForcePosture code s).1 := by
  unfold ownForcePosture
  split
  · exact .refl s
  · split
    · exact ((Ev.start s).commit_keepsPanels _).trans (Ev.done_keepsPanels _)
    · exact .refl s

theorem ownSetFront_keepsPanels (value : Byte) : s.KeepsPanels (ownSetFront value s).1 := by
  unfold ownSetFront
  split
  · exact .refl s
  · split
    · exact .refl s
    · exact s.planChange_keepsPanels _

theorem ownSetSpan_keepsPanels (value : Byte) : s.KeepsPanels (ownSetSpan value s).1 := by
  unfold ownSetSpan
  split
  · exact .refl s
  · split
    · exact .refl s
    · exact s.planChange_keepsPanels _

end

/-! ### Requests of the panels -/

section
variable (s : State)

theorem ownSetPanelGeometry_keepsPanels (w h g : Half) : s.KeepsPanels (ownSetPanelGeometry w h g s).1 := by
  have sized : s.KeepsPanels { s with shared := { s.shared with width := w.toNat, height := h.toNat, seam := g.toNat } } :=
    ⟨fun ok => ⟨ok.service, ok.lent⟩, id, id⟩
  unfold ownSetPanelGeometry
  split
  · split
    · exact sized.trans (Ev.done_keepsPanels { Ev.start _ with resolveAll := _ })
    · exact .refl s
  · exact .refl s

/-- R134: a refresh value is pending within its range. -/
theorem State.pendRefresh_keepsPanels (p : PanelId) {a l : Nat} (ha : 8000 ≤ a ∧ a ≤ 32000)
    (hl : 500 ≤ l ∧ l ≤ 4000) :
    s.KeepsPanels (s.pendRefresh p a l) := by
  have own : s.KeepsPanels (s.modPanel p fun x => { x with pendPeriod := some a, pendLead := some l }) :=
    s.modPanel_keepsPanels p id fun ok => { ok with
      pendPeriod := fun n hn => Option.some.inj hn ▸ ha
      pendLead := fun n hn => Option.some.inj hn ▸ hl }
  have other (u : State) : u.KeepsPanels (u.modPanel (otherPanel p) fun x => { x with pendPeriod := some a }) :=
    u.modPanel_keepsPanels _ id fun ok => { ok with pendPeriod := fun n hn => Option.some.inj hn ▸ ha }
  simp only [State.pendRefresh]
  split
  · exact own.trans (other _)
  · exact own

theorem ownSetRefresh_keepsPanels (panel : Byte) (period lead : Half) :
    s.KeepsPanels (ownSetRefresh panel period lead s).1 := by
  unfold ownSetRefresh
  split
  · exact .refl s
  · exact s.pendRefresh_keepsPanels _ ⟨le_clamp .., clamp_le (by decide) _⟩ ⟨le_clamp .., clamp_le (by decide) _⟩

/-- R145: the power timings have no part in the slots and in joined mode. -/
theorem ownSetPowerTiming_keepsPanels (rail rst train down off quiet : Half) :
    s.KeepsPanels (ownSetPowerTiming rail rst train down off quiet s).1 :=
  ⟨fun ok => ⟨ok.service, ok.lent⟩, id, id⟩

theorem ownPanelEnable_keepsPanels (panel value : Byte) : s.KeepsPanels (ownPanelEnable panel value s).1 := by
  unfold ownPanelEnable
  split
  · exact ((Ev.start s).setEnable_keepsPanels _ _).trans (Ev.done_keepsPanels _)
  · exact .refl s

/-- R143: only FREE slots change hands. -/
theorem State.setLending_keepsPanels {l : PanelId} {n : Nat} (hn : lendCountOk n = true) (hf : s.lendingFree l n = true) :
    s.KeepsPanels { s with shared := { s.shared with lender := l, lent := n } } where
  slots ok := by
    refine ⟨fun k used => ?_, by simpa [lendCountOk, or_assoc] using hn⟩
    have kept : usingPanel l n k = s.user k := by
      by_contra moved
      exact LayerSlot.isFree_eq_false_iff.1 used (State.lendingFree_iff.1 hf k moved)
    exact (congrArg (fun q => (s.panel q).inService) kept).trans (ok.service k used)
  joined := id
  ranges := id

theorem ownSetLending_keepsPanels (lender count : Byte) : s.KeepsPanels (ownSetLending lender count s).1 := by
  unfold ownSetLending
  split
  · exact .refl s
  · split
    · next hn =>
      split
      · exact .refl s
      · split
        · next hf => exact (s.setLending_keepsPanels hn hf).trans (Ev.done_keepsPanels { Ev.start _ with walk := true })
        · exact .refl s
    · exact .refl s

theorem ownReadPanel_keepsPanels (panel : Byte) : s.KeepsPanels (ownReadPanel panel s).1 := by
  unfold ownReadPanel
  split
  · exact .refl s
  · next p _ => exact s.setPanel_keepsPanels p (x := { s.panel p with fault := .empty }) id fun ok => { ok with }

/-- R160: a panel whose attempts are cleared may run its quiet timer. -/
theorem ownPanelRecover_keepsPanels (panel : Byte) : s.KeepsPanels (ownPanelRecover panel s).1 := by
  unfold ownPanelRecover
  split
  · exact .refl s
  · next p _ =>
    simp only
    split
    · next h =>
      have dark : (s.panel p).inService = false := by rw [Panel.inService, Panel.isOffline_iff.1 h]
      refine State.KeepsPanels.trans ?_ (Ev.done_keepsPanels _)
      exact Ev.leaveOffline_keepsPanels p dark fun ok =>
        { ok with effective := nofun, attempts := Nat.zero_le 3, quiet := nofun }
    · exact s.setPanel_keepsPanels p (x := { s.panel p with attempts := 0 }) id fun ok =>
        { ok with attempts := Nat.zero_le 3, quiet := fun _ => Nat.zero_lt_succ 2 }

/-- R161: the quiet timer that a change of recovery mode starts has attempts left. -/
theorem ownSetRecoveryMode_keepsPanels (panel recovery capture : Byte) :
    s.KeepsPanels (ownSetRecoveryMode panel recovery capture s).1 := by
  unfold ownSetRecoveryMode
  split
  · next p r c _ _ _ =>
    refine s.setPanel_keepsPanels p (x := { s.panel p with
      recovery := r, capture := c, quietTimer := s.quietAfter (s.panel p) r }) id fun ok => { ok with quiet := fun h => ?_ }
    have running : (s.quietAfter (s.panel p) r).isSome = true := h
    unfold State.quietAfter at running
    split at running
    · unfold State.quietFor at running
      split at running
      · next hq => exact hq.2
      · cases running
    · exact ok.quiet running
  · exact .refl s

end

/-! ### Timers, acknowledgements and resets -/

/-- A request keeps the properties if its owner does. -/
theorem State.runRequest_keepsPanels {owner : State → State × Reply} (h : ∀ u : State, u.KeepsPanels (owner u).1)
    (s : State) (c : Instr) : s.KeepsPanels (s.runRequest c owner) := by
  by_cases ht : s.turn c
  · rw [State.runRequest_turn ht]
    have handed : s.KeepsPanels (s.handed c) :=
      .of_rest (State.handed_panels ..) (State.handed_shared ..) (State.handed_slots ..)
        (congrArg Classifier.join (State.handed_posture ..))
    exact (handed.trans (h _)).trans (.of_rest rfl rfl rfl rfl)
  · rw [State.runRequest_busy ht, State.discard_eq]
    exact .ite_not (.of_rest rfl rfl rfl rfl)

/-- What the event of an expiry keeps from the moment of its timer. -/
theorem State.atTimer_keepsPanels {s : State} {f : State → State} (t : Timer)
    (h : ∀ us, (s.elapse us).KeepsPanels (f (s.elapse us))) : s.KeepsPanels (s.atTimer t f) := by
  cases t with
  | none => exact .refl s
  | some t => exact (s.elapse_keepsPanels _).trans (h _)

section
variable (s : State) (p : PanelId)

/-- R125: the stages of a power-up are out of service. -/
theorem State.stageEnd_keepsPanels {st next : PowerStage} (length : Shared → Nat) :
    s.KeepsPanels (if (s.panel p).mode = .poweringUp st then s.atTimer (s.panel p).seqTimer fun s => s.modPanel p fun x =>
        { x with mode := .poweringUp next, seqTimer := some (s.after (length s.shared)) }
      else s) := by
  refine .ite fun hm => State.atTimer_keepsPanels _ fun us => ?_
  have dark : ((s.elapse us).panel p).inService = false := by
    rw [State.panel_elapse, Panel.elapse_inService]
    exact Panel.dark_of_poweringUp hm
  exact (s.elapse us).setPanel_keepsPanels p (x := { (s.elapse us).panel p with
    mode := .poweringUp next, seqTimer := some ((s.elapse us).after (length s.shared)) })
    (fun h => by cases dark.symm.trans h) fun ok => ok.leave rfl _ _

/-- R128: a power-down ends out of service. -/
theorem State.powerDownEnd_keepsPanels (hm : (s.panel p).mode = .poweringDown) :
    s.KeepsPanels (s.atTimer (s.panel p).seqTimer fun s =>
      (s.modPanel p fun x => { x with seqTimer := none, offTimer := s.timerFor s.shared.tOff }).enterOff p) := by
  refine State.atTimer_keepsPanels _ fun us => ?_
  have dark : ((s.elapse us).panel p).inService = false := by
    rw [State.panel_elapse, Panel.elapse_inService]
    exact Panel.dark_of_poweringDown hm
  rw [State.enterOff, State.modPanel_modPanel]
  have off : (s.elapse us).KeepsPanels ((s.elapse us).setPanel p { (s.elapse us).panel p with
      mode := .off, seqTimer := none, offTimer := (s.elapse us).timerFor s.shared.tOff }) :=
    (s.elapse us).setPanel_keepsPanels p (fun h => by cases dark.symm.trans h) fun ok => ok.leave rfl _ _
  exact off.trans (State.checkPowerUp_keepsPanels p _)

/-- R124: the end of an off-time. -/
theorem State.offTimeEnd_keepsPanels : s.KeepsPanels (s.atTimer (s.panel p).offTimer fun s =>
    (s.modPanel p fun x => { x with offTimer := none }).checkPowerUp p) := by
  refine State.atTimer_keepsPanels _ fun us => ?_
  have ended : (s.elapse us).KeepsPanels ((s.elapse us).modPanel p fun x => { x with offTimer := none }) :=
    State.modPanel_keepsPanels _ p id fun ok => { ok with }
  exact ended.trans (State.checkPowerUp_keepsPanels p _)

/-- R157: an attempt is counted while some are left, which a running quiet timer says. -/
theorem exec_quietExpiry_keepsPanels : ∃ t, exec (.quietExpiry p) s = .next t ∧ s.KeepsPanels t := by
  by_cases hm : (s.panel p).mode = .offline
  · cases ht : (s.panel p).quietTimer with
    | none => exact ⟨s, quietExpiry_stopped (.inr ht), .refl s⟩
    | some t =>
      refine ⟨_, quietExpiry_answers hm ht, ?_⟩
      have dark : (s.panel p).inService = false := by rw [Panel.inService, hm]
      have same : (s.elapse (t - s.now)).panel p = s.panel p := State.panel_elapse_dark dark _
      refine ((s.elapse_keepsPanels (t - s.now)).trans ?_).trans (Ev.done_keepsPanels _)
      refine Ev.leaveOffline_keepsPanels p (same ▸ dark) fun ok => ?_
      rw [same] at ok
      exact { ok with effective := nofun, attempts := ok.quiet (by rw [ht]; rfl), quiet := nofun }
  · exact ⟨s, quietExpiry_stopped (.inl hm), .refl s⟩

/-- R159: the attempts are cleared. -/
theorem State.stabilityEnd_keepsPanels : s.KeepsPanels (s.atTimer (s.panel p).stableTimer fun s =>
    s.modPanel p fun x => { x with stableTimer := none, attempts := 0 }) :=
  State.atTimer_keepsPanels _ fun _ => State.setPanel_keepsPanels _ p id fun ok =>
    { ok with attempts := Nat.zero_le 3, quiet := fun _ => Nat.zero_lt_succ 2 }

theorem State.trainOk_keepsPanels : s.KeepsPanels (s.trainOk p) :=
  .ite fun _ => (Ev.enterOn_keepsPanels (Ev.start s) p).trans (Ev.done_keepsPanels _)

/-- R150: an acknowledgement leaves the health counter in its range. -/
theorem State.settleAck_keepsPanels {f : Panel → Panel} (hs : ∀ x, (f x).inService = x.inService)
    (hr : ∀ x : Panel, x.Ok → { f x with ackOwed := false }.Ok) : s.KeepsPanels (s.settleAck p f) := by
  refine .ite fun _ => ?_
  have settled : s.KeepsPanels (s.modPanel p fun x => { f x with ackOwed := false }) :=
    s.modPanel_keepsPanels p (fun h => (hs _).trans h) (hr _)
  refine (settled.trans ?_).trans (Ev.done_keepsPanels _)
  exact Ev.checkHealth_keepsPanels ((Ev.start s).modPanel p fun x => { f x with ackOwed := false }) p

theorem State.ackGood_keepsPanels : s.KeepsPanels (s.ackGood p) :=
  s.settleAck_keepsPanels p (fun _ => rfl) fun _ ok => { ok with health := (Nat.sub_le _ 1).trans ok.health }

theorem State.ackBad_keepsPanels : s.KeepsPanels (s.ackBad p) :=
  s.settleAck_keepsPanels p (fun _ => rfl) fun _ ok => { ok with health := Nat.min_le_left _ _ }

/-- R186: whether the path is held has no part in the properties. -/
theorem State.holdPath_keepsPanels (held : Bool) : s.KeepsPanels (s.modPanel p fun x => { x with pathHeld := held }) :=
  s.modPanel_keepsPanels p id fun ok => { ok with }

theorem State.ackByte_keepsPanels (code : Byte) (stop : Bool) : s.KeepsPanels (s.ackByte p code stop) := by
  unfold State.ackByte
  split
  · split
    · exact s.trainOk_keepsPanels p
    · split
      · exact s.ackGood_keepsPanels p
      · exact s.ackBad_keepsPanels p
  · exact (s.holdPath_keepsPanels p true).trans (State.ackBad_keepsPanels _ p)

/-- R133: a staged configuration that becomes due takes no slot. -/
theorem State.cutoff_keepsPanels : s.KeepsPanels (s.cutoff p) := by
  have reached : s.KeepsPanels (s.modPanel p fun x => { x with cutoffDone := true }) :=
    s.modPanel_keepsPanels p id fun ok => { ok with }
  refine reached.trans (.of_free rfl rfl rfl fun k hf => ?_)
  rw [State.slot_cutoff, show s.slot k = .free from hf]
  exact ite_self _

/-- R149: a soft reset adopts the pending values. -/
theorem State.beginSoftReset_keepsPanels : s.KeepsPanels s.beginSoftReset := by
  refine .of_reset s.beginSoftReset_slot (.inl rfl) rfl fun ok q => ?_
  rw [State.beginSoftReset_panel]
  exact { Panel.powerOn_ok with
    period := (ok q).getD_period
    lead := (ok q).getD_lead
    effective := nofun
    quiet := nofun }

theorem State.powerOn_keepsPanels (now : Nat) (raw : Bool) (waiting : List Instr) : s.KeepsPanels (.powerOn now raw waiting) :=
  .of_reset (fun k => State.powerOn_slot ..) (.inr rfl) rfl fun _ q => by
    rw [State.powerOn_panel]
    exact Panel.powerOn_ok

theorem State.discard_keepsPanels : s.KeepsPanels s.discard := .ite_not (.of_rest rfl rfl rfl rfl)

end

/-! ### Every command -/

theorem exec_keepsPanels (c : Instr) (s : State) : ∃ t, exec c s = .next t ∧ s.KeepsPanels t := by
  have owned {owner : State → State × Reply} (h : ∀ u : State, u.KeepsPanels (owner u).1) :
      s.KeepsPanels (s.runRequest c owner) := State.runRequest_keepsPanels h s c
  have ended (u : State) (e : Ev) (h : u.KeepsPanels e.s) : u.KeepsPanels e.done := h.trans e.done_keepsPanels
  cases c
  case writeTransaction bytes n =>
    have taken : s.KeepsPanels (s.takeFrame (judge bytes n)) := by
      unfold State.takeFrame
      split
      · exact .of_rest rfl rfl rfl rfl
      · exact s.beginSoftReset_keepsPanels
      · exact .of_rest rfl rfl rfl rfl
    refine ⟨_, rfl, ?_⟩
    split
    · exact taken
    · exact taken
    · exact s.discard_keepsPanels
    · exact s.discard_keepsPanels
  case readTransaction busy n =>
    refine ⟨_, rfl, .ite_not ?_⟩
    simp only [State.read, State.deliver]
    split
    · split <;> exact .of_rest rfl rfl rfl rfl
    · exact .of_rest rfl rfl rfl rfl
  case ignoredTransaction => exact ⟨_, rfl, .of_rest rfl rfl rfl rfl⟩
  case powerOnReset =>
    exact ⟨_, rfl, (s.powerOn_keepsPanels s.now s.posture.rawLevel s.pending).trans (.of_rest rfl rfl rfl rfl)⟩
  case powerOnResetEnd => exact ⟨_, rfl, .ite fun _ => s.powerOn_keepsPanels _ _ _⟩
  case softResetEnd => exact ⟨_, rfl, .ite fun _ => .of_rest rfl rfl rfl rfl⟩
  case reset =>
    refine ⟨_, rfl, ?_⟩
    unfold State.resetRequest
    split
    · exact s.beginSoftReset_keepsPanels
    · exact s.beginSoftReset_keepsPanels
    · exact s.discard_keepsPanels
    · exact s.discard_keepsPanels
  case lineIdle => exact ⟨_, rfl, .ite fun _ => .of_rest rfl rfl rfl rfl⟩
  case frameArrival r => exact ⟨_, rfl, .ite fun _ => s.receive_keepsPanels r⟩
  case cellTimeout =>
    refine ⟨_, rfl, .ite fun _ => ?_⟩
    split
    · next t _ _ => exact (s.elapse_keepsPanels _).trans ((s.reach t).receive_keepsPanels _)
    · exact .refl s
  case silentExpiry =>
    refine ⟨_, rfl, ?_⟩
    split
    · exact .refl s
    · next t _ =>
      refine (s.elapse_keepsPanels (t - s.now)).trans (ended _ _ (State.KeepsPanels.trans ?_ (Ev.badEvent_keepsPanels _ _)))
      exact .of_rest rfl rfl rfl rfl
  case hsnsCell n =>
    refine ⟨_, rfl, .ite fun _ => ?_⟩
    split
    · exact .refl s
    · split
      · exact s.receive_keepsPanels _
      · exact .of_rest rfl rfl rfl rfl
    · exact s.frameCell_keepsPanels _ _
  case dwellExpiry =>
    refine ⟨_, rfl, ?_⟩
    split
    · next t _ => exact (s.elapse_keepsPanels _).trans (ended _ _ (Ev.dwellEnd_keepsPanels (Ev.start (s.reach t))))
    · exact .refl s
  case foldEdge level =>
    refine ⟨_, rfl, ?_⟩
    split
    · exact .refl s
    · split <;> exact .of_rest rfl rfl rfl rfl
  case debounceExpiry =>
    refine ⟨_, rfl, ?_⟩
    split
    · exact .refl s
    · next t _ =>
      exact (s.elapse_keepsPanels _).trans (ended (s.reach t) _ (.after_rest (Ev.takeLevel_keepsPanels
        ((Ev.start (s.reach t)).modPosture fun c => { c with debounceTimer := none })) rfl rfl rfl rfl))
  case deadlineExpiry i =>
    refine ⟨_, rfl, ?_⟩
    split
    · exact .refl s
    · next t _ =>
      have waited : (s.reach t).KeepsPanels ((Ev.start (s.reach t)).expireWait i).s :=
        .of_steady (Ev.expireWait_steady (Ev.start (s.reach t)) i) (Ev.expireWait_frame (Ev.start (s.reach t)) i).blocks.posture
      exact (s.elapse_keepsPanels _).trans (ended _ _ (waited.trans (Ev.examine_keepsPanels _ i)))
  case readHinge | readPosture | readQueue | readStatus | setNoticeThreshold | setFilter =>
    exact ⟨_, rfl, owned fun _ => .of_rest rfl rfl rfl rfl⟩
  case hingeEnable => exact ⟨_, rfl, owned fun u => ownHingeEnable_keepsPanels u _⟩
  case setCalibration =>
    exact ⟨_, rfl, owned fun u => by unfold ownSetCalibration; split <;> exact .of_rest rfl rfl rfl rfl⟩
  case setBands => exact ⟨_, rfl, owned fun u => by unfold ownSetBands; split <;> exact .of_rest rfl rfl rfl rfl⟩
  case setSwitch => exact ⟨_, rfl, owned fun u => ownSetSwitch_keepsPanels u _ _⟩
  case forcePosture => exact ⟨_, rfl, owned fun u => ownForcePosture_keepsPanels u _⟩
  case setFront => exact ⟨_, rfl, owned fun u => ownSetFront_keepsPanels u _⟩
  case setSpan => exact ⟨_, rfl, owned fun u => ownSetSpan_keepsPanels u _⟩
  case createSurface => exact ⟨_, rfl, owned fun u => ownCreateSurface_keepsPanels u _ _ _ _ _ _ _⟩
  case offerBuffer => exact ⟨_, rfl, owned fun u => ownOfferBuffer_keepsPanels u _ _⟩
  case amendSurface => exact ⟨_, rfl, owned fun u => ownAmendSurface_keepsPanels u _ _ _ _ _ _ _ _⟩
  case setVariant => exact ⟨_, rfl, owned fun u => ownSetVariant_keepsPanels u _ _ _ _ _⟩
  case clearVariants => exact ⟨_, rfl, owned fun u => ownClearVariants_keepsPanels u _⟩
  case setFocus => exact ⟨_, rfl, owned fun u => ownSetFocus_keepsPanels u _⟩
  case lookupSurface => exact ⟨_, rfl, owned fun u => by unfold ownLookupSurface; split <;> exact .refl u⟩
  case findSurfaces =>
    exact ⟨_, rfl, owned fun u => by unfold ownFindSurfaces; split; exact .refl u; split <;> exact .refl u⟩
  case retireSurface => exact ⟨_, rfl, owned fun u => ownRetireSurface_keepsPanels u _⟩
  case retireOwner => exact ⟨_, rfl, owned fun u => ownRetireOwner_keepsPanels u _⟩
  case writeRule => exact ⟨_, rfl, owned fun u => ownWriteRule_keepsPanels u _ _⟩
  case readRule =>
    exact ⟨_, rfl, owned fun u => by unfold ownReadRule; split; exact .refl u; split <;> exact .refl u⟩
  case moveSurface => exact ⟨_, rfl, owned fun u => ownMoveSurface_keepsPanels u _ _ _⟩
  case setPanelGeometry => exact ⟨_, rfl, owned fun u => ownSetPanelGeometry_keepsPanels u _ _ _⟩
  case setRefresh => exact ⟨_, rfl, owned fun u => ownSetRefresh_keepsPanels u _ _ _⟩
  case setPowerTiming => exact ⟨_, rfl, owned fun u => ownSetPowerTiming_keepsPanels u _ _ _ _ _ _⟩
  case setLending => exact ⟨_, rfl, owned fun u => ownSetLending_keepsPanels u _ _⟩
  case panelEnable => exact ⟨_, rfl, owned fun u => ownPanelEnable_keepsPanels u _ _⟩
  case readPanel => exact ⟨_, rfl, owned fun u => ownReadPanel_keepsPanels u _⟩
  case panelRecover => exact ⟨_, rfl, owned fun u => ownPanelRecover_keepsPanels u _⟩
  case setRecoveryMode => exact ⟨_, rfl, owned fun u => ownSetRecoveryMode_keepsPanels u _ _ _⟩
  case ackAttention => exact ⟨_, rfl, owned fun u => by unfold ownAckAttention; split <;> exact .of_rest rfl rfl rfl rfl⟩
  case attnEnable => exact ⟨_, rfl, owned fun u => by unfold ownAttnEnable; split <;> exact .of_rest rfl rfl rfl rfl⟩
  case attnDisable => exact ⟨_, rfl, owned fun u => by unfold ownAttnDisable; split <;> exact .of_rest rfl rfl rfl rfl⟩
  case readNotices => exact ⟨_, rfl, owned ownReadNotices_keepsPanels⟩
  case offTimeExpiry p => exact ⟨_, rfl, s.offTimeEnd_keepsPanels p⟩
  case railStageEnd p => exact ⟨_, rfl, s.stageEnd_keepsPanels p Shared.tRst⟩
  case resetStageEnd p => exact ⟨_, rfl, s.stageEnd_keepsPanels p Shared.tTrain⟩
  case trainingExpiry p =>
    exact ⟨_, rfl, .ite fun _ => State.atTimer_keepsPanels _ fun _ => ended _ _ (Ev.goOffline_keepsPanels (Ev.start _) p _)⟩
  case powerDownEnd p => exact ⟨_, rfl, .ite (s.powerDownEnd_keepsPanels p)⟩
  case trainOk p => exact ⟨_, rfl, .ite fun _ => s.trainOk_keepsPanels p⟩
  case frameOk p => exact ⟨_, rfl, .ite fun _ => s.ackGood_keepsPanels p⟩
  case frameBad p => exact ⟨_, rfl, .ite fun _ => s.ackBad_keepsPanels p⟩
  case unknownAckCode p code stop => exact ⟨_, rfl, .ite fun _ => s.ackByte_keepsPanels p code stop⟩
  case ackPathIdle p => exact ⟨_, rfl, s.holdPath_keepsPanels p false⟩
  case frameStart p =>
    exact ⟨_, rfl, .ite fun _ => (s.elapse_keepsPanels _).trans (ended _ _ (Ev.frameStart_keepsPanels (Ev.start _) p))⟩
  case stagingCutoff p => exact ⟨_, rfl, .ite fun _ => (s.elapse_keepsPanels _).trans (State.cutoff_keepsPanels _ p)⟩
  case quietExpiry p => exact exec_quietExpiry_keepsPanels s p
  case stabilityExpiry p => exact ⟨_, rfl, s.stabilityEnd_keepsPanels p⟩

/-! ### The obligations -/

/-- What goes over wherever the three properties do, every step keeps. -/
theorem keptByStep_of_keepsPanels {P : State → Prop}
    (kept : ∀ {s t : State}, s.KeepsPanels t → P s → P t) : KeptByStep P :=
  keptByStep_of_exec (fun _ _ => kept (.of_rest rfl rfl rfl rfl)) (fun s => kept (s.elapse_keepsPanels 1)) fun c s ok => by
    obtain ⟨t, ht, panels⟩ := exec_keepsPanels c s
    exact ⟨t, ht, kept panels ok⟩

/-- Settles O11: each command keeps it, by `exec_keepsPanels`. -/
theorem slotsKept : Obligations.SlotsKept := keptByStep_of_keepsPanels State.KeepsPanels.slots

/-- Settles O13: each command keeps it, by `exec_keepsPanels`. -/
theorem joinedKept : Obligations.JoinedKept := keptByStep_of_keepsPanels State.KeepsPanels.joined

/-- Settles O14: each command keeps it, by `exec_keepsPanels`. -/
theorem panelRangesKept : Obligations.PanelRangesKept := keptByStep_of_keepsPanels State.KeepsPanels.ranges

end Sys2Proof.Machine
end

section
/-! SUPPORT. The requests of the Panel Controllers that report and set: READ_PANEL (R147, R156), SET_REFRESH (R134),
SET_POWER_TIMING (R145) and SET_RECOVERY_MODE (R161). -/

namespace Sys2Proof.Machine

/-! ### A change of a panel and the frame taken -/

/-- A change of a panel is answered alike before and after the frame is taken. -/
theorem State.handed_modPanel_answered (s : State) (c : Instr) (p : PanelId) (f : Panel → Panel) (st : Status)
    (payload : List Byte) : ((s.handed c).modPanel p f).answered st payload = (s.modPanel p f).answered st payload := by
  rw [State.modPanel, State.handed_setPanel_answered, State.handed_panel]
  rfl

/-- So are two such changes in a row. -/
theorem State.handed_modPanel_modPanel_answered (s : State) (c : Instr) (p q : PanelId) (f g : Panel → Panel) (st : Status)
    (payload : List Byte) : (((s.handed c).modPanel p f).modPanel q g).answered st payload =
      ((s.modPanel p f).modPanel q g).answered st payload := by
  rw [State.handed_eq]
  exact ((s.modPanel p f).modPanel q g).answered_link _ (s.handed_reset c) (s.handed_sdo c) st payload

/-! ### READ_PANEL -/

/-- R147: a stack entry by the slot's owner and configuration. -/
theorem State.stackEntry_eq (s : State) (k : Fin 16) : s.stackEntry k =
    (s.slot k).cfg?.elim [] fun c => [byteOf k.val] ++ ((s.slot k).owner?.elim [] Handle.bytes) ++ c.dest.bytes ++
      [c.fetch.code, c.z, bitByte c.focus] := by
  unfold State.stackEntry
  cases s.slot k <;> rfl

/-- What READ_PANEL reports does not read the link. -/
theorem State.handed_panelReport (s : State) (c : Instr) (p : PanelId) : (s.handed c).panelReport p = s.panelReport p := by
  rw [State.handed_eq]
  rfl

/-- Settles O27: the owner reports the panel as it stands and then empties its fault cause. -/
theorem readPanelReports : Obligations.ReadPanelReports := by
  intro s b ht
  refine ⟨?_, fun h => answers_refused ht rfl ?_⟩
  · rintro p rfl
    have own : ownReadPanel (panelCode p) (s.handed (.readPanel (panelCode p))) =
        report ((s.handed (.readPanel (panelCode p))).modPanel p fun x => { x with fault := .empty }) (s.panelReport p) := by
      simp only [ownReadPanel, panelOfByte_code, State.handed_panelReport]
    have answers := answers_of_owner ht rfl own
    rw [State.handed_modPanel_answered, State.panelReport, funext s.stackEntry_eq] at answers
    exact answers
  · simp only [ownReadPanel, panelOfByte_none h]

/-! ### SET_REFRESH -/

/-- R134: the pending values are answered alike before and after the frame is taken. -/
theorem State.handed_pendRefresh_answered (s : State) (c : Instr) (p : PanelId) (period lead : Nat) (st : Status)
    (payload : List Byte) :
    ((s.handed c).pendRefresh p period lead).answered st payload = (s.pendRefresh p period lead).answered st payload := by
  simp only [State.pendRefresh, State.handed_shared]
  split
  · exact s.handed_modPanel_modPanel_answered c p (otherPanel p) _ _ st payload
  · exact s.handed_modPanel_answered c p _ st payload

theorem setRefresh_taken {s : State} {p : PanelId} {period lead : Half}
    (ht : s.turn (.setRefresh (panelCode p) period lead)) :
    Answers (.setRefresh (panelCode p) period lead) s
      ((s.pendRefresh p (clamp 8000 32000 period.toNat) (clamp 500 4000 lead.toNat)).answered .ok
        (natHalf (clamp 8000 32000 period.toNat) ++ natHalf (clamp 500 4000 lead.toNat))) := by
  have own (u : State) : ownSetRefresh (panelCode p) period lead u =
      (u.pendRefresh p (clamp 8000 32000 period.toNat) (clamp 500 4000 lead.toNat),
        ⟨.ok, natHalf (clamp 8000 32000 period.toNat) ++ natHalf (clamp 500 4000 lead.toNat)⟩) := by
    simp only [ownSetRefresh, panelOfByte_code]
  have answers := answers_of_owner ht rfl (own _)
  rwa [State.handed_pendRefresh_answered] at answers

theorem setRefresh_badValue {s : State} {b : Byte} {period lead : Half} (ht : s.turn (.setRefresh b period lead))
    (h : ∀ p, b ≠ panelCode p) : Answers (.setRefresh b period lead) s (s.answered .badValue []) := by
  refine answers_refused ht rfl ?_
  simp only [ownSetRefresh, panelOfByte_none h]

/-! ### SET_POWER_TIMING -/

/-- A change of the blocks' shared part is answered alike before and after the frame is taken. -/
theorem State.handed_setShared_answered (s : State) (c : Instr) (g : Shared) (st : Status) (payload : List Byte) :
    { s.handed c with shared := g }.answered st payload = { s with shared := g }.answered st payload := by
  simp [State.answered]

theorem setPowerTiming_taken {s : State} {rail rst train down off quiet : Half} {g : Shared}
    (ht : s.turn (.setPowerTiming rail rst train down off quiet))
    (hg : g = s.shared.withTimings rail.toNat rst.toNat train.toNat down.toNat off.toNat quiet.toNat) :
    Answers (.setPowerTiming rail rst train down off quiet) s ({ s with shared := g }.answered .ok
      (natHalf g.tRail ++ natHalf g.tRst ++ natHalf g.tTrain ++ natHalf g.tDown ++ natHalf g.tOff ++ natHalf g.tQuiet)) := by
  subst hg
  have answers := answers_of_owner (owner := ownSetPowerTiming rail rst train down off quiet) ht rfl rfl
  rwa [State.handed_setShared_answered, State.handed_shared] at answers

/-! ### SET_RECOVERY_MODE -/

@[simp] theorem recoveryOfByte_code (m : RecoveryMode) : recoveryOfByte m.code = some m := by cases m <;> rfl

@[simp] theorem captureOfByte_code (m : CaptureMode) : captureOfByte m.code = some m := by cases m <;> rfl

/-- A byte that is the code of no recovery mode. -/
theorem recoveryOfByte_none {b : Byte} (h : ∀ m, b ≠ RecoveryMode.code m) : recoveryOfByte b = none := by
  unfold recoveryOfByte
  split
  · next hb => exact absurd (BitVec.eq_of_toNat_eq hb) (h .auto)
  · next hb => exact absurd (BitVec.eq_of_toNat_eq hb) (h .hold)
  · rfl

/-- A byte that is the code of no capture mode. -/
theorem captureOfByte_none {b : Byte} (h : ∀ m, b ≠ CaptureMode.code m) : captureOfByte b = none := by
  unfold captureOfByte
  split
  · next hb => exact absurd (BitVec.eq_of_toNat_eq hb) (h .first)
  · next hb => exact absurd (BitVec.eq_of_toNat_eq hb) (h .all)
  · rfl

/-- R161: an OFFLINE panel's quiet timer follows a change of its recovery mode. -/
theorem State.quietAfter_eq (s : State) (x : Panel) (mode : RecoveryMode) : s.quietAfter x mode =
    if x.mode = .offline ∧ mode ≠ x.recovery then
      if mode = .auto ∧ x.attempts < 3 then some (s.now + 1000 * s.shared.tQuiet) else none
    else x.quietTimer := by
  simp only [State.quietAfter, State.quietFor, Panel.isOffline_iff, State.after_eq]
  rfl

/-- R161: the quiet timer does not read the link. -/
theorem State.handed_quietAfter (s : State) (c : Instr) (x : Panel) (mode : RecoveryMode) :
    (s.handed c).quietAfter x mode = s.quietAfter x mode := by
  rw [State.handed_eq]
  rfl

theorem setRecoveryMode_taken {s : State} {p : PanelId} {mode : RecoveryMode} {capture : CaptureMode}
    (ht : s.turn (.setRecoveryMode (panelCode p) mode.code capture.code)) :
    Answers (.setRecoveryMode (panelCode p) mode.code capture.code) s
      ((s.modPanel p fun x => { x with
        recovery := mode, capture := capture, quietTimer := s.quietAfter x mode }).answered .ok
          [mode.code, capture.code]) := by
  have own (u : State) : ownSetRecoveryMode (panelCode p) mode.code capture.code u =
      (u.modPanel p fun x => { x with recovery := mode, capture := capture, quietTimer := u.quietAfter x mode },
        ⟨.ok, [mode.code, capture.code]⟩) := by
    simp only [ownSetRecoveryMode, panelOfByte_code, recoveryOfByte_code, captureOfByte_code]
  have answers := answers_of_owner ht rfl (own _)
  simp only [State.handed_quietAfter, State.handed_modPanel_answered] at answers
  exact answers

theorem ownSetRecoveryMode_refuse {b r n : Byte}
    (h : (∀ p, b ≠ panelCode p) ∨ (∀ mode, r ≠ RecoveryMode.code mode) ∨ ∀ capture, n ≠ CaptureMode.code capture)
    (u : State) : ownSetRecoveryMode b r n u = refuse u .badValue := by
  unfold ownSetRecoveryMode
  split
  · next hb hr hn =>
    rcases h with h | h | h
    · exact absurd (hb.symm.trans (panelOfByte_none h)) (Option.some_ne_none _)
    · exact absurd (hr.symm.trans (recoveryOfByte_none h)) (Option.some_ne_none _)
    · exact absurd (hn.symm.trans (captureOfByte_none h)) (Option.some_ne_none _)
  · rfl

/-- Settles O30: each of the three requests is its owner's change, its values clamped, or a refusal. -/
theorem panelSettings : Obligations.PanelSettings := by
  refine ⟨fun s b period lead ht => ⟨?_, setRefresh_badValue ht⟩, ?_, fun s b r n ht => ⟨?_, fun h => ?_⟩⟩
  · rintro p a l rfl rfl rfl
    have taken := setRefresh_taken ht
    refine ⟨fun apart => ?_, fun joined => ?_⟩
    · rwa [State.pendRefresh, if_neg apart] at taken
    · rwa [State.pendRefresh, if_pos joined] at taken
  · rintro s rail rst train down off quiet ht a b d e f g rfl rfl rfl rfl rfl rfl
    exact setPowerTiming_taken ht rfl
  · rintro p mode capture rfl rfl rfl
    have taken := setRecoveryMode_taken ht
    simp only [State.quietAfter_eq] at taken
    exact taken
  · exact answers_refused ht rfl (ownSetRecoveryMode_refuse h _)

end Sys2Proof.Machine
end

section
/-! SUPPORT. The Attention Unit: flag sets flag by flag (R164, R165, R168), READ_STATUS (R169), and the requests that change
the flags, the mask and the notice threshold. -/

namespace Sys2Proof.Machine

/-! ### Flag sets, flag by flag -/

theorem FlagSet.has_union (a b : FlagSet) (f : AttnFlag) : (a.union b).has f = (a.has f || b.has f) := by
  cases f <;> rfl

theorem FlagSet.has_without (a b : FlagSet) (f : AttnFlag) : (a.without b).has f = (a.has f && !b.has f) := by
  cases f <;> rfl

theorem FlagSet.has_all (f : AttnFlag) : FlagSet.all.has f = true := by cases f <;> rfl

/-- R168: of a set that is named, NOTICE is passed by. -/
theorem FlagSet.has_held (a : FlagSet) (f : AttnFlag) : a.held.has f = (!decide (f = .notice) && a.has f) := by
  cases f <;> rfl

/-- R164: two sets meet in a flag that both hold. -/
theorem FlagSet.meets_iff (a b : FlagSet) : a.meets b = true ↔ ∃ f, a.has f = true ∧ b.has f = true := by
  simp only [FlagSet.meets, Bool.or_eq_true, Bool.and_eq_true]
  constructor
  · rintro ((((((h | h) | h) | h) | h) | h) | h)
    exacts [⟨.posture, h⟩, ⟨.notice, h⟩, ⟨.hinge, h⟩, ⟨.panel, h⟩, ⟨.backlog, h⟩, ⟨.link, h⟩, ⟨.resetDone, h⟩]
  · rintro ⟨f, h⟩
    cases f <;> simp only [FlagSet.has] at h <;> simp [h]

/-! ### READ_STATUS -/

theorem State.recordsInUse_eq (s : State) : s.recordsInUse = allRecords.countP fun i => s.entry i ≠ .free := by
  refine List.countP_congr fun i _ => ?_
  rw [Bool.not_eq_true', ← Bool.not_eq_true, TableSlot.isFree_iff, decide_eq_true_iff]

theorem State.markedCount_eq (s : State) : s.markedCount = allRecords.countP fun i => (s.entry i).marks ≠ .empty := by
  simp only [State.markedCount, Marks.any_eq]

/-- What READ_STATUS reports does not read the link. -/
theorem State.handed_statusReport (s : State) (c : Instr) : (s.handed c).statusReport = s.statusReport := by
  rw [State.handed_eq]
  rfl

/-- Settles O23: the owner reports the summary, the two counts taken over the record slots. -/
theorem readStatusReports : Obligations.ReadStatusReports := by
  intro s ht
  have answers := answers_of_report (owner := fun s => report s s.statusReport) ht rfl rfl
  rw [State.handed_statusReport, State.statusReport, State.recordsInUse_eq, State.markedCount_eq] at answers
  exact answers

/-! ### ACK_ATTENTION, ATTN_ENABLE and ATTN_DISABLE -/

/-- A change of the Attention Unit is answered alike before and after the frame is taken. -/
theorem State.handed_setAttn_answered (s : State) (c : Instr) (a : Attention) (st : Status) (payload : List Byte) :
    { s.handed c with attn := a }.answered st payload = { s with attn := a }.answered st payload := by
  simp [State.answered]

theorem ackAttention_taken {s : State} {b : Byte} (ht : s.turn (.ackAttention b)) (hb : b.getLsbD 7 = false) {fl : FlagSet}
    (hfl : fl = s.attn.flags.without (FlagSet.ofByte b).held) :
    Answers (.ackAttention b) s ({ s with attn := { s.attn with flags := fl } }.answered .ok [fl.toByte]) := by
  subst hfl
  have answers := answers_of_owner (owner := ownAckAttention b) ht rfl (if_neg (ne_true_of_eq_false hb))
  rwa [State.handed_setAttn_answered, State.handed_attn] at answers

/-- R165: a request whose owner replaces the mask answers with the whole mask. -/
theorem answers_of_withMask {s : State} {c : Instr} {owner : State → State × Reply} (ht : s.turn c)
    (hc : exec c s = .next (s.runRequest c owner)) {m : FlagSet} (ho : owner (s.handed c) = (s.handed c).withMask m) :
    Answers c s ({ s with attn := { s.attn with mask := m } }.answered .ok [m.toByte]) := by
  have answers := answers_of_owner ht hc ho
  rwa [State.handed_setAttn_answered, State.handed_attn] at answers

theorem attnEnable_taken {s : State} {b : Byte} (ht : s.turn (.attnEnable b)) (hb : b.getLsbD 7 = false) {m : FlagSet}
    (hm : m = s.attn.mask.union (FlagSet.ofByte b)) :
    Answers (.attnEnable b) s ({ s with attn := { s.attn with mask := m } }.answered .ok [m.toByte]) := by
  refine answers_of_withMask ht rfl ?_
  rw [ownAttnEnable, flagByteBad, if_neg (ne_true_of_eq_false hb), State.handed_attn, hm]

theorem attnDisable_taken {s : State} {b : Byte} (ht : s.turn (.attnDisable b)) (hb : b.getLsbD 7 = false) {m : FlagSet}
    (hm : m = s.attn.mask.without (FlagSet.ofByte b)) :
    Answers (.attnDisable b) s ({ s with attn := { s.attn with mask := m } }.answered .ok [m.toByte]) := by
  refine answers_of_withMask ht rfl ?_
  rw [ownAttnDisable, flagByteBad, if_neg (ne_true_of_eq_false hb), State.handed_attn, hm]

/-- Settles O32: the flags left are those not named, and NOTICE, which is passed by. -/
theorem ackRequest : Obligations.AckRequest := by
  intro s b ht
  refine ⟨fun hb => answers_refused ht rfl (if_pos hb), fun hb => ⟨_, fun f => ?_, ackAttention_taken ht hb rfl⟩⟩
  rw [FlagSet.has_without, FlagSet.has_held, Bool.not_and, Bool.not_not]

/-! ### What a soft reset keeps -/

/-- R181: a soft reset empties the flags and what the table reports, and keeps the mask and the threshold. -/
theorem State.beginSoftReset_attn (s : State) :
    s.beginSoftReset.attn = { s.attn with flags := .empty, marked := 0, wantedInd := false } := rfl

theorem reset_attn {s t : State} (hs : s.accepting) (ha : Answers .reset s t) :
    t.attn.mask = s.attn.mask ∧ t.attn.threshold = s.attn.threshold := by
  obtain rfl : s.beginSoftReset = t := Host.Outcome.next.inj ((reset_answers hs).symm.trans ha)
  rw [State.beginSoftReset_attn]
  exact ⟨rfl, rfl⟩

/-- Settles O31: the new mask is the union or the difference, flag by flag; the line is `FlagSet.meets`. -/
theorem maskRequests : Obligations.MaskRequests := by
  refine ⟨fun s b ht => ⟨?_, ?_⟩, fun s b ht => ⟨?_, ?_⟩, fun s => FlagSet.meets_iff _ _, FlagSet.has_all,
    fun s t hs ha => (reset_attn hs ha).1⟩
  · exact fun hb => answers_refused ht rfl (if_pos hb)
  · exact fun hb => ⟨_, FlagSet.has_union _ _, attnEnable_taken ht hb rfl⟩
  · exact fun hb => answers_refused ht rfl (if_pos hb)
  · exact fun hb => ⟨_, FlagSet.has_without _ _, attnDisable_taken ht hb rfl⟩

/-! ### SET_NOTICE_THRESHOLD -/

/-- R167: the threshold replaced and NOTICE evaluated with it. -/
def State.withThreshold (s : State) (n : Nat) : State := { s with attn := { s.attn with threshold := n } }.refreshNotice

theorem State.refreshNotice_eq (s : State) : s.refreshNotice = { s with attn := s.refreshNotice.attn } := rfl

section
variable (s : State) (n : Nat)

theorem State.withThreshold_eq : s.withThreshold n = { s with attn := (s.withThreshold n).attn } := State.refreshNotice_eq _

@[simp] theorem State.withThreshold_threshold : (s.withThreshold n).attn.threshold = n := rfl
@[simp] theorem State.withThreshold_mask : (s.withThreshold n).attn.mask = s.attn.mask := rfl

/-- R166: NOTICE of a new threshold, as the records stand. -/
theorem State.withThreshold_notice : (s.withThreshold n).attn.flags.notice = true ↔
    n ≤ (allRecords.countP fun i => (s.entry i).marks ≠ .empty) ∨ ∃ i, (s.entry i).marks.wanted = true := by
  rw [State.withThreshold, State.refreshNotice_attn, Bool.or_eq_true, decide_eq_true_iff, List.any_eq_true]
  exact or_congr .rfl ⟨fun ⟨i, _, h⟩ => ⟨i, h⟩, fun ⟨i, h⟩ => ⟨i, List.mem_finRange i, h⟩⟩

theorem State.withThreshold_has {f : AttnFlag} (hf : f ≠ .notice) :
    (s.withThreshold n).attn.flags.has f = s.attn.flags.has f := by
  cases f with
  | notice => exact absurd rfl hf
  | posture | hinge | panel | backlog | link | resetDone => rfl

/-- A new threshold does not read the link. -/
theorem State.handed_withThreshold_answered (c : Instr) (st : Status) (payload : List Byte) :
    ((s.handed c).withThreshold n).answered st payload = (s.withThreshold n).answered st payload := by
  rw [State.handed_eq]
  exact (s.withThreshold n).answered_link _ (s.handed_reset c) (s.handed_sdo c) st payload

end

theorem setNoticeThreshold_answers {s : State} {v : Byte} (ht : s.turn (.setNoticeThreshold v)) :
    Answers (.setNoticeThreshold v) s
      ((s.withThreshold (clamp 1 8 v.toNat)).answered .ok [byteOf (clamp 1 8 v.toNat)]) := by
  have own (u : State) : ownSetNoticeThreshold v u =
      (u.withThreshold (clamp 1 8 v.toNat), ⟨.ok, [byteOf (clamp 1 8 v.toNat)]⟩) := rfl
  have answers := answers_of_owner ht rfl (own _)
  rwa [State.handed_withThreshold_answered] at answers

/-- Settles O33: the state answered is `State.withThreshold` of the clamped value. -/
theorem thresholdRequest : Obligations.ThresholdRequest := by
  refine ⟨?_, rfl, fun s t hs ha => (reset_attn hs ha).2⟩
  rintro s v n ht rfl
  exact ⟨_, setNoticeThreshold_answers ht, State.withThreshold_threshold _ _, State.withThreshold_notice _ _,
    fun _ => State.withThreshold_has _ _, State.withThreshold_mask _ _, State.withThreshold_eq _ _⟩

end Sys2Proof.Machine
end

section
/-! SUPPORT. What the part's events leave alone of the Request Link: no operation of an event reads or writes the link's state. -/

namespace Sys2Proof.Machine

/-! ### Operations within an event -/

section
variable (e : Ev)

@[simp] theorem Ev.done_link : e.done.link = e.s.link := e.done_blocks.link

@[simp] theorem Ev.reresolve_link (i : Fin 40) : (e.reresolve i).s.link = e.s.link := (e.reresolve_frame i).blocks.link

@[simp] theorem Ev.examine_link (i : Fin 40) : (e.examine i).s.link = e.s.link := (e.examine_frame i).blocks.link

/-- An operation made for each member of a list leaves the link alone if one does. -/
theorem Ev.foldl_link {α : Type} {f : Ev → α → Ev} (hf : ∀ (e : Ev) (a : α), (f e a).s.link = e.s.link) (l : List α) :
    (l.foldl f e).s.link = e.s.link := by
  induction l generalizing e with
  | nil => rfl
  | cons a l ih => exact (ih (f e a)).trans (hf e a)

/-! ### The classifier's decisions -/

@[simp] theorem Ev.planChange_link : e.planChange.s.link = e.s.link := e.applyPlan_blocks.link

@[simp] theorem Ev.commit_link (p : Posture) : (e.commit p).s.link = e.s.link := by
  by_cases h : e.s.posture.committed = p
  · rw [e.commit_same h]
  · obtain ⟨-, link, -⟩ := e.commit_others (Ne.symm h)
    exact link

@[simp] theorem Ev.foldCheck_link : e.foldCheck.s.link = e.s.link := by
  rcases e.foldCheck_cases with ⟨-, h⟩ | h | ⟨-, -, h⟩
  · rw [h]
  · rw [h]
    exact Ev.commit_link _ _
  · rw [h, Ev.disagree_eq]

theorem Ev.startDwell_link (c : Posture) : (e.startDwell c).s.link = e.s.link := by
  unfold Ev.startDwell
  split
  · split
    · rfl
    · exact Ev.commit_link _ c
  · rfl

theorem Ev.applyDwell_link (c : Posture) : (e.applyDwell c).s.link = e.s.link := by
  unfold Ev.applyDwell
  split
  · rfl
  · split
    · exact e.startDwell_link c
    · split
      · rfl
      · exact e.startDwell_link c
    · split
      · split
        · rfl
        · exact e.commit_link c
      · exact e.startDwell_link c

theorem Ev.evaluate_link : e.evaluate.s.link = e.s.link := by
  unfold Ev.evaluate
  split
  · exact e.foldCheck_link
  · split
    · split
      · rfl
      · exact e.commit_link _
    · exact e.applyDwell_link _

theorem Ev.dwellEnd_link : e.dwellEnd.s.link = e.s.link := by
  unfold Ev.dwellEnd
  split
  · rfl
  · exact Ev.commit_link _ _

theorem Ev.takeLevel_link : e.takeLevel.s.link = e.s.link := by
  unfold Ev.takeLevel
  split
  · rfl
  · split
    · exact Ev.foldCheck_link _
    · rfl

theorem Ev.badEvent_link (c : BadCause) : (e.badEvent c).s.link = e.s.link := by
  simp only [Ev.badEvent]
  split
  · exact Ev.foldCheck_link _
  · rfl

end

/-! ### The sensor line -/

section
variable (s : State)

theorem State.receive_link (r : Reception) : (s.receive r).link = s.link := by
  cases hc : receptionBadCause r with
  | some c =>
    rw [s.receive_bad hc, Ev.done_link]
    exact Ev.badEvent_link _ c
  | none =>
    cases r with
    | framingError => cases hc
    | frame w =>
      rw [s.receive_good hc, Ev.done_link, Ev.goodFrame_start]
      split
      · exact Ev.evaluate_link _
      · rfl

theorem State.frameCell_link (bits : List Bool) (v : Bool) : (s.frameCell bits v).link = s.link := by
  unfold State.frameCell
  split
  · rfl
  · split
    · exact s.receive_link _
    · exact s.receive_link _

/-! ### The acknowledgement paths and the timers -/

theorem State.atTimer_link {f : State → State} {t : Timer} (h : ∀ u : State, (f u).link = u.link) :
    (s.atTimer t f).link = s.link := by
  cases t with
  | none => rfl
  | some t => exact h _

theorem State.trainOk_link (p : PanelId) : (s.trainOk p).link = s.link := by
  unfold State.trainOk
  split
  · exact (Ev.done_link _).trans (Ev.enterOn_blocks _ p).link
  · rfl

theorem State.settleAck_link (p : PanelId) (f : Panel → Panel) : (s.settleAck p f).link = s.link := by
  unfold State.settleAck
  split
  · exact (Ev.done_link _).trans (Ev.checkHealth_blocks _ p).link
  · rfl

theorem State.ackByte_link (p : PanelId) (code : Byte) (stop : Bool) : (s.ackByte p code stop).link = s.link := by
  unfold State.ackByte
  split
  · split
    · exact s.trainOk_link p
    · split
      · exact s.settleAck_link p _
      · exact s.settleAck_link p _
  · exact State.settleAck_link _ p _

/-- A branch that does nothing leaves the link alone. -/
theorem State.link_ite {p : Prop} [Decidable p] {t : State} (h : t.link = s.link) :
    (if p then t else s).link = s.link := by
  split
  · exact h
  · rfl

@[simp] theorem State.discard_link : s.discard.link = s.link := by
  rw [State.discard_eq]
  split <;> rfl

end

/-! ### The records' operations -/

section
variable (e : Ev) (i : Fin 40)

theorem Ev.offer_link (r : Record) (b : Buffer) (c : OfferCase) : (e.offer i r b c).s.link = e.s.link := by
  cases c with
  | mismatch => rfl
  | settles => exact (Ev.settleWait_frame _ i).blocks.link.trans (by simp [Ev.mod, Ev.modRecord])
  | restages => simp [Ev.offer, Ev.mod, Ev.modRecord, Ev.restage]
  | direct =>
    simp only [Ev.offer]
    split
    · exact (Ev.reresolve_link _ i).trans (State.modRecord_link ..)
    · exact State.modRecord_link ..

/-- R62: the focus register is the table's. -/
theorem Ev.changeFocus_link (new : Option Handle) : (e.changeFocus new).s.link = e.s.link :=
  (e.changeFocus_frame new).blocks.link

theorem State.withdrawRecord_link (s : State) : (s.withdrawRecord i).link = s.link := by
  simp only [State.withdrawRecord]
  split <;> simp

theorem Ev.cancelJob_link : (e.cancelJob i).s.link = e.s.link := by
  unfold Ev.cancelJob
  split
  · rfl
  · simp [Ev.mod]

theorem Ev.retire_link : (e.retire i).s.link = e.s.link := by
  have cancelled := Ev.cancelJob_link (e.mod fun s => s.withdrawRecord i) i
  simpa [Ev.retire, Ev.mod, State.withdrawRecord_link] using cancelled

theorem State.noticed_same_link (s : State) : s.noticed.link = s.link := by rw [State.noticed_eq]

end
end Sys2Proof.Machine
end

section
/-! SUPPORT. The bytes a request's payload can hold: every report stays within 250 bytes (R174) where the queue holds at most 16 jobs
(R94) and a panel's stack at most 16 slots (R140). -/

namespace Sys2Proof.Machine

/-! ### Lengths of the reports -/

@[simp] theorem natHalf_length (n : Nat) : (natHalf n).length = 2 := rfl

theorem length_flatMap_le {α β : Type} {f : α → List β} {n : Nat} (h : ∀ a, (f a).length ≤ n) (l : List α) :
    (l.flatMap f).length ≤ l.length * n := by
  induction l with
  | nil => simp
  | cons a l ih =>
    have first := h a
    rw [List.flatMap_cons, List.length_append, List.length_cons, Nat.succ_mul]
    omega

theorem Rule.bytes_length (r : Rule) : r.bytes.length = 18 := rfl

theorem Hinge.report_length (h : Hinge) : h.report.length = 14 := rfl

theorem State.postureReport_length (s : State) : s.postureReport.length = 9 := rfl

theorem State.statusReport_length (s : State) : s.statusReport.length = 10 := rfl

theorem TableSlot.bytes_length_le (h : Handle) (x : TableSlot) : (x.bytes h).length ≤ 143 := by
  cases x with
  | free => exact Nat.zero_le _
  | used r => exact Nat.le_of_eq (r.bytes_length h)
  | retired released m => exact Nat.le_of_eq (retiredBytes_length h released m)

/-- R171: a notice entry is of 12 bytes. -/
theorem TableSlot.notice_length_le (h : Handle) (x : TableSlot) : (x.notice h).length ≤ 12 := by
  cases x <;> simp [TableSlot.notice, optBytes_length Size.bytes_length, optBytes_length halfBytes_length]

theorem State.queueEntry_length (s : State) (j : Job) : (s.queueEntry j).length = 7 := by simp [State.queueEntry]

theorem State.stackEntry_length_le (s : State) (k : Fin 16) : (s.stackEntry k).length ≤ 14 := by
  unfold State.stackEntry
  split <;> simp

section
variable (s : State)

theorem State.findReport_length_le (c : Criterion) (n : Nat) : (s.findReport c n).length ≤ 34 := by
  have listed : ((s.found c n).take Config.handlesPerFind).length ≤ 16 := List.length_take_le ..
  have entries := length_flatMap_le (fun i => Nat.le_of_eq (s.handle i).bytes_length)
    ((s.found c n).take Config.handlesPerFind)
  simp only [State.findReport, List.length_cons, List.length_append, List.length_nil]
  omega

/-- R170: at most eight records are reported. -/
theorem State.notices_length_le :
    (byteOf s.reported.length :: s.reported.flatMap fun i => (s.entry i).notice (s.handle i)).length ≤ 97 := by
  have listed : s.reported.length ≤ 8 := List.length_take_le ..
  have entries := length_flatMap_le (fun i => (s.entry i).notice_length_le (s.handle i)) s.reported
  rw [List.length_cons]
  omega

/-- R121: a report of the queue. -/
theorem State.queueReport_length_le (h : s.queue.length ≤ 16) : s.queueReport.length ≤ 113 := by
  have entries := length_flatMap_le (fun j => Nat.le_of_eq (s.queueEntry_length j)) s.queue
  rw [State.queueReport, List.length_cons]
  omega

/-- R147: a report of a panel. -/
theorem State.panelReport_length_le (p : PanelId) (h : (s.panel p).stack.length ≤ 16) : (s.panelReport p).length ≤ 246 := by
  have live : (s.liveStack p).length ≤ (s.panel p).stack.length := List.length_filter_le ..
  have entries := length_flatMap_le s.stackEntry_length_le (s.liveStack p)
  simp only [State.panelReport, List.length_append, List.length_cons, List.length_nil, natHalf_length]
  omega

end
end Sys2Proof.Machine
end

section
/-! SUPPORT. What a request's owner makes of the state it is handed: a refusal changes nothing, and any other answer is OK or
ACCEPTED, leaves the link alone and fits a frame (R174, R176, R178). -/

namespace Sys2Proof.Machine

/-! ### What an owner does -/

/-- R94, R140: the bounds on the parts of the state that a report lists. -/
structure State.ReportsFit (s : State) : Prop where
  queue : s.queue.length ≤ 16
  stack : ∀ p, (s.panel p).stack.length ≤ 16

/-- R176, R178: what an owner leaves of the state `s`, with its reply. -/
inductive State.Serves (s : State) : State × Reply → Prop
  | refused (st : Status) : s.Serves (refuse s st)
  | done {t : State} {r : Reply} (link : t.link = s.link) (status : r.status = .ok ∨ r.status = .accepted)
      (fits : s.ReportsFit → r.payload.length ≤ 250) : s.Serves (t, r)

section
variable {s t : State}

/-- An answer of OK with a short payload. -/
theorem State.Serves.ok {payload : List Byte} (link : t.link = s.link) (fits : payload.length ≤ 250) :
    s.Serves (t, ⟨.ok, payload⟩) := .done link (.inl rfl) fun _ => fits

/-- R50: an answer of OK or ACCEPTED. -/
theorem State.Serves.doneReply {payload : List Byte} (more : Bool) (link : t.link = s.link) (fits : payload.length ≤ 250) :
    s.Serves (t, doneReply more payload) := by
  refine .done link ?_ fun _ => fits
  cases more
  · exact .inl rfl
  · exact .inr rfl

/-- R50: the end of a request that re-resolved or staged. -/
theorem State.Serves.reply {e : Ev} {payload : State → List Byte} (link : e.s.link = s.link)
    (fits : ∀ u, (payload u).length ≤ 250) : s.Serves (e.reply payload) :=
  .doneReply _ (e.done_link.trans link) (fits _)

end

/-- Whatever an owner answers, the link is as it was. -/
theorem State.Serves.link {s : State} {a : State × Reply} (h : s.Serves a) : a.1.link = s.link := by
  cases h with
  | refused st => rfl
  | done link => exact link

/-! ### Owners in the hinge unit and the classifier -/

section
variable (s : State)

theorem ownHingeEnable_serves (value : Byte) : s.Serves (ownHingeEnable value s) := by
  unfold ownHingeEnable
  split
  · exact .refused _
  · refine .ok ?_ (by simp)
    split
    · exact (Ev.done_link _).trans (Ev.foldCheck_link _)
    · rw [Ev.disableInput_start]
      exact Ev.done_link _
    · rfl

theorem ownSetCalibration_serves (points : Vector Half 9) : s.Serves (ownSetCalibration points s) := by
  unfold ownSetCalibration
  split
  · exact .ok rfl (by simp)
  · exact .refused _

theorem ownSetBands_serves (b1 b2 b3 b4 margin dwell : Half) : s.Serves (ownSetBands b1 b2 b3 b4 margin dwell s) := by
  unfold ownSetBands
  split
  · exact .ok rfl (by simp)
  · exact .refused _

theorem ownSetSwitch_serves (use : Byte) (limit : Half) : s.Serves (ownSetSwitch use limit s) := by
  unfold ownSetSwitch
  split
  · exact .refused _
  · refine .ok ((Ev.done_link _).trans ?_) (by simp)
    split
    · exact Ev.foldCheck_link _
    · rfl

theorem ownForcePosture_serves (code : Byte) : s.Serves (ownForcePosture code s) := by
  unfold ownForcePosture
  split
  · exact .refused _
  · split
    · exact .ok ((Ev.done_link _).trans (Ev.commit_link _ _)) (by simp)
    · exact .refused _

theorem ownSetFront_serves (value : Byte) : s.Serves (ownSetFront value s) := by
  unfold ownSetFront
  split
  · exact .refused _
  · split
    · exact .ok rfl (by simp)
    · exact .doneReply true ((Ev.done_link _).trans (Ev.planChange_link _)) (by simp)

theorem ownSetSpan_serves (value : Byte) : s.Serves (ownSetSpan value s) := by
  unfold ownSetSpan
  split
  · exact .refused _
  · split
    · exact .ok rfl (by simp)
    · exact .doneReply true ((Ev.done_link _).trans (Ev.planChange_link _)) (by simp)

/-! ### Owners in the surface table -/

theorem ownCreateSurface_serves (cls owner : Half) (home z flags : Byte) (fill : Word) (buffer : Option Descriptor) :
    s.Serves (ownCreateSurface cls owner home z flags fill buffer s) := by
  unfold ownCreateSurface
  split
  · exact .refused _
  · split
    · exact .refused _
    · split
      · exact .refused _
      · refine .reply ((Ev.reresolve_link _ _).trans ?_) fun _ => by simp
        exact s.link_ite rfl

theorem ownOfferBuffer_serves (h : HandleField) (d : Descriptor) : s.Serves (ownOfferBuffer h d s) := by
  unfold ownOfferBuffer
  split
  · exact .refused _
  · split
    · exact .refused _
    · split
      · exact .refused _
      · simp only
        split
        · exact .refused _
        · exact .doneReply _ ((Ev.done_link _).trans (Ev.offer_link (Ev.start s.countOffer) ..)) (by simp)

theorem ownAmendSurface_serves (h : HandleField) (presence z home : Byte) (cls owner : Half) (flags : Byte) (fill : Word) :
    s.Serves (ownAmendSurface h presence z home cls owner flags fill s) := by
  unfold ownAmendSurface
  split
  · exact .refused _
  · split
    · exact .reply (Ev.amended_frame ..).blocks.link fun _ => by simp
    · exact .refused _

theorem ownSetVariant_serves (h : HandleField) (postures target fallback : Byte) (rect : Option RectField) :
    s.Serves (ownSetVariant h postures target fallback rect s) := by
  unfold ownSetVariant
  split
  · exact .refused _
  · split
    · split
      · exact .refused _
      · simp only
        split
        · exact .refused _
        · exact .reply (Ev.reresolve_link _ _) fun _ => by simp
    · exact .refused _

theorem ownClearVariants_serves (h : HandleField) : s.Serves (ownClearVariants h s) := by
  unfold ownClearVariants
  split
  · exact .refused _
  · split
    · exact .ok rfl (by simp)
    · exact .reply (Ev.reresolve_link _ _) fun _ => by simp

theorem ownMoveSurface_serves (h : HandleField) (target : Byte) (rect : Option RectField) :
    s.Serves (ownMoveSurface h target rect s) := by
  unfold ownMoveSurface
  split
  · exact .refused _
  · split
    · exact .refused _
    · exact .reply (Ev.reresolve_link _ _) fun _ => by simp

theorem State.focusOn_serves (new : Option Handle) : s.Serves (s.focusOn new) := by
  unfold State.focusOn
  split
  · exact .ok rfl (by simp)
  · exact .reply (Ev.changeFocus_link _ new) fun _ => by simp

theorem ownSetFocus_serves (h : HandleField) : s.Serves (ownSetFocus h s) := by
  unfold ownSetFocus
  split
  · exact s.focusOn_serves none
  · split
    · exact .refused _
    · exact s.focusOn_serves _

theorem ownLookupSurface_serves (h : HandleField) : s.Serves (ownLookupSurface h s) := by
  unfold ownLookupSurface
  split
  · exact .refused _
  · exact .ok rfl ((TableSlot.bytes_length_le _ _).trans (by decide))

theorem ownFindSurfaces_serves (kind : Byte) (value : Word) (cursor : Byte) :
    s.Serves (ownFindSurfaces kind value cursor s) := by
  unfold ownFindSurfaces
  split
  · exact .refused _
  · split
    · exact .refused _
    · exact .ok rfl ((s.findReport_length_le _ _).trans (by decide))

theorem ownRetireSurface_serves (h : HandleField) : s.Serves (ownRetireSurface h s) := by
  unfold ownRetireSurface
  split
  · exact .refused _
  · exact .doneReply _ ((Ev.done_link _).trans (Ev.retire_link _ _)) (by simp)

theorem ownRetireOwner_serves (owner : Half) : s.Serves (ownRetireOwner owner s) :=
  .doneReply _ ((Ev.done_link _).trans (Ev.foldl_link _ Ev.retire_link _)) (by simp)

theorem ownWriteRule_serves (index : Byte) (f : RuleField) : s.Serves (ownWriteRule index f s) := by
  unfold ownWriteRule
  split
  · split
    · exact .refused _
    · exact .reply (Ev.reresolveAll_frame _).blocks.link fun _ => by simp
  · exact .refused _

theorem ownReadRule_serves (index : Byte) : s.Serves (ownReadRule index s) := by
  unfold ownReadRule
  split
  · exact .ok rfl (by simp [Rule.bytes_length])
  · split
    · exact .ok rfl (by simp [Rule.bytes_length])
    · exact .refused _

/-! ### Owners in the Panel Controllers -/

theorem ownSetPanelGeometry_serves (w h g : Half) : s.Serves (ownSetPanelGeometry w h g s) := by
  unfold ownSetPanelGeometry
  split
  · split
    · exact .reply rfl fun _ => by simp
    · exact .refused _
  · exact .refused _

theorem ownSetRefresh_serves (panel : Byte) (period lead : Half) : s.Serves (ownSetRefresh panel period lead s) := by
  unfold ownSetRefresh
  split
  · exact .refused _
  · refine .ok ?_ (by simp)
    simp only [State.pendRefresh]
    split <;> simp

theorem ownPanelEnable_serves (panel value : Byte) : s.Serves (ownPanelEnable panel value s) := by
  unfold ownPanelEnable
  split
  · exact .doneReply _ ((Ev.done_link _).trans (Ev.setEnable_blocks (Ev.start s) _ _).link) (by simp)
  · exact .refused _

theorem ownSetLending_serves (lender count : Byte) : s.Serves (ownSetLending lender count s) := by
  unfold ownSetLending
  split
  · exact .refused _
  · split
    · split
      · exact .ok rfl (by simp [State.lendingReport])
      · split
        · exact .ok (Ev.done_link _) (by simp [State.lendingReport])
        · exact .refused _
    · exact .refused _

/-- R147: the live stack is what a panel's report lists. -/
theorem ownReadPanel_serves (panel : Byte) : s.Serves (ownReadPanel panel s) := by
  unfold ownReadPanel
  split
  · exact .refused _
  · next p _ => exact .done rfl (.inl rfl) fun fit => (s.panelReport_length_le p (fit.stack p)).trans (by decide)

theorem ownPanelRecover_serves (panel : Byte) : s.Serves (ownPanelRecover panel s) := by
  unfold ownPanelRecover
  split
  · exact .refused _
  · refine .doneReply _ ?_ (by simp)
    split
    · exact (Ev.done_link _).trans (Ev.leaveOffline_blocks _ _).link
    · rfl

theorem ownSetRecoveryMode_serves (panel recovery capture : Byte) :
    s.Serves (ownSetRecoveryMode panel recovery capture s) := by
  unfold ownSetRecoveryMode
  split
  · exact .ok rfl (by simp)
  · exact .refused _

/-! ### Owners in the Attention Unit and the Handover Engine -/

theorem ownAckAttention_serves (flags : Byte) : s.Serves (ownAckAttention flags s) := by
  unfold ownAckAttention
  split
  · exact .refused _
  · exact .ok rfl (by simp)

theorem State.withMask_serves (m : FlagSet) : s.Serves (s.withMask m) := .ok rfl (by simp)

theorem ownAttnEnable_serves (flags : Byte) : s.Serves (ownAttnEnable flags s) := by
  unfold ownAttnEnable
  split
  · exact .refused _
  · exact s.withMask_serves _

theorem ownAttnDisable_serves (flags : Byte) : s.Serves (ownAttnDisable flags s) := by
  unfold ownAttnDisable
  split
  · exact .refused _
  · exact s.withMask_serves _

theorem ownReadNotices_serves : s.Serves (ownReadNotices s) := by
  rw [ownReadNotices_eq]
  exact .ok s.noticed_same_link (s.notices_length_le.trans (by decide))

theorem ownReadQueue_serves : s.Serves (report s s.queueReport) :=
  .done rfl (.inl rfl) fun fit => (s.queueReport_length_le fit.queue).trans (by decide)

end

/-! ### Every request -/

/-- R176, R178: a request's command is the link's handling of it, with an owner that serves every state. -/
theorem exec_serves {c : Instr} (hc : isRequest c = true) :
    ∃ owner : State → State × Reply, (∀ s, exec c s = .next (s.runRequest c owner)) ∧
      ∀ s : State, s.Serves (owner s) := by
  cases c
  case hingeEnable => exact ⟨_, fun _ => rfl, fun u => ownHingeEnable_serves u _⟩
  case readHinge => exact ⟨_, fun _ => rfl, fun u => .ok rfl (by simp [Hinge.report_length])⟩
  case setCalibration => exact ⟨_, fun _ => rfl, fun u => ownSetCalibration_serves u _⟩
  case setFilter k d m t l => exact ⟨_, fun _ => rfl, fun u => .ok rfl (by simp)⟩
  case readPosture => exact ⟨_, fun _ => rfl, fun u => .ok rfl (by simp [State.postureReport_length])⟩
  case setBands => exact ⟨_, fun _ => rfl, fun u => ownSetBands_serves u _ _ _ _ _ _⟩
  case setSwitch => exact ⟨_, fun _ => rfl, fun u => ownSetSwitch_serves u _ _⟩
  case forcePosture => exact ⟨_, fun _ => rfl, fun u => ownForcePosture_serves u _⟩
  case setFront => exact ⟨_, fun _ => rfl, fun u => ownSetFront_serves u _⟩
  case setSpan => exact ⟨_, fun _ => rfl, fun u => ownSetSpan_serves u _⟩
  case createSurface => exact ⟨_, fun _ => rfl, fun u => ownCreateSurface_serves u _ _ _ _ _ _ _⟩
  case offerBuffer => exact ⟨_, fun _ => rfl, fun u => ownOfferBuffer_serves u _ _⟩
  case amendSurface => exact ⟨_, fun _ => rfl, fun u => ownAmendSurface_serves u _ _ _ _ _ _ _ _⟩
  case setVariant => exact ⟨_, fun _ => rfl, fun u => ownSetVariant_serves u _ _ _ _ _⟩
  case clearVariants => exact ⟨_, fun _ => rfl, fun u => ownClearVariants_serves u _⟩
  case setFocus => exact ⟨_, fun _ => rfl, fun u => ownSetFocus_serves u _⟩
  case lookupSurface => exact ⟨_, fun _ => rfl, fun u => ownLookupSurface_serves u _⟩
  case findSurfaces => exact ⟨_, fun _ => rfl, fun u => ownFindSurfaces_serves u _ _ _⟩
  case retireSurface => exact ⟨_, fun _ => rfl, fun u => ownRetireSurface_serves u _⟩
  case retireOwner => exact ⟨_, fun _ => rfl, fun u => ownRetireOwner_serves u _⟩
  case writeRule => exact ⟨_, fun _ => rfl, fun u => ownWriteRule_serves u _ _⟩
  case readRule => exact ⟨_, fun _ => rfl, fun u => ownReadRule_serves u _⟩
  case moveSurface => exact ⟨_, fun _ => rfl, fun u => ownMoveSurface_serves u _ _ _⟩
  case readQueue => exact ⟨_, fun _ => rfl, ownReadQueue_serves⟩
  case setPanelGeometry => exact ⟨_, fun _ => rfl, fun u => ownSetPanelGeometry_serves u _ _ _⟩
  case setRefresh => exact ⟨_, fun _ => rfl, fun u => ownSetRefresh_serves u _ _ _⟩
  case setPowerTiming => exact ⟨_, fun _ => rfl, fun u => .ok rfl (by simp)⟩
  case panelEnable => exact ⟨_, fun _ => rfl, fun u => ownPanelEnable_serves u _ _⟩
  case setLending => exact ⟨_, fun _ => rfl, fun u => ownSetLending_serves u _ _⟩
  case readPanel => exact ⟨_, fun _ => rfl, fun u => ownReadPanel_serves u _⟩
  case panelRecover => exact ⟨_, fun _ => rfl, fun u => ownPanelRecover_serves u _⟩
  case setRecoveryMode => exact ⟨_, fun _ => rfl, fun u => ownSetRecoveryMode_serves u _ _ _⟩
  case readStatus => exact ⟨_, fun _ => rfl, fun u => .ok rfl (by simp [State.statusReport_length])⟩
  case ackAttention => exact ⟨_, fun _ => rfl, fun u => ownAckAttention_serves u _⟩
  case attnEnable => exact ⟨_, fun _ => rfl, fun u => ownAttnEnable_serves u _⟩
  case attnDisable => exact ⟨_, fun _ => rfl, fun u => ownAttnDisable_serves u _⟩
  case setNoticeThreshold => exact ⟨_, fun _ => rfl, fun u => .ok rfl (by simp)⟩
  case readNotices => exact ⟨_, fun _ => rfl, ownReadNotices_serves⟩
  all_goals cases hc

end Sys2Proof.Machine
end

section
/-! SUPPORT. What every step keeps of the Request Link (R174, R176, R177, R180, R181): what it holds in each of its states, and a held
frame that sums to 0 modulo 256. -/

namespace Sys2Proof.Machine

/-! ### The link's own changes -/

section
variable {s : State}

/-- A link that takes frames or executes a request has no reset under way. -/
theorem Link.Ok.reset_none (ok : s.link.Ok) (h : s.link.state ≠ .resetting) : s.link.reset = none := by
  cases hl : s.link.state with
  | idle =>
    obtain ⟨-, -, quiet⟩ := ok.idle hl
    exact quiet
  | executing =>
    obtain ⟨-, -, quiet⟩ := ok.executing hl
    exact quiet
  | responseReady =>
    obtain ⟨-, -, quiet⟩ := ok.ready hl
    exact quiet
  | resetting => exact absurd hl h

theorem State.accepting.not_resetting (h : s.accepting) : s.link.state ≠ .resetting := by
  rcases h with h | h <;> simp [h]

theorem State.turn.not_resetting {c : Instr} (h : s.turn c) : s.link.state ≠ .resetting := by
  rcases h with h | ⟨h, -⟩
  · exact h.not_resetting
  · simp [h]

/-- R176, R177: a response is held whole and unread. -/
theorem State.answered_link_ok (hr : s.link.reset = none) (st : Status) (payload : List Byte) :
    (s.answered st payload).link.Ok where
  idle := nofun
  executing := nofun
  ready _ := ⟨rfl, rfl, hr⟩
  resetting := nofun
  sum _ h := Option.some.inj h ▸ byteSum_frameOf _ _
  position := Nat.zero_le _

/-- R175, R176: a request handed over is under way. -/
theorem State.take_link_ok (hr : s.link.reset = none) (c : Instr) : (s.take c).link.Ok where
  idle := nofun
  executing _ := ⟨rfl, rfl, hr⟩
  ready := nofun
  resetting := nofun
  sum := nofun
  position := Nat.zero_le _

/-- R180, R181: a reset under way of either kind. -/
theorem Link.Ok.of_resetting {l : Link} (hs : l.state = .resetting) (hb : l.buffer = none) (he : l.executing = none)
    (hr : l.reset.isSome) (hp : l.readPos = 0) : l.Ok where
  idle h := by cases hs.symm.trans h
  executing h := by cases hs.symm.trans h
  ready h := by cases hs.symm.trans h
  resetting _ := ⟨hb, he, hr⟩
  sum f h := by cases hb.symm.trans h
  position := hp.le.trans (Nat.zero_le _)

/-- R177, R182: the link at rest. -/
theorem Link.Ok.of_idle {l : Link} (hs : l.state = .idle) (hb : l.buffer = none) (he : l.executing = none)
    (hr : l.reset = none) (hp : l.readPos = 0) : l.Ok where
  idle _ := ⟨hb, he, hr⟩
  executing h := by cases hs.symm.trans h
  ready h := by cases hs.symm.trans h
  resetting h := by cases hs.symm.trans h
  sum f h := by cases hb.symm.trans h
  position := hp.le.trans (Nat.zero_le _)

theorem State.beginSoftReset_link_ok (s : State) : s.beginSoftReset.link.Ok := .of_resetting rfl rfl rfl rfl rfl

theorem State.beginPowerOn_link_ok (s : State) (risen : Bool) : (s.beginPowerOn risen).link.Ok :=
  .of_resetting rfl rfl rfl rfl rfl

/-- R175: a judged frame is refused, begins a soft reset or is taken. -/
theorem State.takeFrame_link_ok (ok : s.link.Ok) (h : s.accepting) (j : Except Status Instr) : (s.takeFrame j).link.Ok := by
  have quiet := ok.reset_none h.not_resetting
  unfold State.takeFrame
  split
  · exact State.answered_link_ok quiet _ _
  · exact s.beginSoftReset_link_ok
  · exact State.take_link_ok quiet _

/-- R177: a read moves the position within the held frame, or delivers it. -/
theorem State.read_link_ok (ok : s.link.Ok) (busy : Bool) (n : Nat) : (s.read busy n).link.Ok := by
  simp only [State.read]
  split
  · next h =>
    obtain ⟨rfl, ready⟩ := h
    obtain ⟨held, free, quiet⟩ := ok.ready ready
    obtain ⟨f, hf⟩ := Option.isSome_iff_exists.1 held
    have frame : s.readFrame false = f := by simp [State.readFrame, ready, hf]
    rw [frame, State.deliver]
    split
    · exact .of_idle rfl rfl free quiet rfl
    · next short => exact { ok with position := by simpa [hf] using (Nat.not_le.1 short).le }
  · exact { ok with }

/-- R176: in its turn or out of it, a request's command leaves the link consistent. -/
theorem State.runRequest_link_ok (ok : s.link.Ok) {c : Instr} {owner : State → State × Reply}
    (serves : ∀ u : State, u.Serves (owner u)) : (s.runRequest c owner).link.Ok := by
  by_cases ht : s.turn c
  · rw [State.runRequest_turn ht]
    have kept : (owner (s.handed c)).1.link = (s.handed c).link := (serves _).link
    refine State.answered_link_ok ?_ _ _
    rw [kept, State.handed_reset]
    exact ok.reset_none ht.not_resetting
  · rwa [State.runRequest_busy ht, State.discard_link]

end

/-! ### Every command -/

theorem exec_link_ok (c : Instr) (s : State) (ok : s.link.Ok) : ∃ t, exec c s = .next t ∧ t.link.Ok := by
  cases hc : isRequest c with
  | true =>
    obtain ⟨owner, runs, serves⟩ := exec_serves hc
    exact ⟨_, runs s, State.runRequest_link_ok ok serves⟩
  | false =>
    have kept {t : State} (h : t.link = s.link) : t.link.Ok := h ▸ ok
    have ended {e : Ev} (h : e.s.link = s.link) : e.done.link = s.link := e.done_link.trans h
    have dropped : s.discard.link.Ok := kept s.discard_link
    cases c
    case writeTransaction bytes n =>
      refine ⟨_, rfl, ?_⟩
      split
      · next h => exact State.takeFrame_link_ok ok (.inl h) _
      · next h => exact State.takeFrame_link_ok ok (.inr h) _
      · exact dropped
      · exact dropped
    case readTransaction busy n =>
      refine ⟨_, rfl, ?_⟩
      split
      · exact ok
      · exact State.read_link_ok ok busy n
    case ignoredTransaction => exact ⟨_, rfl, ok⟩
    case powerOnReset => exact ⟨_, rfl, s.beginPowerOn_link_ok _⟩
    case powerOnResetEnd =>
      refine ⟨_, rfl, ?_⟩
      split
      · exact Link.powerOn_ok
      · exact ok
    case softResetEnd =>
      refine ⟨_, rfl, ?_⟩
      split
      · exact .of_idle rfl rfl rfl rfl rfl
      · exact ok
    case reset =>
      refine ⟨_, rfl, ?_⟩
      unfold State.resetRequest
      split
      · exact s.beginSoftReset_link_ok
      · exact s.beginSoftReset_link_ok
      · exact dropped
      · exact dropped
    case lineIdle => exact ⟨_, rfl, kept (s.link_ite rfl)⟩
    case frameArrival r => exact ⟨_, rfl, kept (s.link_ite (s.receive_link r))⟩
    case cellTimeout =>
      refine ⟨_, rfl, kept (s.link_ite ?_)⟩
      split
      · exact State.receive_link _ _
      · rfl
    case silentExpiry =>
      refine ⟨_, rfl, kept ?_⟩
      split
      · rfl
      · exact ended (Ev.badEvent_link _ _)
    case hsnsCell n =>
      refine ⟨_, rfl, kept (s.link_ite ?_)⟩
      split
      · rfl
      · split
        · exact s.receive_link _
        · rfl
      · exact s.frameCell_link _ _
    case dwellExpiry =>
      refine ⟨_, rfl, kept ?_⟩
      split
      · exact ended (Ev.dwellEnd_link _)
      · rfl
    case foldEdge level =>
      refine ⟨_, rfl, kept ?_⟩
      split
      · rfl
      · split <;> rfl
    case debounceExpiry =>
      refine ⟨_, rfl, kept ?_⟩
      split
      · rfl
      · exact ended (Ev.takeLevel_link _)
    case deadlineExpiry i =>
      refine ⟨_, rfl, kept ?_⟩
      split
      · rfl
      · exact ended ((Ev.examine_link _ i).trans (Ev.expireWait_frame _ i).blocks.link)
    case offTimeExpiry p => exact ⟨_, rfl, kept (s.atTimer_link fun _ => State.checkPowerUp_link _ p)⟩
    case railStageEnd p => exact ⟨_, rfl, kept (s.link_ite (s.atTimer_link fun _ => rfl))⟩
    case resetStageEnd p => exact ⟨_, rfl, kept (s.link_ite (s.atTimer_link fun _ => rfl))⟩
    case trainingExpiry p =>
      exact ⟨_, rfl, kept (s.link_ite (s.atTimer_link fun _ => (Ev.done_link _).trans (Ev.goOffline_blocks _ p _).link))⟩
    case powerDownEnd p => exact ⟨_, rfl, kept (s.link_ite (s.atTimer_link fun _ => State.enterOff_link _ p))⟩
    case trainOk p => exact ⟨_, rfl, kept (s.link_ite (s.trainOk_link p))⟩
    case frameOk p => exact ⟨_, rfl, kept (s.link_ite (s.settleAck_link p _))⟩
    case frameBad p => exact ⟨_, rfl, kept (s.link_ite (s.settleAck_link p _))⟩
    case unknownAckCode p code stop => exact ⟨_, rfl, kept (s.link_ite (s.ackByte_link p code stop))⟩
    case ackPathIdle p => exact ⟨_, rfl, kept rfl⟩
    case frameStart p => exact ⟨_, rfl, kept (s.link_ite (ended (Ev.frameStart_blocks _ p).link))⟩
    case stagingCutoff p => exact ⟨_, rfl, kept (s.link_ite (State.cutoff_link _ p))⟩
    case quietExpiry p =>
      exact ⟨_, rfl, kept (s.link_ite (s.atTimer_link
        fun _ => (Ev.done_link _).trans (Ev.leaveOffline_blocks _ p).link))⟩
    case stabilityExpiry p => exact ⟨_, rfl, kept (s.atTimer_link fun _ => rfl)⟩
    all_goals cases hc

/-- Settles O6: each command keeps it, by `exec_link_ok`. -/
theorem linkKept : Obligations.LinkKept :=
  keptByStep_of_exec (fun _ _ ok => ok) (fun _ ok => ok) exec_link_ok

/-! ### The step of an empty queue -/

section
variable {s : State}

theorem step_of_empty (h : s.pending = []) : step s = idle s := by
  unfold step
  split
  · rfl
  · next h' => cases h.symm.trans h'

/-- R176: the owner of a request that was handed over executes it. -/
theorem idle_handed {r : Instr} (h : s.link.executing = some r) : idle s = exec r s := by simp only [idle, h]

/-- Log 2: a microsecond passes. -/
theorem idle_unhanded (h : s.link.executing = none) : idle s = .next (s.elapse 1) := by simp only [idle, h]

end

/-- Settles O2: `exec` answers a next state for every command, and the step of an empty queue is `idle`. -/
theorem everyStepEnds : Obligations.EveryStepEnds := by
  refine ⟨fun c s => ?_, fun s waiting => ⟨fun r handed => ?_, fun unhanded => ?_⟩⟩
  · cases c <;> exact ⟨_, rfl⟩
  · rw [step_of_empty waiting, idle_handed handed]
  · rw [step_of_empty waiting, idle_unhanded unhanded]
    rfl

end Sys2Proof.Machine
end

section
/-! SUPPORT. The judging of a request frame (R175, R176), and the frames and requests a busy link discards (R179 to R181). -/

namespace Sys2Proof.Machine

/-! ### The judging of a frame -/

/-- R175: the status of a frame that fails check 3 or 4. -/
def requestStatus : RequestError → Status
  | .unknownRequest => .unknownRequest
  | .badLength => .badLength

theorem judge_malformed {bytes : List Byte} {partialBits : Nat} (h : partialBits ≠ 0 ∨ bytes.length < 3 ∨
    250 < (bytes.getD 1 0).toNat ∨ bytes.length ≠ (bytes.getD 1 0).toNat + 3) :
    judge bytes partialBits = .error .badLength := by
  match bytes with
  | [] | [_] => rfl
  | code :: len :: rest =>
    refine if_neg fun whole => ?_
    obtain ⟨noPart, short, count⟩ := whole
    simp only [List.length_cons, List.getD_cons_succ, List.getD_cons_zero, Config.payloadMax] at h short
    omega

section
variable {code check : Byte} {payload bytes : List Byte} (short : payload.length ≤ 250)
  (hb : bytes = code :: byteOf payload.length :: payload ++ [check])
include short hb

/-- R174: a payload's length byte is its length. -/
theorem judge_whole : judge bytes 0 =
    if byteSum bytes = 0 then (decodeRequest code payload).mapError requestStatus else .error .frameError := by
  subst hb
  have len : (byteOf payload.length).toNat = payload.length := by
    rw [byteOf, BitVec.toNat_ofNat]
    omega
  have counted : (payload ++ [check]).length = payload.length + 1 := by simp
  simp only [List.cons_append, judge, len, counted, Config.payloadMax, short, and_self, if_true, List.take_left]
  split
  · cases decodeRequest code payload with
    | ok r => rfl
    | error e => cases e <;> rfl
  · rfl

theorem judge_sum_nonzero (sum : byteSum bytes ≠ 0) : judge bytes 0 = .error .frameError := by
  rw [judge_whole short hb, if_neg sum]

theorem judge_decoded {r : Instr} (sum : byteSum bytes = 0) (h : decodeRequest code payload = .ok r) :
    judge bytes 0 = .ok r := by
  rw [judge_whole short hb, if_pos sum, h]
  rfl

theorem judge_undecoded {e : RequestError} (sum : byteSum bytes = 0) (h : decodeRequest code payload = .error e) :
    judge bytes 0 = .error (requestStatus e) := by
  rw [judge_whole short hb, if_pos sum, h]
  rfl

end

/-- R175 check 3. -/
theorem decodeRequest_unknown {code : Byte} (h : code ∉ requestCodes) (payload : List Byte) :
    decodeRequest code payload = .error .unknownRequest :=
  if_neg (by simpa using h)

/-- R175 check 4. -/
theorem decodeRequest_badLength {code : Byte} {payload : List Byte} (h : code ∈ requestCodes)
    (undecoded : ∀ r, decodeRequest code payload ≠ .ok r) : decodeRequest code payload = .error .badLength := by
  have known : requestCodes.contains code = true := by simpa using h
  unfold decodeRequest at undecoded ⊢
  rw [if_pos known] at undecoded ⊢
  split
  · next hr => exact absurd (by rw [hr]) (undecoded _)
  · rfl

/-! ### A frame taken or refused -/

section
variable {s : State}

theorem writeTransaction_answers (h : s.accepting) (bytes : List Byte) (n : Nat) :
    Answers (.writeTransaction bytes n) s (s.takeFrame (judge bytes n)) := by
  rcases h with h | h <;> simp only [Answers, exec, execWriteTransaction, h]

theorem writeTransaction_refused {bytes : List Byte} {n : Nat} {st : Status} (h : s.accepting)
    (hj : judge bytes n = .error st) : Answers (.writeTransaction bytes n) s (s.answered st []) := by
  have answers := writeTransaction_answers h bytes n
  rwa [hj] at answers

/-- R176: any request but RESET is handed to its owner. -/
theorem State.takeFrame_request {r : Instr} (h : r ≠ .reset) : s.takeFrame (.ok r) = s.take r := by
  cases r
  case reset => exact absurd rfl h
  all_goals rfl

end

/-- Settles O15: `judge` refuses such a frame. -/
theorem malformedFrameIsRefused : Obligations.MalformedFrameIsRefused :=
  fun _ _ _ accepting malformed => writeTransaction_refused accepting (judge_malformed malformed)

/-- Settles O16: the checks of `judge_whole` in order, and what `State.takeFrame` makes of each verdict. -/
theorem wholeFrameIsJudged : Obligations.WholeFrameIsJudged := by
  intro s code check payload bytes accepting short hb
  have verdict := writeTransaction_answers accepting bytes 0
  refine ⟨fun sum => ?_, fun sum unknown => ?_, fun sum known undecoded => ?_, fun r sum decoded other => ?_,
    fun sum decoded => ⟨_, reset_answers accepting, ?_⟩⟩
  · exact writeTransaction_refused accepting (judge_sum_nonzero short hb sum)
  · exact writeTransaction_refused accepting (judge_undecoded short hb sum (decodeRequest_unknown unknown payload))
  · exact writeTransaction_refused accepting (judge_undecoded short hb sum (decodeRequest_badLength known undecoded))
  · rwa [judge_decoded short hb sum decoded, State.takeFrame_request other] at verdict
  · rwa [judge_decoded short hb sum decoded] at verdict

/-! ### A busy link -/

theorem State.not_accepting_iff {s : State} : ¬s.accepting ↔ s.link.state = .executing ∨ s.link.state = .resetting := by
  unfold State.accepting
  cases s.link.state <;> simp

theorem writeTransaction_discarded {s : State} (h : ¬s.accepting) (bytes : List Byte) (n : Nat) :
    Answers (.writeTransaction bytes n) s s.discard := by
  rcases State.not_accepting_iff.1 h with h | h <;> simp only [Answers, exec, execWriteTransaction, h]

theorem reset_discarded {s : State} (h : ¬s.accepting) : Answers .reset s s.discard := by
  rcases State.not_accepting_iff.1 h with h | h <;> simp only [Answers, exec, execReset, State.resetRequest, h]

theorem request_discarded {s : State} {c : Instr} (hc : isRequest c = true) (h : ¬s.turn c) : Answers c s s.discard := by
  obtain ⟨owner, runs⟩ := exec_request hc s
  rw [Answers, runs, State.runRequest_busy h]

/-- Settles O17: each of the three is `State.discard`. -/
theorem busyLinkDiscards : Obligations.BusyLinkDiscards := by
  intro s t ht
  obtain rfl : t = s.discard := ht
  exact ⟨fun bytes n busy => writeTransaction_discarded busy bytes n, reset_discarded,
    fun _ hc => request_discarded hc⟩

/-! ### A request taken and executed -/

/-- Settles O19: an owner is handed `State.take` of the state either way. -/
theorem takenRequestExecutes : Obligations.TakenRequestExecutes := by
  intro s c hc accepting
  obtain ⟨owner, runs, -⟩ := exec_serves hc
  have taken : (s.take c).turn c := .inr ⟨rfl, rfl⟩
  have same : (s.take c).handed c = s.handed c := by
    rw [State.handed_executing _ c rfl, State.handed_accepting s c accepting]
  show exec c (s.take c) = exec c s
  rw [runs, runs, State.runRequest_turn taken, State.runRequest_turn (.inl accepting), same]

/-- Settles O20: by `exec_serves` an owner refuses, or answers OK or ACCEPTED. -/
theorem refusalsChangeNothing : Obligations.RefusalsChangeNothing := by
  intro s c hc turn
  obtain ⟨owner, runs, serves⟩ := exec_serves hc
  refine ⟨(owner (s.handed c)).1, (owner (s.handed c)).2.status, (owner (s.handed c)).2.payload, ?_, ?_⟩
  · rw [Answers, runs, State.runRequest_turn turn]
  · intro notOk notAccepted
    cases hserved : owner (s.handed c) with
    | mk t r =>
    have served := serves (s.handed c)
    rw [hserved] at served notOk notAccepted
    cases served with
    | refused st => exact ⟨rfl, s.handed_answered c st []⟩
    | done _ status => exact absurd status (not_or.2 ⟨notOk, notAccepted⟩)

/-! ### Responses -/

theorem responseFrame_length (st : Status) (payload : List Byte) : (responseFrame st payload).length = payload.length + 3 :=
  frameOf_length _ _

/-- R174: the second byte of a response is its payload's length. -/
theorem responseFrame_lengthByte (st : Status) {payload : List Byte} (h : payload.length ≤ 250) :
    ((responseFrame st payload).getD 1 0).toNat = payload.length := by
  show (byteOf payload.length).toNat = _
  rw [byteOf, BitVec.toNat_ofNat]
  omega

theorem State.handed_reportsFit {s : State} (c : Instr) (queue : s.QueueOk) (panels : ∀ p, (s.panel p).Ok) :
    (s.handed c).ReportsFit where
  queue := (congrArg List.length (s.handed_queue c)).trans_le queue.room
  stack p := by
    rw [State.handed_panel]
    exact (panels p).stack

theorem State.Serves.payload_fits {s : State} {a : State × Reply} (h : s.Serves a) (fit : s.ReportsFit) :
    a.2.payload.length ≤ 250 := by
  cases h with
  | refused st => exact Nat.zero_le _
  | done _ _ fits => exact fits fit

/-- Settles O21: by `exec_serves` the payload is of at most 250 bytes. -/
theorem responsesFitAFrame : Obligations.ResponsesFitAFrame := by
  intro s t c hc turn queue panels answers
  obtain ⟨owner, runs, serves⟩ := exec_serves hc
  rw [Answers, runs, State.runRequest_turn turn] at answers
  obtain rfl := Host.Outcome.next.inj answers
  have short := (serves (s.handed c)).payload_fits (State.handed_reportsFit c queue panels)
  refine ⟨_, rfl, rfl, ?_, ?_, byteSum_frameOf _ _⟩
  · rw [responseFrame_length]
    omega
  · rw [responseFrame_length, responseFrame_lengthByte _ short]

end Sys2Proof.Machine
end

section
/-! SUPPORT. What a read transaction sends in each link state (R177), and SDO through every transaction (R173, R180). -/

namespace Sys2Proof.Machine

/-! ### The bytes shifted out -/

section
variable {f : List Byte} {n : Nat}

@[simp] theorem shiftOut_length : (shiftOut f n).length = n := by
  simp only [shiftOut, List.length_append, List.length_take, zeros_length]
  omega

theorem shiftOut_part (h : n < f.length) : shiftOut f n = f.take n := by
  have unpadded : n - f.length = 0 := by omega
  simp [shiftOut, unpadded, zeros]

theorem shiftOut_whole (h : f.length ≤ n) : shiftOut f n = f ++ zeros (n - f.length) := by
  rw [shiftOut, List.take_of_length_le h]

/-- R177: each byte clocked is the frame's, and 0x00 after it. -/
theorem shiftOut_getD {k : Nat} (h : k < n) : (shiftOut f n).getD k 0 = f.getD k 0 := by
  rcases Nat.lt_or_ge k f.length with hk | hk
  · have inTake : k < (f.take n).length := by
      rw [List.length_take]
      omega
    rw [shiftOut, List.getD_append _ _ _ _ inTake, List.getD_eq_getElem _ _ inTake, List.getElem_take,
      List.getD_eq_getElem _ _ hk]
  · have afterTake : (f.take n).length ≤ k := by
      rw [List.length_take]
      omega
    rw [shiftOut, List.getD_append_right _ _ _ _ afterTake, List.getD_eq_default f _ hk]
    simp [zeros]

end

/-! ### A read transaction -/

section
variable {s : State}

theorem readTransaction_answers (h : s.rstLow = false) (busy : Bool) (n : Nat) :
    Answers (.readTransaction busy n) s (s.read busy n) := by
  simp [Answers, exec, execReadTransaction, h]

/-- R177: a frame the link forms itself changes nothing but the record of SDO. -/
theorem State.read_formed {busy : Bool} (h : busy = true ∨ s.link.state ≠ .responseReady) (n : Nat) :
    s.read busy n = { s with link := { s.link with sdo := shiftOut (s.readFrame busy) n } } := by
  refine if_neg fun held => ?_
  rcases h with h | h
  · cases h.symm.trans held.1
  · exact h held.2

theorem State.read_held {f : List Byte} (hl : s.link.state = .responseReady) (hf : s.link.buffer = some f) (n : Nat) :
    s.read false n = { s with link := { s.link with sdo := shiftOut f n } }.deliver f n := by
  have frame : s.readFrame false = f := by simp [State.readFrame, hl, hf]
  subst frame
  exact if_pos ⟨rfl, hl⟩

/-- Log 11: every read records the bytes of its frame. -/
theorem State.read_sdo (busy : Bool) (n : Nat) : (s.read busy n).link.sdo = shiftOut (s.readFrame busy) n := by
  simp only [State.read, State.deliver]
  split
  · split <;> rfl
  · rfl

theorem State.rstLow_of_state {l : LinkState} (h : s.link.state = l) (hl : l ≠ .resetting) : s.rstLow = false := by
  simp [State.rstLow, h, hl]

theorem readTransaction_formed {busy : Bool} (low : s.rstLow = false) (h : busy = true ∨ s.link.state ≠ .responseReady)
    {st : Status} (hf : s.readFrame busy = responseFrame st []) (n : Nat) :
    Answers (.readTransaction busy n) s { s with link := { s.link with
      sdo := (responseFrame st []).take n ++ zeros (n - 3) } } := by
  have answers := readTransaction_answers low busy n
  rwa [State.read_formed h, hf] at answers

/-- R177: a read that met EXECUTING or RESETTING at its opener, or finds it, is answered NOT_READY. -/
theorem State.readFrame_notReady {busy : Bool}
    (h : busy = true ∨ s.link.state = .executing ∨ s.link.state = .resetting) :
    s.readFrame busy = responseFrame .notReady [] := by
  unfold State.readFrame
  split
  · rfl
  · next hb => rcases h.resolve_left hb with h | h <;> rw [h]

theorem State.readFrame_noResponse (h : s.link.state = .idle) : s.readFrame false = responseFrame .noResponse [] := by
  simp [State.readFrame, h]

/-! ### SDO -/

/-- R173: while CS_N is low SDO is driven. -/
theorem State.sdoLine_driven (low : s.rstLow = false) (t : Transaction) {m : LinkMoment} (hm : m ≠ .csHigh) :
    s.sdoLine t m = .driven (s.sdoBit t m) :=
  if_neg (by simp [hm, low])

theorem State.sdoLine_low (low : s.rstLow = false) {t : Transaction} {m : LinkMoment} (hm : m ≠ .csHigh)
    (h : s.sdoBit t m = false) : s.sdoLine t m = .driven false := by
  rw [State.sdoLine_driven low t hm, h]

theorem State.sdoBit_opener (t : Transaction) (bit : Fin 8) : s.sdoBit t (.opener bit) = false := by
  cases t <;> rfl

theorem State.sdoBit_silent {t : Transaction} (h : ∀ busy, t ≠ .read busy) (m : LinkMoment) : s.sdoBit t m = false := by
  cases t with
  | read busy => exact absurd rfl (h busy)
  | write | ignored => cases m <;> rfl

end

/-- Settles O18: the frame of each link state by `State.read_formed` and `State.read_held`, its bits by `shiftOut_getD`. -/
theorem readTransactions : Obligations.ReadTransactions := by
  refine ⟨fun _ _ => rfl, fun s n low => ?_, fun s n busy => ?_, fun s n idle => ?_, fun s f n ready held part => ?_,
    fun s f n ready held whole => ?_, fun s busy n low => ?_,
    fun s tr => ⟨rfl, fun low => ⟨fun bit => ?_, fun silent k bit => ?_⟩⟩, fun s b n low => ?_⟩
  · exact readTransaction_formed low (.inl rfl) (State.readFrame_notReady (.inl rfl)) n
  · have low : s.rstLow = false := busy.elim (fun h => State.rstLow_of_state h nofun) And.right
    have state : s.link.state = .executing ∨ s.link.state = .resetting := busy.imp_right And.left
    have unheld : s.link.state ≠ .responseReady := by rcases state with h | h <;> simp [h]
    exact readTransaction_formed low (.inr unheld) (State.readFrame_notReady (.inr state)) n
  · exact readTransaction_formed (State.rstLow_of_state idle nofun) (.inr (by simp [idle]))
      (State.readFrame_noResponse idle) n
  · have answers := readTransaction_answers (State.rstLow_of_state ready nofun) false n
    rwa [State.read_held ready held, State.deliver, if_neg (Nat.not_le.2 part), shiftOut_part part] at answers
  · have answers := readTransaction_answers (State.rstLow_of_state ready nofun) false n
    rwa [State.read_held ready held, State.deliver, if_pos whole, shiftOut_whole whole] at answers
  · refine ⟨_, readTransaction_answers low busy n, ?_, fun k bit hk => ?_⟩
    · rw [State.read_sdo, shiftOut_length]
    · rw [State.read_sdo, shiftOut_getD hk]
      exact State.sdoLine_driven low _ (by simp)
  · exact State.sdoLine_low low (by simp) (State.sdoBit_opener tr bit)
  · exact State.sdoLine_low low (by simp) (State.sdoBit_silent silent _)
  · obtain ⟨-, reads, -⟩ := State.low_takes_nothing low
    exact reads b n

end Sys2Proof.Machine
end

section
/-! SUPPORT. The step of a queue that holds a command. -/

namespace Sys2Proof.Machine

/-- The front command leaves the queue and is executed on what stays: the counterpart of `step_of_empty`. -/
theorem step_of_front {s : State} {c : Instr} {rest : List Instr} (h : s.pending = c :: rest) :
    step s = exec c { s with pending := rest } := by
  unfold step
  split
  · next h' => cases h.symm.trans h'
  · next h' =>
    cases h.symm.trans h'
    rfl

/-- Settles O1: the queue `c :: rest` has `c` at its front, and putting `rest` in its place forgets it. -/
theorem stepRunsTheFrontCommand : Obligations.StepRunsTheFrontCommand :=
  fun _ _ _ => step_of_front rfl

end Sys2Proof.Machine
end
